-- ==== Sys2Proof/Word.lean ====
section
/-! DEFINITION. The words the manual treats as bits: bytes of a frame, 16-bit words of an object, 48-bit station
addresses, and the 32-bit accumulators and fingerprints. Times, counts, lengths and positions are natural numbers. -/

namespace Sys2Proof

/-- One byte of a frame. -/
abbrev Byte := BitVec 8

/-- One word of an object or of an OX payload (R93, R94). -/
abbrev Word := BitVec 16

/-- A station address, six bytes, the first byte the most significant (R2, R172). -/
abbrev Addr := BitVec 48

/-- A 32-bit accumulator, fingerprint or notice value (R93, R95, R137). -/
abbrev Quad := BitVec 32

end Sys2Proof
end

