-- ==== Sys2Proof/Config.lean ====
section
/-! DEFINITION. What the manual fixes for every filter (type values, capacities, fixed delays, delivery values and
ranges of the timing parameters), and the one free value of the model. -/

namespace Sys2Proof.Config

/-- The OX type (R2). -/
def oxType : BitVec 16 := 0x9A31#16
/-- The cyclic type (R2). -/
def cyclicType : BitVec 16 := 0x9A32#16
/-- The management type (R2). -/
def managementType : BitVec 16 := 0x9A3F#16

/-- The model code IDENTIFY returns (R174). -/
def modelCode : Nat := 0x2408

/-- The smallest and largest Ethernet payload of a frame of legal length (R1: 64 and 1,522 bytes in all). -/
def minPayload : Nat := 46
def maxPayload : Nat := 1504
/-- The length of the OX header (R173). -/
def oxHeaderBytes : Nat := 28
/-- The length of the management header (R174). -/
def managementHeaderBytes : Nat := 8
/-- The most words of a well-formed OX payload (R3, R11). -/
def maxWords : Nat := 720
/-- The longest object the filter can follow, in words (R55). -/
def maxObject : Nat := 262144

/-- Capacities (R164, and R144 for the forwarded queues). -/
def controllers : Nat := 32
def stationEntries : Nat := 64
def grantEntries : Nat := 128
def imageRecords : Nat := 256
def transferSlots : Nat := 8
def segmentPlaces : Nat := 16
def lanes : Nat := 2
def watches : Nat := 8
def noticePlaces : Nat := 32
def linePlaces : Nat := 9
def plantPlaces : Nat := 8
def forwardedPlaces : Nat := 256
/-- The Opening History holds at most four entries (R27). -/
def historyPlaces : Nat := 4
/-- An originated frame waits for at most four forwarded frames once it is the head (R145). -/
def maxTurns : Nat := 4

/-- The postponement delay, and the first scan after a reset or selection: 60 s in µs (R120, R122). -/
def scanDelay : Nat := 60000000
/-- The postponement count saturates here (R120). -/
def maxPostponed : Nat := 8
/-- The third mismatch of a window quarantines (R37). -/
def mismatchLimit : Nat := 3

/-- FREE VALUE (L2, DESIGN CHOICE): which of several owed events the filter raises first. Events that fall at the
same device time may be taken in either order, and the manual does not fix it; nothing constrains this choice. It
is applied to the number of choices made so far. -/
opaque eventChoice : Nat → Nat

end Sys2Proof.Config
end

