-- ==== Sys2Proof/Syntax.lean ====
section
/-! DEFINITION. The commands of the filter: one constructor for each row of spec/opcode_table.json, with its operands.
A frame is a row's operand as it is taken at a port; what its bytes mean is Machine/Operands.lean's. -/

namespace Sys2Proof

/-- The two ports (00_scope.md, "Placement on the line"). -/
inductive Port where
  | plant
  | line
  deriving DecidableEq, Repr

/-- An Ethernet frame: the four parts the filter reads, and its frame check sequence (R1). -/
structure Frame where
  /-- destination address -/
  dst : Addr
  /-- source address -/
  src : Addr
  /-- the two bytes that follow the source address -/
  etype : BitVec 16
  /-- every byte between the type field and the frame check sequence, padding included -/
  payload : List Byte
  /-- the frame check sequence the frame carries -/
  fcs : BitVec 32
  deriving DecidableEq, Repr

/-- The nine operations of the Object Exchange (R4). -/
inductive Operation where
  | read | summary | setParam | begins | segment | commit | abandon | mode | force
  deriving DecidableEq, Repr

/-- The twenty management commands (section 11.3). -/
inductive Command where
  | identify | readTime | readController | readRecord | loadRecord | clearShadow | selectBank | openWindow
  | closeWindow | quarantine | release | approveCandidate | discardCandidate | armWatch | disarmWatch | probe
  | readCounters | setTiming | setNoticeDestination | restart
  deriving DecidableEq, Repr

/-- The commands: one constructor for each row of the table of operations and events. A frame row carries the frame
(and the port where the row does not fix it), a controller's deadline the controller number, a slot's deadline the
slot number. -/
inductive Instr where
  | frameCheckDiscard (p : Port) (bytes : List Byte)
  | forwardFrame (p : Port) (f : Frame)
  | filterAddressedDiscard (p : Port) (f : Frame)
  | oxRead (f : Frame)
  | oxSummary (f : Frame)
  | oxSetParam (f : Frame)
  | oxMode (f : Frame)
  | oxForce (f : Frame)
  | oxBegin (f : Frame)
  | oxSegment (f : Frame)
  | oxCommit (f : Frame)
  | oxAbandon (f : Frame)
  | cyclicStatusFrame (f : Frame)
  | beginResponse (f : Frame)
  | commitResponse (f : Frame)
  | summaryResponse (f : Frame)
  | abandonResponse (f : Frame)
  | staleDeadline (n : Fin 32)
  | settleDeadline (n : Fin 32)
  | openingDeadline (n : Fin 32)
  | windowDeadline (n : Fin 32)
  | idleDeadline (k : Fin 8)
  | beginResponseDeadline (k : Fin 8)
  | commitResponseDeadline (k : Fin 8)
  | laneFinish (l : Fin 2)
  | nextDueExpiry (n : Fin 32)
  | scanResponseDeadline
  | identify (p : Port) (f : Frame)
  | readTime (p : Port) (f : Frame)
  | readController (p : Port) (f : Frame)
  | readRecord (p : Port) (f : Frame)
  | loadRecord (p : Port) (f : Frame)
  | clearShadow (p : Port) (f : Frame)
  | selectBank (p : Port) (f : Frame)
  | openWindow (p : Port) (f : Frame)
  | closeWindow (p : Port) (f : Frame)
  | quarantine (p : Port) (f : Frame)
  | release (p : Port) (f : Frame)
  | approveCandidate (p : Port) (f : Frame)
  | discardCandidate (p : Port) (f : Frame)
  | armWatch (p : Port) (f : Frame)
  | disarmWatch (p : Port) (f : Frame)
  | probe (p : Port) (f : Frame)
  | readCounters (p : Port) (f : Frame)
  | setTiming (p : Port) (f : Frame)
  | setNoticeDestination (p : Port) (f : Frame)
  | restart (p : Port) (f : Frame)
  | warmRestart
  | restartInputClosed
  | storeWriteEnd (success : Bool)
  | powerOnReset
  | linkDown (p : Port)
  | linkUp (p : Port)
  | egressChoice (p : Port)
  | frameSent (p : Port)
  | noticeLeavesQueue
  | restartInputOpened
  | powerLoss
  deriving DecidableEq, Repr

end Sys2Proof
end

