-- ==== Sys2Proof/Decode.lean ====
section
/-! DEFINITION. The codes by which a frame names its operation or command (R173, R174), the row they put a frame under,
and the command that a word spells by the table's bits. No row of spec/opcode_table.json gives bits (each row's "fields"
is empty and none has "fixed"): the commands are operations and events, not words. -/

namespace Sys2Proof

/-- The operation code of an OX frame and the command code of a management frame stand at offset 1 (R173, R174). -/
def Frame.code (f : Frame) : Nat := (f.payload.getD 1 0#8).toNat

/-- The frame's total length is 64 to 1,522 bytes (R1). -/
def Frame.legalLength (f : Frame) : Bool :=
  decide (Config.minPayload ≤ f.payload.length) && decide (f.payload.length ≤ Config.maxPayload)

/-- The codes of the operations (R173). -/
def Operation.code : Operation → Nat
  | .read => 1 | .summary => 2 | .setParam => 3 | .begins => 4 | .segment => 5 | .commit => 6
  | .abandon => 7 | .mode => 8 | .force => 9

/-- Operation code 0 and codes 10-255 are unknown (R4, R173). -/
def Operation.ofCode : Nat → Option Operation
  | 1 => some .read | 2 => some .summary | 3 => some .setParam | 4 => some .begins | 5 => some .segment
  | 6 => some .commit | 7 => some .abandon | 8 => some .mode | 9 => some .force | _ => none

/-- The codes of the management commands (R174). -/
def Command.code : Command → Nat
  | .identify => 1 | .readTime => 2 | .readController => 3 | .readRecord => 4 | .loadRecord => 5
  | .clearShadow => 6 | .selectBank => 7 | .openWindow => 8 | .closeWindow => 9 | .quarantine => 10
  | .release => 11 | .approveCandidate => 12 | .discardCandidate => 13 | .armWatch => 15 | .disarmWatch => 16
  | .probe => 17 | .readCounters => 18 | .setTiming => 19 | .setNoticeDestination => 20 | .restart => 21

/-- Command code 14 and codes 0 and 22-255 are unknown (R174). -/
def Command.ofCode : Nat → Option Command
  | 1 => some .identify | 2 => some .readTime | 3 => some .readController | 4 => some .readRecord
  | 5 => some .loadRecord | 6 => some .clearShadow | 7 => some .selectBank | 8 => some .openWindow
  | 9 => some .closeWindow | 10 => some .quarantine | 11 => some .release | 12 => some .approveCandidate
  | 13 => some .discardCandidate | 15 => some .armWatch | 16 => some .disarmWatch | 17 => some .probe
  | 18 => some .readCounters | 19 => some .setTiming | 20 => some .setNoticeDestination | 21 => some .restart
  | _ => none

/-- The row under which a request of this frame's operation code is taken: its operation's; an unknown operation is
malformed (R11), and is taken under BEGIN, where 95_what_each_step_holds.md lists MALFORMED. DESIGN CHOICE (L12). -/
def Frame.requestRow (f : Frame) : Operation := (Operation.ofCode f.code).getD .begins

/-- The row under which a management frame of this command code is taken: its command's; an unknown code is answered
UNKNOWN_COMMAND (R162), and is taken under IDENTIFY, where 95_what_each_step_holds.md lists the request check.
DESIGN CHOICE (L12). -/
def Frame.commandRow (f : Frame) : Command := (Command.ofCode f.code).getD .identify

/-- The command a table word spells: none, since no row of the table gives bits. -/
def decodeTableWord (_nbits _w : Nat) : Option Instr := none

end Sys2Proof
end

