-- ==== Sys2Proof/WellFormed.lean ====
section
/-! DEFINITION. What makes a command's operand one of its row, looking at the operand alone: a legal frame length, the
row's type field, and the row's operation or command code. Whether the row's event takes place in a state is
`State.rowOf`'s and the meanings' to say. -/

namespace Sys2Proof

/-- A request frame of an operation's row. -/
def Frame.isRequestOf (f : Frame) (o : Operation) : Bool :=
  f.legalLength && f.etype == Config.oxType && f.requestRow == o

/-- A response frame of an operation's row: its code is the operation's own. -/
def Frame.isResponseOf (f : Frame) (o : Operation) : Bool :=
  f.legalLength && f.etype == Config.oxType && f.code == o.code

/-- A management frame of a command's row. -/
def Frame.isManagementOf (f : Frame) (c : Command) : Bool :=
  f.legalLength && f.etype == Config.managementType && f.commandRow == c

/-- A command whose operand is one of its row. -/
def Instr.wellFormed : Instr → Bool
  | .frameCheckDiscard _ _ => true
  | .forwardFrame _ f => f.legalLength
  | .filterAddressedDiscard _ f => f.legalLength && f.etype != Config.managementType
  | .oxRead f => f.isRequestOf .read
  | .oxSummary f => f.isRequestOf .summary
  | .oxSetParam f => f.isRequestOf .setParam
  | .oxMode f => f.isRequestOf .mode
  | .oxForce f => f.isRequestOf .force
  | .oxBegin f => f.isRequestOf .begins
  | .oxSegment f => f.isRequestOf .segment
  | .oxCommit f => f.isRequestOf .commit
  | .oxAbandon f => f.isRequestOf .abandon
  | .cyclicStatusFrame f => f.legalLength && f.etype == Config.cyclicType
  | .beginResponse f => f.isResponseOf .begins
  | .commitResponse f => f.isResponseOf .commit
  | .summaryResponse f => f.isResponseOf .summary
  | .abandonResponse f => f.isResponseOf .abandon
  | .staleDeadline _ => true
  | .settleDeadline _ => true
  | .openingDeadline _ => true
  | .windowDeadline _ => true
  | .idleDeadline _ => true
  | .beginResponseDeadline _ => true
  | .commitResponseDeadline _ => true
  | .laneFinish _ => true
  | .nextDueExpiry _ => true
  | .scanResponseDeadline => true
  | .identify _ f => f.isManagementOf .identify
  | .readTime _ f => f.isManagementOf .readTime
  | .readController _ f => f.isManagementOf .readController
  | .readRecord _ f => f.isManagementOf .readRecord
  | .loadRecord _ f => f.isManagementOf .loadRecord
  | .clearShadow _ f => f.isManagementOf .clearShadow
  | .selectBank _ f => f.isManagementOf .selectBank
  | .openWindow _ f => f.isManagementOf .openWindow
  | .closeWindow _ f => f.isManagementOf .closeWindow
  | .quarantine _ f => f.isManagementOf .quarantine
  | .release _ f => f.isManagementOf .release
  | .approveCandidate _ f => f.isManagementOf .approveCandidate
  | .discardCandidate _ f => f.isManagementOf .discardCandidate
  | .armWatch _ f => f.isManagementOf .armWatch
  | .disarmWatch _ f => f.isManagementOf .disarmWatch
  | .probe _ f => f.isManagementOf .probe
  | .readCounters _ f => f.isManagementOf .readCounters
  | .setTiming _ f => f.isManagementOf .setTiming
  | .setNoticeDestination _ f => f.isManagementOf .setNoticeDestination
  | .restart _ f => f.isManagementOf .restart
  | .warmRestart => true
  | .restartInputClosed => true
  | .storeWriteEnd _ => true
  | .powerOnReset => true
  | .linkDown _ => true
  | .linkUp _ => true
  | .egressChoice _ => true
  | .frameSent _ => true
  | .noticeLeavesQueue => true
  | .restartInputOpened => true
  | .powerLoss => true

end Sys2Proof
end

