-- ==== Sys2Proof/Machine/State.lean ====
section
/-! DEFINITION. The state of the filter as plain data: every piece of state the manual gives it, the queue of waiting
commands, and the value of each after a power-on reset. A field the manual says is present only in some states of its
record is carried by the constructor of those states, so it cannot be present elsewhere. -/

namespace Sys2Proof.Machine

/-! ## Codes and causes -/

/-- The reason codes (R173). -/
inductive Reason where
  | unknownSource | noGrant | level | noRight | locked | quarantine | busy | noTransfer | sequence | length
  | tooLong | noImage | mismatch | imageFull | slotsFull | closed | timeout
  deriving DecidableEq, Repr

/-- The window causes of a notice (R175). -/
inductive WindowCause where
  | command | expired | running | stale | singleDone | link | runAfterCommit | notQuiet
  deriving DecidableEq, Repr

/-- The quarantine causes (R20, R175). -/
inductive QuarantineCause where
  | drift | mismatchLimit | manual
  deriving DecidableEq, Repr

/-- The window modes (R20). -/
inductive WindowMode where
  | single | span
  deriving DecidableEq, Repr

/-- The causes of close-pending (R20). -/
inductive CloseCause where
  | command | expired | runAfterCommit
  deriving DecidableEq, Repr

/-- The Status Monitor's readings of a controller's run state (R22). -/
inductive Observation where
  | none | quiet | running | stale
  deriving DecidableEq, Repr

/-- The image check of a grant, and the effective image check of a transfer (R44, R55). -/
inductive ImageCheck where
  | required | learn | none
  deriving DecidableEq, Repr

/-! ## Policy banks (R151) -/

/-- A controller definition (R19). -/
structure ControllerDef where
  addr : Addr
  statusOffset : Nat
  quietSet : List Byte
  /-- seconds; 0 means that scanning is off -/
  scanInterval : Nat
  deriving DecidableEq, Repr

/-- The rights of a station entry, or the operations of a grant entry, where MANAGE is never among them (R43, R44). -/
structure Rights where
  manage : Bool
  param : Bool
  write : Bool
  mode : Bool
  force : Bool
  deriving DecidableEq, Repr

/-- A station entry (R43). -/
structure StationEntry where
  addr : Addr
  level : Nat
  rights : Rights
  deriving DecidableEq, Repr

/-- A grant entry (R44); `none` stands for ANY. -/
structure Grant where
  controller : Option (Fin 32)
  cls : Option Nat
  low : Nat
  high : Nat
  operations : Rights
  level : Nat
  /-- window NEEDED -/
  needed : Bool
  check : ImageCheck
  deriving DecidableEq, Repr

/-- The status of an image record; learned-at is present in a CANDIDATE only (R109). -/
inductive ImageStatus where
  | approved
  | candidate (learnedAt : Nat)
  deriving DecidableEq, Repr

/-- An image record (R109). -/
structure ImageRecord where
  controller : Fin 32
  cls : Nat
  idx : Nat
  length : Nat
  fingerprint : Quad
  status : ImageStatus
  deriving DecidableEq, Repr

/-- A policy bank: four tables, each position empty or holding one record (R151). -/
structure Bank where
  definitions : Vector (Option ControllerDef) 32
  stations : Vector (Option StationEntry) 64
  grants : Vector (Option Grant) 128
  images : Vector (Option ImageRecord) 256
  deriving DecidableEq, Repr

/-- A bank with every position empty (R153, R159). -/
def Bank.empty : Bank where
  definitions := Vector.replicate 32 none
  stations := Vector.replicate 64 none
  grants := Vector.replicate 128 none
  images := Vector.replicate 256 none

/-! ## Settings -/

/-- The seven timing parameters (R168); T_settle, T_stale, T_seg and T_resp in ms, the others in s. -/
structure Timing where
  settle : Nat
  opening : Nat
  stale : Nat
  win : Nat
  openRate : Nat
  seg : Nat
  resp : Nat
  deriving DecidableEq, Repr

/-- The delivery values (R168). -/
def Timing.delivery : Timing :=
  { settle := 2000, opening := 60, stale := 250, win := 1800, openRate := 600, seg := 5000, resp := 2000 }

/-- The stored image of the Settings Store (R157). Its check word is modelled by its presence: an image whose check
word is not good is `none`, since nothing of it is ever used (L10). -/
structure StoredImage where
  bank : Bank
  generation : Nat
  timing : Timing
  destination : Addr
  deriving DecidableEq, Repr

/-! ## Controllers -/

/-- The window state of a defined controller with the fields present in it (R20). -/
inductive Window where
  | locked
  | opening (mode : WindowMode) (length : Nat) (deadline : Nat)
  | opened (mode : WindowMode) (deadline : Nat)
  | transfer (mode : WindowMode) (deadline : Nat) (slot : Fin 8)
  /-- the window deadline is absent once it has expired here (R33) -/
  | verify (mode : WindowMode) (deadline : Option Nat) (slot : Fin 8) (closing : Option CloseCause)
  | commitWait (mode : WindowMode) (deadline : Option Nat) (slot : Fin 8) (closing : Option CloseCause)
  | quarantined (cause : QuarantineCause)
  deriving DecidableEq, Repr

/-- The quiet run of a controller in OPENING: quiet-since and the settle deadline, present together (R22, R25). -/
structure QuietRun where
  since : Nat
  settle : Nat
  deriving DecidableEq, Repr

/-- What the Status Monitor holds for a defined controller (R22). -/
structure Monitor where
  observed : Observation
  lastFrame : Option Nat
  stale : Nat
  quiet : Option QuietRun
  deriving DecidableEq, Repr

/-- What the Drift Scanner holds for a defined controller (R120). -/
structure Schedule where
  nextDue : Nat
  postponed : Nat
  overdue : Bool
  deriving DecidableEq, Repr

/-- The dynamic state of a defined controller (R20, R22, R120). -/
structure Controller where
  window : Window
  mismatches : Nat
  monitor : Monitor
  schedule : Schedule
  deriving DecidableEq, Repr

/-- The four counters of a controller number, each a 32-bit count that saturates (R21). -/
structure ControllerCounters where
  admitted : Nat
  refusals : Nat
  released : Nat
  mismatches : Nat
  deriving DecidableEq, Repr

/-- The six device counters, each a 32-bit count that saturates (R167). -/
structure DeviceCounters where
  receivedDiscarded : Nat
  malformed : Nat
  segmentDrop : Nat
  notSent : Nat
  linkDiscarded : Nat
  forwardOverflow : Nat
  deriving DecidableEq, Repr

/-! ## Transfers and fingerprints -/

/-- The fields of a live slot that name its download (R65). -/
structure Transfer where
  controller : Fin 32
  requester : Addr
  tid : Nat
  cls : Nat
  idx : Nat
  declared : Nat
  check : ImageCheck
  /-- words accepted -/
  words : Nat
  deriving DecidableEq, Repr

/-- Accumulators A and B and the position i (R93). -/
structure Sums where
  a : Quad
  b : Quad
  i : Nat
  deriving DecidableEq, Repr

/-- The fields of a slot that is taking segments (R65). -/
structure Intake where
  expected : Nat
  last : Option Nat
  idle : Nat
  /-- the response deadline for the answer to the BEGIN: present in BEGUN, absent in LOADING (R65, R71) -/
  answer : Option Nat
  deriving DecidableEq, Repr

/-- A transfer slot with the fields present in its phase (R65). -/
inductive Slot where
  | free
  /-- BEGUN while the response deadline for the BEGIN is present, LOADING once it is absent (R71) -/
  | taking (x : Transfer) (sums : Sums) (pending : Nat) (q : Intake)
  | verifying (x : Transfer) (sums : Sums) (pending : Nat) (held : Frame)
  | released (x : Transfer) (deadline : Nat)
  /-- pending is 1: the segment a lane still holds (R65) -/
  | draining
  deriving DecidableEq, Repr

/-- A waiting entry of the Segment Queue; its word count is the length of its list of words (R98). -/
structure SegmentEntry where
  slot : Fin 8
  number : Nat
  words : List Word
  deriving DecidableEq, Repr

/-- What a busy Fingerprint Lane holds (R100): the entry it took and the sums it loaded. The words are worked through
in the step in which the lane finishes (L20). -/
structure LaneWork where
  entry : SegmentEntry
  sums : Sums
  deriving DecidableEq, Repr

/-! ## Scanner, watches, notices -/

/-- The round record of the Drift Scanner in a round (R120). -/
structure Round where
  controller : Fin 32
  start : Nat
  position : Nat
  attempt : Nat
  tag : Nat
  deadline : Nat
  deriving DecidableEq, Repr

/-- An armed watch (R133); a class of `none` stands for ANY. -/
structure Watch where
  controller : Fin 32
  cls : Option Nat
  low : Nat
  high : Nat
  /-- scope ALL -/
  all : Bool
  repeats : Bool
  deriving DecidableEq, Repr

/-- The twenty-one notice kinds (R143). -/
inductive NoticeKind where
  | refused | malformed | windowOpened | windowFailed | windowClosed | rateLimited | transferAborted
  | commitReleased | commitFailed | commitUnconfirmed | imageMismatch | imageLearned | quarantined | released
  | drift | scanNoResponse | scanOverdue | watchHit | mgmtRefused | bankSelected | storeFailed
  deriving DecidableEq, Repr

/-- What the reason field of a notice can hold (R137, R175). -/
inductive NoticeReason where
  | reason (r : Reason)
  | window (c : WindowCause)
  | quarantine (c : QuarantineCause)
  | mode (m : WindowMode)
  deriving DecidableEq, Repr

/-- A notice (R137). The dropped count is written when it leaves, and stands in the queued frame (`OrigKind.notice`). -/
structure Notice where
  kind : NoticeKind
  time : Nat
  controller : Option (Fin 32) := none
  station : Option Addr := none
  /-- class and index, present together -/
  object : Option (Nat × Nat) := none
  tid : Option Nat := none
  reason : Option NoticeReason := none
  first : Option Quad := none
  second : Option Quad := none
  deriving DecidableEq, Repr

/-! ## Ports -/

/-- What a frame the filter originated is (R147, R148). -/
inductive OrigKind where
  | refusal
  | reply
  /-- the reply to the RESTART that made a restart pending (R170) -/
  | restartReply
  /-- a notice frame with the dropped count it carries (R141, R142) -/
  | notice (dropped : Nat)
  | abandon
  | summary
  deriving DecidableEq, Repr

/-- A frame of an originate queue. -/
structure OrigFrame where
  kind : OrigKind
  frame : Frame
  deriving DecidableEq, Repr

/-- A frame being sent on a port (R145). -/
inductive Sending where
  | forwarded (f : Frame)
  | originated (o : OrigFrame)
  deriving DecidableEq, Repr

/-- A port: its link, its two queues, its transmitter and its arbiter's count (R144 to R149). -/
structure PortState where
  up : Bool
  forwarded : List Frame
  originate : List OrigFrame
  sending : Option Sending
  turns : Nat
  /-- the device time at which a forwarded frame's placement started the transmitter with both queues empty, until the
  arbiter's next choice or the next originated frame (R146; DEDUCED, L26) -/
  begun : Option Nat := none
  deriving DecidableEq, Repr

/-- A port after power-on reset: link down, queues empty, turns waited 0 (R150). -/
def PortState.reset : PortState := { up := false, forwarded := [], originate := [], sending := none, turns := 0 }

/-- What is fixed at manufacture (R2, R164). -/
structure Identity where
  station : Addr
  hardware : Nat
  function : Nat
  deriving DecidableEq, Repr

/-! ## The state -/

/-- The state of the filter, and the queue of waiting commands. -/
structure State where
  /-- fixed at manufacture; no command changes it (R2) -/
  identity : Identity
  /-- the supply is applied -/
  powered : Bool
  /-- device time in µs (R17) -/
  time : Nat
  timing : Timing
  /-- Closed fallback (R159) -/
  fallback : Bool
  /-- bank generation (R151) -/
  generation : Nat
  active : Bank
  shadow : Bank
  /-- the dynamic state by controller number: none for a number with no definition in the active bank -/
  controllers : Vector (Option Controller) 32
  /-- kept for every number, defined or not (R21) -/
  counters : Vector ControllerCounters 32
  device : DeviceCounters
  /-- the Opening History, oldest first (R27) -/
  history : List Nat
  slots : Vector Slot 8
  /-- the waiting entries of the Segment Queue, oldest first (R98) -/
  waiting : List SegmentEntry
  /-- the Fingerprint Lanes; a busy lane keeps one place of the queue (R100) -/
  lanes : Vector (Option LaneWork) 2
  /-- the scanner's tag counter (R120) -/
  tagCounter : Nat
  /-- the round record, none when idle (R120) -/
  round : Option Round
  /-- the eight watches, none when disarmed (R133) -/
  watches : Vector (Option Watch) 8
  /-- the Notice Queue, head first (R139) -/
  notices : List Notice
  dropped : Nat
  /-- the notice destination, zero for none (R138) -/
  destination : Addr
  plant : PortState
  line : PortState
  /-- the stored image, none when its check word is not good (R157) -/
  stored : Option StoredImage
  /-- the store-busy flag, with the image that the write in flight is writing (R158) -/
  writing : Option StoredImage
  /-- a RESTART is pending (R170) -/
  restartPending : Bool
  /-- the restart input line is closed (R171) -/
  lineClosed : Bool
  /-- the closings of the line that wait for the end of a store write, each for its restart (R171; L23) -/
  lineWaiting : Nat
  /-- the commands that wait, first in first out -/
  pending : List Instr
  /-- THE MODEL'S OWN: how many choices among owed events have been made; `Config.eventChoice` is applied to it (L2) -/
  choices : Nat
  deriving DecidableEq, Repr

/-- The faults. There are none: no event of the manual stops the filter, and no command raises one. -/
inductive Fault where
  deriving DecidableEq, Repr

/-- The refusals. -/
inductive Refusal where
  /-- a command that has no meaning yet, by its mnemonic. Raised by no command: every row has its meaning. Safe. -/
  | notModelled (mnemonic : String)
  deriving DecidableEq, Repr

/-! ## After power-on reset -/

/-- The counters at 0 (R21). -/
def ControllerCounters.zero : ControllerCounters := { admitted := 0, refusals := 0, released := 0, mismatches := 0 }

/-- The device counters at 0 (R1, R12, R75, R144, R148, R149). -/
def DeviceCounters.zero : DeviceCounters :=
  { receivedDiscarded := 0, malformed := 0, segmentDrop := 0, notSent := 0, linkDiscarded := 0, forwardOverflow := 0 }

/-- The identity of the modelled unit. DESIGN CHOICE (L6), unsafe: the manual gives no address and no revision. -/
def Identity.chosen : Identity := { station := 0x024D42002408#48, hardware := 1, function := 1 }

/-- The filter after a power-on reset, as it is delivered: no stored image with a good check word, so it is in Closed
fallback (R157, R159; DEDUCED from section 13.1, L5), with its links down (R150) and device time 0 (R17). -/
def State.reset : State where
  identity := Identity.chosen
  powered := true
  time := 0
  timing := Timing.delivery
  fallback := true
  generation := 0
  active := Bank.empty
  shadow := Bank.empty
  controllers := Vector.replicate 32 none
  counters := Vector.replicate 32 ControllerCounters.zero
  device := DeviceCounters.zero
  history := []
  slots := Vector.replicate 8 Slot.free
  waiting := []
  lanes := Vector.replicate 2 none
  tagCounter := 0
  round := none
  watches := Vector.replicate 8 none
  notices := []
  dropped := 0
  destination := 0#48
  plant := PortState.reset
  line := PortState.reset
  stored := none
  writing := none
  restartPending := false
  lineClosed := false
  lineWaiting := 0
  pending := []
  choices := 0

end Sys2Proof.Machine
end

