-- ==== Sys2Proof/Machine/Flags.lean ====
section
/-! DEFINITION. The counters and the conditions that stand for flags: how a 32-bit count saturates, when the filter
protects, when a port takes frames, when the store is busy and when a restart is due. -/

namespace Sys2Proof.Machine

/-- One more, on a 32-bit count that saturates (R1, R12, R21, R75, R144, R148, R149). -/
def saturate32 (n : Nat) : Nat := if n < 4294967295 then n + 1 else n

/-- Several more, on a 32-bit count that saturates: `k` rises of one (R149). -/
def saturate32By (k n : Nat) : Nat := if n + k < 4294967295 then n + k else max n 4294967295

/-- The dropped count raised by `k`, saturating at 255 (R140, R142). -/
def saturateDropped (k n : Nat) : Nat := if n + k < 255 then n + k else max n 255

/-- One more postponement, saturating at 8 (R122). -/
def saturatePostponed (n : Nat) : Nat := if n < Config.maxPostponed then n + 1 else n

/-- One more mismatch of a window, of a count 0-3 (R20, R37). -/
def saturateMismatch (n : Nat) : Nat := if n < Config.mismatchLimit then n + 1 else n

/-- The state of a port. -/
def State.port (s : State) : Port → PortState
  | .plant => s.plant
  | .line => s.line

/-- A port takes frames while the filter is powered and the port's link is up (R1, R149). -/
def State.takes (s : State) (p : Port) : Bool := s.powered && (s.port p).up

/-- The store-busy flag (R157, R158). -/
def State.storeBusy (s : State) : Bool := s.writing.isSome

/-- The frame is the reply to the RESTART that made a restart pending. -/
def OrigFrame.isRestartReply (o : OrigFrame) : Bool := o.kind == .restartReply

/-- The frame is a SUMMARY of the Drift Scanner. -/
def OrigFrame.isSummary (o : OrigFrame) : Bool := o.kind == .summary

/-- The frame being sent is the reply to the RESTART that made a restart pending. -/
def Sending.isRestartReply : Sending → Bool
  | .forwarded _ => false
  | .originated o => o.isRestartReply

/-- The transmitter is free: the link is up and no frame is being sent (R145). -/
def PortState.isFree (q : PortState) : Bool := q.up && q.sending.isNone

/-- Both queues of a port are empty. -/
def PortState.isIdle (q : PortState) : Bool := q.forwarded.isEmpty && q.originate.isEmpty

/-- The reply that made a restart pending still waits in the Plant originate queue, or is being sent (R170). -/
def State.restartReplyWaits (s : State) : Bool :=
  s.plant.originate.any OrigFrame.isRestartReply || s.plant.sending.any Sending.isRestartReply

/-- A restart is due: one is pending by RESTART and its reply is finished with, or a closing of the line has waited,
and no store write is in flight (R158, R170, R171). -/
def State.restartDue (s : State) : Bool :=
  !s.storeBusy && ((s.restartPending && !s.restartReplyWaits) || decide (0 < s.lineWaiting))

/-- Turns waited after a frame is removed from the originate queue without being sent: 0 when it stood at the head
(R145). -/
def turnsAfterRemoval (headRemoved : Bool) (turns : Nat) : Nat := if headRemoved then 0 else turns

end Sys2Proof.Machine
end

