-- ==== Sys2Proof/Machine/Operands.lean ====
section
/-! DEFINITION. The operands a frame carries, read from its bytes and written into bytes as the chapter Frame Layouts
gives them: byte order, the OX header and payload, the management header, arguments, results and records, the notice
frame, and the frame check sequence. -/

namespace Sys2Proof.Machine

/-! ## Bytes (R172: most significant byte first) -/

/-- The low `n` bytes of a value, most significant first. -/
def bytesOf : Nat → Nat → List Byte
  | 0, _ => []
  | n + 1, v => BitVec.ofNat 8 (v / 256 ^ n) :: bytesOf n v

/-- The value of a run of bytes, most significant first. -/
def natOf (bs : List Byte) : Nat := bs.foldl (fun acc b => acc * 256 + b.toNat) 0

/-- The value of the field of `len` bytes at offset `off`; bytes past the end are not there. -/
def fieldAt (bs : List Byte) (off len : Nat) : Nat := natOf ((bs.drop off).take len)

/-- A station address, as carried on the wire. -/
def addrBytes (a : Addr) : List Byte := bytesOf 6 a.toNat

/-- The station address at an offset. -/
def addrAt (bs : List Byte) (off : Nat) : Addr := BitVec.ofNat 48 (fieldAt bs off 6)

/-- A group address: the least significant bit of its first byte is set. PRESUMED (L9), from IEEE 802: the manual
speaks of group addresses (broadcast or multicast) without saying how one is told. -/
def isGroup (a : Addr) : Bool := a.getLsbD 40

/-- The upper and lower 32 bits of a device time (R175). -/
def upperHalf (t : Nat) : Quad := BitVec.ofNat 32 (t / 4294967296)
def lowerHalf (t : Nat) : Quad := BitVec.ofNat 32 t

/-! ## The frame check sequence

PRESUMED (L8), from IEEE 802.3: the manual names the frame check sequence of an Ethernet frame and takes it as known. -/

/-- One bit of the CRC-32 division, in its reflected form. -/
def crcBit (c : Nat) : Nat := if c % 2 = 1 then (c / 2) ^^^ 0xEDB88320 else c / 2

/-- One byte of the CRC-32 division. -/
def crcByte (c : Nat) (b : Byte) : Nat :=
  crcBit (crcBit (crcBit (crcBit (crcBit (crcBit (crcBit (crcBit (c ^^^ b.toNat))))))))

/-- The CRC-32 of a run of bytes. -/
def crc32 (bs : List Byte) : BitVec 32 := BitVec.ofNat 32 (bs.foldl crcByte 0xFFFFFFFF ^^^ 0xFFFFFFFF)

/-- The bytes a frame check sequence covers: addresses, type and payload. -/
def coveredBytes (f : Frame) : List Byte := addrBytes f.dst ++ addrBytes f.src ++ bytesOf 2 f.etype.toNat ++ f.payload

/-- The frame check sequence a frame should carry. -/
def goodFcs (f : Frame) : BitVec 32 := crc32 (coveredBytes f)

/-- The frame that a run of received bytes is, when it is long enough to have addresses, a type and a check sequence;
the check sequence is carried with its least significant byte first. -/
def frameOfBytes (bs : List Byte) : Option Frame :=
  if bs.length < 18 then none
  else some
    { dst := addrAt bs 0
      src := addrAt bs 6
      etype := BitVec.ofNat 16 (fieldAt bs 12 2)
      payload := (bs.drop 14).take (bs.length - 18)
      fcs := BitVec.ofNat 32 (natOf (bs.drop (bs.length - 4)).reverse) }

/-- The payload padded with zero bytes to the 46 bytes of a minimum frame (R16, R172). -/
def padPayload (bs : List Byte) : List Byte := bs ++ List.replicate (Config.minPayload - bs.length) 0#8

/-- A frame the filter builds: padded, with its frame check sequence. -/
def buildFrame (dst src : Addr) (etype : BitVec 16) (payload : List Byte) : Frame :=
  let f : Frame := { dst := dst, src := src, etype := etype, payload := padPayload payload, fcs := 0#32 }
  { f with fcs := goodFcs f }

/-! ## The OX header and payload (R3, R173) -/

/-- The fields of the OX header, as carried. -/
structure OxHeader where
  version : Nat
  operation : Nat
  response : Nat
  claimed : Nat
  status : Nat
  detail : Nat
  tag : Nat
  tid : Nat
  cls : Nat
  idx : Nat
  number : Nat
  words : Nat
  declared : Nat
  behalf : Addr
  deriving DecidableEq, Repr

/-- The OX header of an Ethernet payload. -/
def oxHeader (bs : List Byte) : OxHeader :=
  { version := fieldAt bs 0 1, operation := fieldAt bs 1 1, response := fieldAt bs 2 1, claimed := fieldAt bs 3 1
    status := fieldAt bs 4 1, detail := fieldAt bs 5 1, tag := fieldAt bs 6 2, tid := fieldAt bs 8 2
    cls := fieldAt bs 10 1, idx := fieldAt bs 12 2, number := fieldAt bs 14 2, words := fieldAt bs 16 2
    declared := fieldAt bs 18 4, behalf := addrAt bs 22 }

/-- The 28 bytes of an OX header; the reserved byte at offset 11 is zero (R172). -/
def oxHeaderBytes (h : OxHeader) : List Byte :=
  bytesOf 1 h.version ++ bytesOf 1 h.operation ++ bytesOf 1 h.response ++ bytesOf 1 h.claimed ++ bytesOf 1 h.status
    ++ bytesOf 1 h.detail ++ bytesOf 2 h.tag ++ bytesOf 2 h.tid ++ bytesOf 1 h.cls ++ [0#8] ++ bytesOf 2 h.idx
    ++ bytesOf 2 h.number ++ bytesOf 2 h.words ++ bytesOf 4 h.declared ++ addrBytes h.behalf

/-- Zero marks a request, any other value a response (R172). -/
def OxHeader.isResponse (h : OxHeader) : Bool := h.response != 0

/-- The claimed level as admission reads it: a value above 3 is taken as 3 (R50). -/
def OxHeader.level (h : OxHeader) : Nat := min h.claimed 3

/-- The word count agrees with the OX payload length found from the Ethernet payload (R11): over 46 bytes the payload is
every byte after the header; at exactly 46 bytes it is the first 2 × word count bytes, of 18. -/
def lengthsAgree (bs : List Byte) (words : Nat) : Bool :=
  if bs.length > Config.minPayload then bs.length - Config.oxHeaderBytes == 2 * words
  else decide (2 * words ≤ bs.length - Config.oxHeaderBytes)

/-- The form conditions of R11 that hold at any port and state: version, operation, word count, lengths. -/
def wellFormedOx (bs : List Byte) : Bool :=
  let h := oxHeader bs
  h.version == 1 && (Operation.ofCode h.operation).isSome && decide (h.words ≤ Config.maxWords)
    && lengthsAgree bs h.words

/-- The check of a response addressed to the filter (R15). -/
def wellFormedResponse (bs : List Byte) : Bool :=
  let h := oxHeader bs
  h.version == 1 && (Operation.ofCode h.operation).isSome && lengthsAgree bs h.words
    && !(h.operation == Operation.summary.code && h.status == 0 && h.words != 4)

/-- The words of a run of bytes, the first byte of each pair the more significant (R94, R173). -/
def wordsOf : List Byte → List Word
  | hi :: lo :: rest => (hi ++ lo) :: wordsOf rest
  | _ => []

/-- The payload words of a frame: its first word-count words (R94). -/
def oxWords (bs : List Byte) : List Word :=
  wordsOf ((bs.drop Config.oxHeaderBytes).take (2 * (oxHeader bs).words))

/-- The reported length and fingerprint of an OK SUMMARY response: words 0 and 1, then 2 and 3 (R97, R173). -/
def reportedLength (bs : List Byte) : Nat := fieldAt bs 28 4
def reportedFingerprint (bs : List Byte) : Quad := BitVec.ofNat 32 (fieldAt bs 32 4)

/-- The header of an OX frame with every field zero but the version (R16). -/
def OxHeader.blank : OxHeader :=
  { version := 1, operation := 0, response := 0, claimed := 0, status := 0, detail := 0, tag := 0, tid := 0, cls := 0
    idx := 0, number := 0, words := 0, declared := 0, behalf := 0#48 }

/-! ## Codes (R173 to R175) -/

/-- The status codes the filter reads or writes (R5, R173). -/
def statusOk : Nat := 0
def statusNoObject : Nat := 2
def statusFilterRefused : Nat := 4

def Reason.code : Reason → Nat
  | .unknownSource => 1 | .noGrant => 2 | .level => 3 | .noRight => 4 | .locked => 5 | .quarantine => 6 | .busy => 7
  | .noTransfer => 8 | .sequence => 9 | .length => 10 | .tooLong => 11 | .noImage => 12 | .mismatch => 13
  | .imageFull => 14 | .slotsFull => 15 | .closed => 16 | .timeout => 17

def WindowCause.code : WindowCause → Nat
  | .command => 1 | .expired => 2 | .running => 3 | .stale => 4 | .singleDone => 5 | .link => 6
  | .runAfterCommit => 7 | .notQuiet => 8

def QuarantineCause.code : QuarantineCause → Nat
  | .drift => 1 | .mismatchLimit => 2 | .manual => 3

def WindowMode.code : WindowMode → Nat
  | .single => 1 | .span => 2

def WindowMode.ofCode : Nat → Option WindowMode
  | 1 => some .single | 2 => some .span | _ => none

/-- The window cause of a close-pending cause (R20, R34). -/
def CloseCause.window : CloseCause → WindowCause
  | .command => .command | .expired => .expired | .runAfterCommit => .runAfterCommit

/-- The codes of the window states (R174). -/
def Window.code : Window → Nat
  | .locked => 1 | .opening .. => 2 | .opened .. => 3 | .transfer .. => 4 | .verify .. => 5 | .commitWait .. => 6
  | .quarantined _ => 7

/-- The codes of the slot phases (R174). -/
def Slot.phaseCode : Slot → Nat
  | .free => 0
  | .taking _ _ _ q => if q.answer.isSome then 1 else 2
  | .verifying .. => 3
  | .released .. => 4
  | .draining => 5

def Observation.code : Observation → Nat
  | .none => 0 | .quiet => 1 | .running => 2 | .stale => 3

def ImageCheck.code : ImageCheck → Nat
  | .required => 1 | .learn => 2 | .none => 3

def ImageCheck.ofCode : Nat → Option ImageCheck
  | 1 => some .required | 2 => some .learn | 3 => some .none | _ => .none

def NoticeKind.code : NoticeKind → Nat
  | .refused => 1 | .malformed => 2 | .windowOpened => 3 | .windowFailed => 4 | .windowClosed => 5 | .rateLimited => 6
  | .transferAborted => 7 | .commitReleased => 8 | .commitFailed => 9 | .commitUnconfirmed => 10
  | .imageMismatch => 11 | .imageLearned => 12 | .quarantined => 13 | .released => 14 | .drift => 15
  | .scanNoResponse => 16 | .scanOverdue => 17 | .watchHit => 18 | .mgmtRefused => 19 | .bankSelected => 20
  | .storeFailed => 21

def NoticeReason.code : NoticeReason → Nat
  | .reason r => r.code | .window c => c.code | .quarantine c => c.code | .mode m => m.code

/-- The value that tells the port in MGMT_REFUSED (R175). -/
def portCode : Port → Nat
  | .plant => 1 | .line => 2

def boolCode (b : Bool) : Nat := if b then 1 else 0

/-- A yes or no, a scope, a window flag: 0 or 1 (R174). -/
def boolOfCode : Nat → Option Bool
  | 0 => some false | 1 => some true | _ => none

/-- The sum that stands for a set of rights or operations (R174). -/
def Rights.code (r : Rights) : Nat :=
  boolCode r.manage + 2 * boolCode r.param + 4 * boolCode r.write + 8 * boolCode r.mode + 16 * boolCode r.force

/-- The set a byte stands for; anything outside the five is out of range (R152, R174). -/
def Rights.ofCode (c : Nat) : Option Rights :=
  if c < 32 then
    some { manage := c.testBit 0, param := c.testBit 1, write := c.testBit 2, mode := c.testBit 3, force := c.testBit 4 }
  else none

/-- A controller number, 0-31 (R174). -/
def controllerOf (c : Nat) : Option (Fin 32) := if h : c < 32 then some ⟨c, h⟩ else none

/-- A controller number or ANY, which is 255 (R174). -/
def anyControllerOf (c : Nat) : Option (Option (Fin 32)) :=
  if c = 255 then some none else (controllerOf c).map some

/-- An object class or ANY, which is 65,535 (R174). -/
def anyClassOf (c : Nat) : Option (Option Nat) :=
  if c = 65535 then some none else if c ≤ 255 then some (some c) else none

/-- A watch number, 0-7 (R174). -/
def watchOf (c : Nat) : Option (Fin 8) := if h : c < 8 then some ⟨c, h⟩ else none

/-! ## Management requests and replies (R162, R163, R174) -/

/-- The reply statuses (section 11.2). -/
inductive ReplyStatus where
  | ok | already | clamped | busy | state | storeBusy | rate | badFormat | unknownCommand | outOfRange | notFound
  | bankCheck | fallback
  deriving DecidableEq, Repr

def ReplyStatus.code : ReplyStatus → Nat
  | .ok => 0 | .already => 1 | .clamped => 2 | .busy => 3 | .state => 4 | .storeBusy => 5 | .rate => 6
  | .badFormat => 7 | .unknownCommand => 8 | .outOfRange => 9 | .notFound => 10 | .bankCheck => 11 | .fallback => 12

/-- A reply status with the bytes of its results. -/
structure Reply where
  status : ReplyStatus
  results : List Byte := []
  deriving DecidableEq, Repr

/-- The fields of the management header (R174). -/
structure ManagementHeader where
  kind : Nat
  code : Nat
  tag : Nat
  status : Nat
  reserved : Nat
  length : Nat
  deriving DecidableEq, Repr

def managementHeader (bs : List Byte) : ManagementHeader :=
  { kind := fieldAt bs 0 1, code := fieldAt bs 1 1, tag := fieldAt bs 2 2, status := fieldAt bs 4 1
    reserved := fieldAt bs 5 1, length := fieldAt bs 6 2 }

/-- The arguments of a management request begin at offset 8 (R174). -/
def argumentBytes (bs : List Byte) : List Byte := bs.drop Config.managementHeaderBytes

/-- The payload of a reply: frame kind 2, command code and tag echoed, status, and the results (R163, R174). -/
def replyPayload (h : ManagementHeader) (r : Reply) : List Byte :=
  bytesOf 1 2 ++ bytesOf 1 h.code ++ bytesOf 2 h.tag ++ bytesOf 1 r.status.code ++ [0#8]
    ++ bytesOf 2 r.results.length ++ r.results

/-- A result that may be absent, after its presence byte (R174). -/
def optionBytes {α : Type} (enc : α → List Byte) : Option α → List Byte
  | none => [0#8]
  | some x => 1#8 :: enc x

/-- The four tables of a bank, by their codes (R174). -/
inductive Table where
  | definitions | stations | grants | images
  deriving DecidableEq, Repr

def Table.code : Table → Nat
  | .definitions => 1 | .stations => 2 | .grants => 3 | .images => 4

def Table.ofCode : Nat → Option Table
  | 1 => some .definitions | 2 => some .stations | 3 => some .grants | 4 => some .images | _ => none

/-- The positions of a table (R151). -/
def Table.positions : Table → Nat
  | .definitions => Config.controllers | .stations => Config.stationEntries | .grants => Config.grantEntries
  | .images => Config.imageRecords

/-- The bytes of a table's record (R174). -/
def Table.recordBytes : Table → Nat
  | .definitions => 18 | .stations => 8 | .grants => 12 | .images => 22

/-- The bytes a command's arguments take (R162, R174). A LOAD-RECORD takes its record's bytes when its table is one of
the four and its presence byte says record; DESIGN CHOICE (L18) for a table or presence byte outside its values, where
the four leading bytes are taken. -/
def argumentLength (c : Command) (args : List Byte) : Nat :=
  match c with
  | .identify | .readTime | .clearShadow | .restart => 0
  | .readController | .closeWindow | .quarantine | .release | .disarmWatch => 1
  | .readRecord => 4
  | .loadRecord =>
    match Table.ofCode (fieldAt args 0 1) with
    | some t => if fieldAt args 3 1 = 1 then 4 + t.recordBytes else 4
    | none => 4
  | .selectBank => 4
  | .openWindow => 4
  | .approveCandidate => 2
  | .discardCandidate => 3
  | .armWatch => 10
  | .probe => 13
  | .readCounters => 2
  | .setTiming => 5
  | .setNoticeDestination => 6

/-! ## Records (R174), and the static checks of LOAD-RECORD (R152) -/

/-- A station address that a record or setting may name: not a group address, not the filter's own (R152, R169). -/
def individualAddr (own a : Addr) : Bool := !isGroup a && a != own

def definitionBytes (d : ControllerDef) : List Byte :=
  addrBytes d.addr ++ bytesOf 2 d.statusOffset ++ bytesOf 1 d.quietSet.length
    ++ (d.quietSet ++ List.replicate (4 - d.quietSet.length) 0#8) ++ [0#8] ++ bytesOf 4 d.scanInterval

/-- The values of a list are distinct. -/
def distinctBytes : List Byte → Bool
  | [] => true
  | b :: bs => !bs.contains b && distinctBytes bs

/-- The scan interval is 0 or 10-86,400 s (R19, R152). -/
def scanIntervalOk (i : Nat) : Bool := i == 0 || (decide (10 ≤ i) && decide (i ≤ 86400))

def definitionOf (own : Addr) (bs : List Byte) : Option ControllerDef :=
  let count := fieldAt bs 8 1
  let values := (bs.drop 9).take 4
  let d : ControllerDef :=
    { addr := addrAt bs 0, statusOffset := fieldAt bs 6 2, quietSet := values.take count
      scanInterval := fieldAt bs 14 4 }
  if d.addr != 0#48 && individualAddr own d.addr && decide (d.statusOffset ≤ 1499) && decide (1 ≤ count)
      && decide (count ≤ 4) && distinctBytes d.quietSet && (values.drop count).all (· == 0#8)
      && fieldAt bs 13 1 == 0 && scanIntervalOk d.scanInterval
  then some d else none

def stationBytes (e : StationEntry) : List Byte := addrBytes e.addr ++ bytesOf 1 e.level ++ bytesOf 1 e.rights.code

def stationOf (own : Addr) (bs : List Byte) : Option StationEntry :=
  let addr := addrAt bs 0
  let level := fieldAt bs 6 1
  match Rights.ofCode (fieldAt bs 7 1) with
  | some r =>
    if addr != 0#48 && individualAddr own addr && decide (level ≤ 3) then
      some { addr := addr, level := level, rights := r }
    else none
  | none => none

/-- A controller number or ANY. -/
def anyControllerCode : Option (Fin 32) → Nat
  | none => 255
  | some n => n.val

/-- An object class or ANY. -/
def anyClassCode : Option Nat → Nat
  | none => 65535
  | some c => c

def grantBytes (g : Grant) : List Byte :=
  bytesOf 1 (anyControllerCode g.controller) ++ bytesOf 2 (anyClassCode g.cls) ++ bytesOf 2 g.low ++ bytesOf 2 g.high
    ++ bytesOf 1 g.operations.code ++ bytesOf 1 g.level ++ bytesOf 1 (boolCode g.needed) ++ bytesOf 1 g.check.code
    ++ [0#8]

/-- The static checks of a grant over its own fields (R152). -/
def grantOk (g : Grant) : Bool :=
  decide (g.low ≤ g.high) && !g.operations.manage && decide (g.level ≤ 3)
    && !((g.operations.write || g.operations.force) && !g.needed)
    && !(g.check != .none && !g.operations.write)

def grantOf (bs : List Byte) : Option Grant :=
  match anyControllerOf (fieldAt bs 0 1), anyClassOf (fieldAt bs 1 2), Rights.ofCode (fieldAt bs 7 1),
      boolOfCode (fieldAt bs 9 1), ImageCheck.ofCode (fieldAt bs 10 1) with
  | some n, some c, some r, some w, some k =>
    let g : Grant :=
      { controller := n, cls := c, low := fieldAt bs 3 2, high := fieldAt bs 5 2, operations := r
        level := fieldAt bs 8 1, needed := w, check := k }
    if grantOk g && fieldAt bs 11 1 == 0 then some g else none
  | _, _, _, _, _ => none

/-- The status code of an image record, and the learned-at it carries: zero for an APPROVED record (R174). -/
def ImageStatus.code : ImageStatus → Nat
  | .approved => 1 | .candidate _ => 2

def ImageStatus.learnedAt : ImageStatus → Nat
  | .approved => 0 | .candidate t => t

def imageBytes (r : ImageRecord) : List Byte :=
  bytesOf 1 r.controller.val ++ bytesOf 1 r.cls ++ bytesOf 2 r.idx ++ bytesOf 4 r.length
    ++ bytesOf 4 r.fingerprint.toNat ++ bytesOf 1 r.status.code ++ [0#8] ++ bytesOf 8 r.status.learnedAt

/-- A loaded image record: its status, reserved and learned-at bytes are reserved, and it is APPROVED (R152, R174). -/
def imageOf (bs : List Byte) : Option ImageRecord :=
  let length := fieldAt bs 4 4
  match controllerOf (fieldAt bs 0 1) with
  | some n =>
    if decide (1 ≤ length) && decide (length ≤ Config.maxObject) && fieldAt bs 12 10 == 0 then
      some { controller := n, cls := fieldAt bs 1 1, idx := fieldAt bs 2 2, length := length
             fingerprint := BitVec.ofNat 32 (fieldAt bs 8 4), status := .approved }
    else none
  | none => none

/-! ## Frames the filter builds -/

/-- A refusal response to a request frame (R16, R59, R62): it echoes the request's identifying fields, and carries the
address the request was aimed at in on-behalf-of. -/
def refusalFrame (own : Addr) (f : Frame) (r : Reason) : Frame :=
  let h := oxHeader f.payload
  buildFrame f.src own Config.oxType (oxHeaderBytes
    { OxHeader.blank with
      operation := h.operation, response := 1, claimed := h.claimed, status := statusFilterRefused, detail := r.code
      tag := h.tag, tid := h.tid, cls := h.cls, idx := h.idx, number := h.number, declared := h.declared
      behalf := f.dst })

/-- An ABANDON request to a controller, for a transfer (R16). -/
def abandonFrame (own target : Addr) (x : Transfer) : Frame :=
  buildFrame target own Config.oxType (oxHeaderBytes
    { OxHeader.blank with
      operation := Operation.abandon.code, tag := x.tid, tid := x.tid, cls := x.cls, idx := x.idx
      behalf := x.requester })

/-- A SUMMARY request to a controller, for an image record (R16, R124). -/
def summaryFrame (own target : Addr) (tag : Nat) (r : ImageRecord) : Frame :=
  buildFrame target own Config.oxType (oxHeaderBytes
    { OxHeader.blank with operation := Operation.summary.code, tag := tag, cls := r.cls, idx := r.idx })

/-- A reply to a management request (R163). -/
def replyFrame (own : Addr) (f : Frame) (r : Reply) : Frame :=
  buildFrame f.src own Config.managementType (replyPayload (managementHeader f.payload) r)

/-- The presence byte of a notice frame: one flag per field the notice carries (R175). -/
def Notice.presence (n : Notice) : Nat :=
  boolCode n.controller.isSome + 2 * boolCode n.station.isSome + 4 * boolCode n.object.isSome
    + 8 * boolCode n.tid.isSome + 16 * boolCode n.reason.isSome + 32 * boolCode n.first.isSome
    + 64 * boolCode n.second.isSome

/-- The 36 bytes of a notice; the bytes of an absent field are zero (R175). -/
def noticeBytes (n : Notice) (dropped : Nat) : List Byte :=
  bytesOf 1 3 ++ bytesOf 1 n.kind.code ++ bytesOf 1 n.presence ++ bytesOf 1 dropped
    ++ bytesOf 1 ((n.reason.map NoticeReason.code).getD 0) ++ [0#8] ++ bytesOf 8 n.time
    ++ bytesOf 1 ((n.controller.map Fin.val).getD 0) ++ [0#8] ++ addrBytes (n.station.getD 0#48)
    ++ bytesOf 1 ((n.object.map Prod.fst).getD 0) ++ [0#8] ++ bytesOf 2 ((n.object.map Prod.snd).getD 0)
    ++ bytesOf 2 (n.tid.getD 0) ++ bytesOf 4 (n.first.getD 0#32).toNat ++ bytesOf 4 (n.second.getD 0#32).toNat

/-- A notice frame, to the destination held when it is built (R141, R175). -/
def noticeFrame (own target : Addr) (n : Notice) (dropped : Nat) : Frame :=
  buildFrame target own Config.managementType (noticeBytes n dropped)

end Sys2Proof.Machine
end

