-- ==== Sys2Proof/Machine/Ops.lean ====
section
/-! DEFINITION. The named operations over the tables and queues that every block uses: reading and writing one record,
counting, the forwarded and originate queues, the Notice Queue and the moves out of it, the watches, the lookups in the active bank, and the
refusal of a request. -/

namespace Sys2Proof.Machine

/-! ## One record of a table -/

/-- The dynamic state of a controller number; none when the number is not defined (R20). -/
def State.controller (s : State) (n : Fin 32) : Option Controller := s.controllers[n]

def State.setController (s : State) (n : Fin 32) (c : Option Controller) : State :=
  { s with controllers := s.controllers.set n c }

/-- Change a defined controller's dynamic state; an undefined number has none to change. -/
def State.updateController (s : State) (n : Fin 32) (f : Controller → Controller) : State :=
  match s.controller n with
  | some c => s.setController n (some (f c))
  | none => s

/-- The window state of a controller number, when it is defined. -/
def State.window? (s : State) (n : Fin 32) : Option Window := (s.controller n).map Controller.window

def State.slot (s : State) (k : Fin 8) : Slot := s.slots[k]

def State.setSlot (s : State) (k : Fin 8) (x : Slot) : State := { s with slots := s.slots.set k x }

def State.lane (s : State) (l : Fin 2) : Option LaneWork := s.lanes[l]

def State.setLane (s : State) (l : Fin 2) (w : Option LaneWork) : State := { s with lanes := s.lanes.set l w }

def State.watch (s : State) (w : Fin 8) : Option Watch := s.watches[w]

def State.setWatch (s : State) (w : Fin 8) (x : Option Watch) : State := { s with watches := s.watches.set w x }

def State.setPort (s : State) (p : Port) (x : PortState) : State :=
  match p with
  | .plant => { s with plant := x }
  | .line => { s with line := x }

/-- The other port: a frame taken at one port is forwarded at the other (R144). -/
def otherPort : Port → Port
  | .plant => .line
  | .line => .plant

/-- The places of a port's originate queue (R147, R148). -/
def portPlaces : Port → Nat
  | .plant => Config.plantPlaces
  | .line => Config.linePlaces

/-! ## Counters (R21, R167) -/

def State.count (s : State) (n : Fin 32) : ControllerCounters := s.counters[n]

def State.setCount (s : State) (n : Fin 32) (c : ControllerCounters) : State :=
  { s with counters := s.counters.set n c }

def State.countAdmitted (s : State) (n : Fin 32) : State :=
  s.setCount n { s.count n with admitted := saturate32 (s.count n).admitted }

def State.countRefusal (s : State) (n : Fin 32) : State :=
  s.setCount n { s.count n with refusals := saturate32 (s.count n).refusals }

def State.countReleased (s : State) (n : Fin 32) : State :=
  s.setCount n { s.count n with released := saturate32 (s.count n).released }

def State.countMismatch (s : State) (n : Fin 32) : State :=
  s.setCount n { s.count n with mismatches := saturate32 (s.count n).mismatches }

def State.countDiscarded (s : State) : State :=
  { s with device := { s.device with receivedDiscarded := saturate32 s.device.receivedDiscarded } }

def State.countMalformed (s : State) : State :=
  { s with device := { s.device with malformed := saturate32 s.device.malformed } }

def State.countSegmentDrop (s : State) : State :=
  { s with device := { s.device with segmentDrop := saturate32 s.device.segmentDrop } }

def State.countNotSent (s : State) (k : Nat) : State :=
  { s with device := { s.device with notSent := saturate32By k s.device.notSent } }

def State.countLinkDiscarded (s : State) (k : Nat) : State :=
  { s with device := { s.device with linkDiscarded := saturate32By k s.device.linkDiscarded } }

def State.countOverflow (s : State) : State :=
  { s with device := { s.device with forwardOverflow := saturate32 s.device.forwardOverflow } }

/-! ## The egress arbiter (R145, R146) -/

/-- The arbiter's choice (R145): the frame sent, and the port afterwards; none when both queues are empty. -/
def PortState.choose (q : PortState) : Option PortState :=
  match q.originate, q.forwarded with
  | [], [] => none
  | [], f :: fs => some { q with forwarded := fs, sending := some (.forwarded f), turns := 0, begun := none }
  | o :: os, [] => some { q with originate := os, sending := some (.originated o), turns := 0, begun := none }
  | o :: os, f :: fs =>
    if q.turns < Config.maxTurns then
      some { q with forwarded := fs, sending := some (.forwarded f), turns := q.turns + 1, begun := none }
    else some { q with originate := os, sending := some (.originated o), turns := 0, begun := none }

/-- Whenever the transmitter is free and a queue holds a frame, the arbiter chooses: in the step that frees the
transmitter, places a frame or brings the link up (R145). -/
def PortState.arbitrate (q : PortState) : PortState := if q.isFree then q.choose.getD q else q

/-- A frame is placed at the tail of the forwarded queue (R144); one that starts a free transmitter with both queues
empty leaves the time of its start (R146; L26). -/
def PortState.placeForwarded (q : PortState) (f : Frame) (now : Nat) : PortState :=
  let after := { q with forwarded := q.forwarded ++ [f] }.arbitrate
  if q.isFree && q.isIdle then { after with begun := some now } else after

/-- A frame is placed at the tail of the originate queue (R147, R148). A first one there, at the device time at which a
forwarded frame placed before it started the transmitter, waits with one turn waited (R146; L26). -/
def PortState.placeOriginated (q : PortState) (o : OrigFrame) (now : Nat) : PortState :=
  PortState.arbitrate
    { q with
      originate := q.originate ++ [o]
      turns := if q.originate.isEmpty && q.begun == some now then 1 else q.turns
      begun := none }

/-- The last byte of the frame being sent has been sent, and the arbiter chooses at that moment (R145, R146). -/
def PortState.finish (q : PortState) : PortState :=
  if q.sending.isSome then { q with sending := none, begun := none }.arbitrate else q

/-! ## Frames that leave (R144, R147, R148, R149) -/

/-- Place a frame in the forwarded queue of the port that would send it: discarded and counted when that port's link is
down, or when its queue holds 256 frames (R144, R149). -/
def State.forward (s : State) (p : Port) (f : Frame) : State :=
  let q := s.port p
  if !q.up then s.countLinkDiscarded 1
  else if q.forwarded.length < Config.forwardedPlaces then
    s.setPort p (q.placeForwarded f s.time)
  else s.countOverflow

/-- Append a frame the filter built to a port's originate queue; when the queue is full the frame is not sent and the
not-sent counter rises (R147, R148). The link state takes no part (R149). -/
def State.originate (s : State) (p : Port) (o : OrigFrame) : State :=
  let q := s.port p
  if q.originate.length < portPlaces p then s.setPort p (q.placeOriginated o s.time)
  else s.countNotSent 1

/-! ## The Notice Unit (R137 to R141) -/

/-- A watch notice is one of kind WATCH_HIT; any other is a routine notice (R137). -/
def Notice.isWatch (n : Notice) : Bool := n.kind == .watchHit

/-- A notice placed in a queue that has a place: a watch notice behind the last watch notice, a routine notice at the
tail (R139). -/
def placeNotice (q : List Notice) (n : Notice) : List Notice :=
  if n.isWatch then q.takeWhile Notice.isWatch ++ n :: q.dropWhile Notice.isWatch else q ++ [n]

/-- A notice taken into the Notice Queue: placed while there is a place (R139); at a full queue a watch notice displaces
the newest routine notice and any other is lost, and the dropped count rises (R140). -/
def State.queueNotice (s : State) (n : Notice) : State :=
  if s.notices.length < Config.noticePlaces then { s with notices := placeNotice s.notices n }
  else if n.isWatch && !s.notices.all Notice.isWatch then
    { s with notices := placeNotice s.notices.dropLast n, dropped := saturateDropped 1 s.dropped }
  else { s with dropped := saturateDropped 1 s.dropped }

/-- The Notice Queue holds a notice and the Plant originate queue has a free place (R141). -/
def State.noticeMoves (s : State) : Bool :=
  !s.notices.isEmpty && decide (s.plant.originate.length < Config.plantPlaces)

/-- The notice frame of a notice that leaves now: it carries the dropped count as it stands (R141). -/
def State.noticeOut (s : State) (n : Notice) : OrigFrame :=
  { kind := .notice s.dropped, frame := noticeFrame s.identity.station s.destination n s.dropped }

/-- The head of the Notice Queue moves: it is removed, takes the dropped count, which becomes 0, is built into a frame,
and is appended to the Plant originate queue (R141). -/
def State.moveNotice (s : State) : State :=
  match s.notices with
  | [] => s
  | n :: rest =>
    { s with notices := rest, dropped := 0, plant := s.plant.placeOriginated (s.noticeOut n) s.time }

/-- At most `k` moves, one after another, while a notice is queued and a place is free (R141). -/
def State.moveNotices : Nat → State → State
  | 0, s => s
  | k + 1, s => if s.noticeMoves then moveNotices k s.moveNotice else s

/-- The moves that are due: the head moves, and the next follows, until the Notice Queue is empty or the Plant originate
queue is full (R141). -/
def State.settleNotices (s : State) : State := s.moveNotices s.notices.length

/-- A notice posted to the Notice Unit: discarded when no destination is held; queued, or taken at a full queue; and with
a free place in the Plant originate queue it passes straight on through the queue (R139, R140, R141). -/
def State.post (s : State) (n : Notice) : State :=
  if s.destination = 0#48 then s else (s.queueNotice n).settleNotices

/-- What happened at a port may have freed places of its originate queue: those of the Plant port are offered to the
Notice Queue in the same step (R141, R148). -/
def State.offerPlaces (s : State) (p : Port) : State :=
  match p with
  | .plant => s.settleNotices
  | .line => s

/-- A notice of a kind, with the present device time. -/
def State.notice (s : State) (k : NoticeKind) : Notice := { kind := k, time := s.time }

/-! ## The Watch Unit (R133 to R136) -/

/-- How an offered request ended (R61, R69). -/
inductive Ending where
  | pass | start | held | dropped
  | refused (r : Reason)
  deriving DecidableEq, Repr

/-- The outcome kind of WATCH_HIT (R175). -/
def Ending.code : Ending → Nat
  | .pass => 1 | .start => 2 | .held => 3 | .dropped => 4 | .refused _ => 5

/-- The reason code of an ending that is one. -/
def Ending.reason : Ending → Option NoticeReason
  | .refused r => some (.reason r)
  | _ => none

/-- Every operation other than READ and SUMMARY is write-kind (R4). -/
def isWriteKind : Operation → Bool
  | .read | .summary => false
  | _ => true

/-- The operations whose requests carry a transfer id in notices (R60, R135). -/
def carriesTid : Operation → Bool
  | .begins | .segment | .commit | .abandon => true
  | _ => false

/-- The transfer id a notice of this request carries. -/
def requestTid (o : Operation) (h : OxHeader) : Option Nat := if carriesTid o then some h.tid else none

/-- A request hits an armed watch; the outcome takes no part (R136). -/
def Watch.hits (w : Watch) (n : Fin 32) (o : Operation) (h : OxHeader) : Bool :=
  w.controller == n && (w.cls == none || w.cls == some h.cls) && decide (w.low ≤ h.idx) && decide (h.idx ≤ w.high)
    && (w.all || isWriteKind o)

/-- The first 32-bit value of WATCH_HIT, packed four bytes from the most significant (R175). -/
def watchValue (w : Fin 8) (o : Operation) (level : Nat) (e : Ending) : Quad :=
  BitVec.ofNat 32 (natOf [BitVec.ofNat 8 w.val, BitVec.ofNat 8 o.code, BitVec.ofNat 8 level, BitVec.ofNat 8 e.code])

/-- A request's hit on one watch: its notice, and the disarming of a watch without repeat, in one step (R136). -/
def State.offerTo (n : Fin 32) (o : Operation) (f : Frame) (e : Ending) (s : State) (w : Fin 8) : State :=
  let h := oxHeader f.payload
  match s.watch w with
  | none => s
  | some x =>
    if x.hits n o h then
      (if x.repeats then s else s.setWatch w none).post
        { s.notice .watchHit with
          controller := some n, station := some f.src, object := some (h.cls, h.idx), tid := requestTid o h
          reason := e.reason, first := some (watchValue w o h.level e) }
    else s

/-- A request offered to the Watch Unit, with its controller number and final outcome: every hit is taken, in
ascending watch number (R61, R135, R136). -/
def State.offer (s : State) (n : Fin 32) (o : Operation) (f : Frame) (e : Ending) : State :=
  (List.finRange 8).foldl (State.offerTo n o f e) s

/-! ## The active bank (R6, R43, R45, R109, R110) -/

/-- The definition of a controller number in the active bank. -/
def State.definition (s : State) (n : Fin 32) : Option ControllerDef := s.active.definitions[n]

/-- The station address of a defined controller. An undefined number has none; zero stands in for it in states no run
reaches (L21). -/
def State.addrOf (s : State) (n : Fin 32) : Addr := ((s.definition n).map ControllerDef.addr).getD 0#48

/-- A station address is protected when a definition of the active bank has it; the controller number is that
definition's (R6). -/
def State.protectedBy (s : State) (a : Addr) : Option (Fin 32) :=
  (List.finRange 32).find? (fun n => (s.definition n).any (fun d => d.addr == a))

/-- The station entry that applies to a source address (R43, R47). -/
def State.station (s : State) (a : Addr) : Option StationEntry :=
  (s.active.stations.toList.filterMap id).find? (fun e => e.addr == a)

/-- The key of an image record is its controller number, class and index (R109). -/
def ImageRecord.hasKey (r : ImageRecord) (n : Fin 32) (cls idx : Nat) : Bool :=
  r.controller == n && r.cls == cls && r.idx == idx

/-- The record's status is APPROVED. -/
def ImageRecord.isApproved (r : ImageRecord) : Bool := r.status == .approved

/-- The record of a key, whatever its status, in a bank (R109). -/
def Bank.imageOfKey (b : Bank) (n : Fin 32) (cls idx : Nat) : Option ImageRecord :=
  (b.images.toList.filterMap id).find? (fun r => r.hasKey n cls idx)

/-- The APPROVED record of a key in the active bank; a CANDIDATE is passed over (R110). -/
def State.approved (s : State) (n : Fin 32) (cls idx : Nat) : Option ImageRecord :=
  (s.active.images.toList.filterMap id).find? (fun r => r.hasKey n cls idx && r.isApproved)

/-! ## Refusing a request (R59, R60, R62) -/

/-- A request withheld with a reason code: the response, the controller's refusals counter, the REFUSED notice. In
Closed fallback no controller number is concerned, no counter rises, and the notice carries none (R62). -/
def State.refuse (s : State) (n : Option (Fin 32)) (o : Operation) (f : Frame) (r : Reason) : State :=
  let h := oxHeader f.payload
  let s := s.originate .plant { kind := .refusal, frame := refusalFrame s.identity.station f r }
  let s := match n with
    | some n => s.countRefusal n
    | none => s
  s.post
    { s.notice .refused with
      controller := n, station := some f.src, object := some (h.cls, h.idx), tid := requestTid o h
      reason := some (.reason r) }

end Sys2Proof.Machine
end

