-- ==== Sys2Proof/Machine/Fingerprint.lean ====
section
/-! DEFINITION. The Fingerprint Unit (chapter Object Fingerprints): the arithmetic, the Segment Queue, the lanes and
their arbiter. -/

namespace Sys2Proof.Machine

/-! ## The arithmetic (R93 to R97) -/

/-- A computation at its start (R93). -/
def Sums.zero : Sums := { a := 0#32, b := 0#32, i := 0 }

/-- The weight of a position: 1 to 64, in a cycle of 64 (R93). -/
def weight (i : Nat) : Nat := i % 64 + 1

/-- One word taken (R93). -/
def Sums.take (x : Sums) (w : Word) : Sums :=
  { a := x.a + w.setWidth 32, b := x.b + BitVec.ofNat 32 (weight x.i * w.toNat), i := x.i + 1 }

/-- The words of a segment taken in payload order (R94, R100). -/
def Sums.takeAll (x : Sums) (ws : List Word) : Sums := ws.foldl Sums.take x

/-- Lower and upper halves of an accumulator added, the carry out of 16 bits dropped (R95). -/
def foldHalves (x : Quad) : Word := x.setWidth 16 + (x >>> 16).setWidth 16

/-- The fingerprint: H as its upper half, L as its lower half (R95). -/
def fingerprint (x : Sums) (n : Nat) : Quad := foldHalves x.b ++ (foldHalves x.a + BitVec.ofNat 16 n)

/-- A computed pair matches a recorded pair when both are equal (R97). -/
def pairMatches (r : ImageRecord) (n : Nat) (f : Quad) : Bool := n == r.length && f == r.fingerprint

/-! ## The Segment Queue and the lanes (R98 to R106) -/

/-- Some lane holds a segment of the slot. -/
def State.laneHolds (s : State) (k : Fin 8) : Bool :=
  s.lanes.toList.any (fun w => w.any (fun w => w.entry.slot == k))

/-- The segments the Segment Queue holds: its waiting entries and the places kept by the lanes (R98). -/
def State.segmentsHeld (s : State) : Nat := s.waiting.length + (s.lanes.toList.filter Option.isSome).length

/-- The Segment Queue is full (R98). -/
def State.segmentQueueFull (s : State) : Bool := decide (Config.segmentPlaces ≤ s.segmentsHeld)

/-- The accumulators and position a lane loads from a slot (R100); a slot that has none starts a computation, in states
no run reaches (L21). -/
def Slot.sums : Slot → Sums
  | .taking _ x _ _ => x
  | .verifying _ x _ _ => x
  | _ => Sums.zero

/-- A lane takes an entry: it loads the slot's values as they stand at that moment (R100). -/
def State.load (s : State) (l : Fin 2) (e : SegmentEntry) : State :=
  s.setLane l (some { entry := e, sums := (s.slot e.slot).sums })

/-- The idle lane with the lower number (R99: lane 0 when both are idle). -/
def State.idleLane (s : State) : Option (Fin 2) := (List.finRange 2).find? (fun l => (s.lane l).isNone)

/-- A new segment's entry is appended and considered at once: an idle lane takes it unless the other lane holds a
segment of its slot; otherwise it waits (R99). -/
def State.appendSegment (s : State) (e : SegmentEntry) : State :=
  match s.idleLane with
  | some l => if s.laneHolds e.slot then { s with waiting := s.waiting ++ [e] } else s.load l e
  | none => { s with waiting := s.waiting ++ [e] }

/-- An entry is eligible when no lane holds a segment of its slot (R103). -/
def State.eligible (s : State) (e : SegmentEntry) : Bool := !s.laneHolds e.slot

/-- The arbiter gives a lane that has become idle the oldest eligible entry, if there is one (R103). -/
def State.giveNext (s : State) (l : Fin 2) : State :=
  match s.waiting.find? s.eligible with
  | some e => { s with waiting := s.waiting.eraseP s.eligible }.load l e
  | none => s

/-- Every waiting entry of a slot is removed, the others keeping their order (R106). -/
def State.removeSegments (s : State) (k : Fin 8) : State :=
  { s with waiting := s.waiting.filter (fun e => e.slot != k) }

end Sys2Proof.Machine
end

