-- ==== Sys2Proof/Machine/Windows.lean ====
section
/-! DEFINITION. The Window Controller and the Status Monitor (chapter Controller Windows), with the abort of a transfer
slot (R87) that the Window Controller asks the Transfer Tracker for. Where one step posts several notices, those of the
Transfer Tracker come before those of the Window Controller: R114 says so for a completion, elsewhere DESIGN CHOICE
(L11). -/

namespace Sys2Proof.Machine

/-! ## Device time (R18) -/

/-- A parameter in milliseconds, in µs. -/
def milliseconds (n : Nat) : Nat := n * 1000

/-- A parameter in seconds, in µs. -/
def seconds (n : Nat) : Nat := n * 1000000

/-- A deadline expires when device time reaches it (R18). -/
def State.reached (s : State) (deadline : Nat) : Bool := decide (deadline ≤ s.time)

/-! ## Aborting a slot (R87, R90) -/

/-- The transfer of a live slot (section 4.1). -/
def Slot.live : Slot → Option Transfer
  | .taking x _ _ _ => some x
  | .verifying x _ _ _ => some x
  | .released x _ => some x
  | .free => none
  | .draining => none

/-- The transfer of a slot that an abort can end: a live slot before its commit has been released (R87). -/
def Slot.abortable : Slot → Option Transfer
  | .taking x _ _ _ => some x
  | .verifying x _ _ _ => some x
  | .released _ _ => none
  | .free => none
  | .draining => none

/-- A slot's download ends: its waiting entries are removed, and it becomes DRAINING when a lane holds one of its
segments, FREE otherwise (R87 steps 1 and 2, R91). -/
def State.endSlot (s : State) (k : Fin 8) : State :=
  let s := s.removeSegments k
  s.setSlot k (if s.laneHolds k then .draining else .free)

/-- A notice about a slot, with the fields the slot held (R92). -/
def State.slotNotice (s : State) (kind : NoticeKind) (x : Transfer) : Notice :=
  { s.notice kind with
    controller := some x.controller, station := some x.requester, object := some (x.cls, x.idx), tid := some x.tid }

/-- An abort of a slot, with ABANDON or without: the slot ends, an ABANDON is built from the slot as it stood, and
TRANSFER_ABORTED is posted (R87). A slot that is not live, or RELEASED, is never aborted. -/
def State.abort (s : State) (k : Fin 8) (withAbandon : Bool) (reason : Option Reason) (value : Option Quad) : State :=
  match (s.slot k).abortable with
  | none => s
  | some x =>
    let frame : OrigFrame :=
      { kind := .abandon, frame := abandonFrame s.identity.station (s.addrOf x.controller) x }
    let s := s.endSlot k
    let s := if withAbandon then s.originate .line frame else s
    s.post { s.slotNotice .transferAborted x with reason := reason.map .reason, first := value }

/-! ## Window states (R20) -/

/-- The window state is OPENING. -/
def Window.isOpening : Window → Bool
  | .opening .. => true
  | _ => false

/-- The window state is LOCKED. -/
def Window.isLocked : Window → Bool
  | .locked => true
  | _ => false

/-- The window state is QUARANTINE. -/
def Window.isQuarantined : Window → Bool
  | .quarantined _ => true
  | _ => false

/-- The owning slot that closing or quarantine asks the Tracker to abort: in TRANSFER and VERIFY (R30, R38). -/
def Window.slotToAbort : Window → Option (Fin 8)
  | .transfer _ _ k => some k
  | .verify _ _ k _ => some k
  | _ => none

/-- A controller's window state changes; leaving OPENING ends the quiet run (R25). -/
def State.setWindow (s : State) (n : Fin 32) (w : Window) : State :=
  s.updateController n (fun c =>
    { c with window := w, monitor := if w.isOpening then c.monitor else { c.monitor with quiet := none } })

/-- The quiet run of a controller is set or ended (R25). -/
def State.setQuiet (s : State) (n : Fin 32) (q : Option QuietRun) : State :=
  s.updateController n (fun c => { c with monitor := { c.monitor with quiet := q } })

/-- The quiet run of a controller. -/
def State.quietRun (s : State) (n : Fin 32) : Option QuietRun := (s.controller n).bind (·.monitor.quiet)

/-- A window notice with its cause (section 2.9). -/
def State.postWindow (s : State) (kind : NoticeKind) (n : Fin 32) (cause : WindowCause) : State :=
  s.post { s.notice kind with controller := some n, reason := some (.window cause) }

/-- The Window Controller asks the Tracker to abort the owning slot of a window it ends, with ABANDON (R90). -/
def State.abortOwned (s : State) (w : Window) (r : Reason) : State :=
  match w.slotToAbort with
  | some k => s.abort k true (some r) none
  | none => s

/-- A window closes at once: an owning slot in TRANSFER or VERIFY is aborted with reason LOCKED, the state becomes
LOCKED, WINDOW_CLOSED is posted (R30, R32, R33). -/
def State.closeNow (s : State) (n : Fin 32) (w : Window) (cause : WindowCause) : State :=
  ((s.abortOwned w .locked).setWindow n .locked).postWindow .windowClosed n cause

/-- Close-pending is set where it is absent, and kept where it is present (R32, R33). -/
def closingWith (c : CloseCause) : Option CloseCause → Option CloseCause
  | none => some c
  | some d => some d

/-! ## Opening and settling (R26 to R29) -/

/-- The time a counting entry of the Opening History must be younger than (R27). -/
def State.openPeriod (s : State) : Nat := seconds s.timing.openRate

/-- The rate check refuses: the history holds four entries and the oldest still counts, so that all of them do; the
earliest retry time (R27). -/
def State.rateRefusal (s : State) : Option Nat :=
  match s.history with
  | oldest :: _ =>
    if Config.historyPlaces ≤ s.history.length ∧ s.time - oldest < s.openPeriod then some (oldest + s.openPeriod)
    else none
  | [] => none

/-- An accepted opening enters the history as the newest entry; of four entries the oldest is removed first (R27). -/
def State.recordOpening (s : State) : State :=
  { s with
    history := (if Config.historyPlaces ≤ s.history.length then s.history.drop 1 else s.history) ++ [s.time] }

/-- The window length recorded for an argument: T_win for 0, else the argument brought into 60-14,400 s (R26). -/
def State.windowLength (s : State) (argument : Nat) : Nat :=
  if argument = 0 then s.timing.win else max 60 (min argument 14400)

/-- An opening is accepted: the history entry, and OPENING with its mode, length and opening deadline (R26). -/
def State.acceptOpening (s : State) (n : Fin 32) (m : WindowMode) (argument : Nat) : State :=
  s.recordOpening.setWindow n (.opening m (s.windowLength argument) (s.time + seconds s.timing.opening))

/-- The window settles: OPEN with its window deadline, mismatch count 0, WINDOW_OPENED (R28). -/
def State.settle (s : State) (n : Fin 32) (m : WindowMode) (length : Nat) : State :=
  let deadline := s.time + seconds length
  let s := (s.setWindow n (.opened m deadline)).updateController n (fun c => { c with mismatches := 0 })
  s.post
    { s.notice .windowOpened with
      controller := some n, reason := some (.mode m), first := some (upperHalf deadline)
      second := some (lowerHalf deadline) }

/-- The quiet run has lasted at least T_settle (R28). -/
def State.quietEnough (s : State) (q : QuietRun) : Bool := decide (milliseconds s.timing.settle ≤ s.time - q.since)

/-- A QUIET observation in OPENING: a quiet run begins or goes on, and the settle evaluation is made (R25, R28). -/
def State.observeQuiet (s : State) (n : Fin 32) (m : WindowMode) (length : Nat) : State :=
  let q := (s.quietRun n).getD { since := s.time, settle := s.time + milliseconds s.timing.settle }
  if s.quietEnough q then s.settle n m length else s.setQuiet n (some q)

/-! ## Observations (R23 to R25, R30, R31) -/

/-- The cause with which a RUNNING or STALE observation closes a window (R30). -/
def Observation.cause : Observation → Option WindowCause
  | .running => some .running
  | .stale => some .stale
  | .quiet => Option.none
  | .none => Option.none

/-- A RUNNING or STALE observation in COMMIT-WAIT: close-pending takes cause RUN_AFTER_COMMIT and WINDOW_CLOSED is
posted, once (R31). -/
def State.runAfterCommit (s : State) (n : Fin 32) (m : WindowMode) (d : Option Nat) (k : Fin 8)
    (closing : Option CloseCause) : State :=
  if closing = some .runAfterCommit then s
  else (s.setWindow n (.commitWait m d k (some .runAfterCommit))).postWindow .windowClosed n .runAfterCommit

/-- The Window Controller takes an observation of a controller (sections 2.3, 2.5, 2.6). -/
def State.observe (s : State) (n : Fin 32) (o : Observation) : State :=
  match s.window? n with
  | none => s
  | some w =>
    match o.cause, w with
    | none, .opening m length _ => s.observeQuiet n m length
    | none, _ => s
    | some _, .opening _ _ _ => s.setQuiet n none
    | some cause, .opened _ _ => s.closeNow n w cause
    | some cause, .transfer _ _ _ => s.closeNow n w cause
    | some cause, .verify _ _ _ _ => s.closeNow n w cause
    | some _, .commitWait m d k closing => s.runAfterCommit n m d k closing
    | some _, .locked => s
    | some _, .quarantined _ => s

/-- The Status Monitor makes an observation: it records it, with the frame's time when a frame made it, sets the stale
deadline, and delivers it to the Window Controller (R23, R24). -/
def State.monitorObserves (s : State) (n : Fin 32) (o : Observation) (byFrame : Bool) : State :=
  let s := s.updateController n (fun c =>
    { c with
      monitor :=
        { c.monitor with
          observed := o
          lastFrame := if byFrame then some s.time else c.monitor.lastFrame
          stale := s.time + milliseconds s.timing.stale } })
  s.observe n o

/-- The observation a cyclic frame's payload makes under a definition; none when the frame does not count (R23). -/
def ControllerDef.reads (d : ControllerDef) (payload : List Byte) : Option Observation :=
  match payload[d.statusOffset]? with
  | none => none
  | some b => some (if d.quietSet.contains b then .quiet else .running)

/-- The Monitor's fields after a reset or for a newly selected bank (R22). -/
def State.freshMonitor (s : State) : Monitor :=
  { observed := .none, lastFrame := none, stale := s.time + milliseconds s.timing.stale, quiet := none }

/-! ## Transfers as seen by the window (R34 to R37) -/

/-- *Transfer started*, taken in OPEN (R35). -/
def State.transferStarted (s : State) (n : Fin 32) (k : Fin 8) : State :=
  match s.window? n with
  | some (.opened m d) => s.setWindow n (.transfer m d k)
  | _ => s

/-- *Commit held*, taken in TRANSFER (R35). -/
def State.commitHeld (s : State) (n : Fin 32) : State :=
  match s.window? n with
  | some (.transfer m d k) => s.setWindow n (.verify m (some d) k none)
  | _ => s

/-- *Commit released*, taken in VERIFY (R35). -/
def State.commitReleased (s : State) (n : Fin 32) : State :=
  match s.window? n with
  | some (.verify m d k c) => s.setWindow n (.commitWait m d k c)
  | _ => s

/-- How a window goes on when its transfer has ended (R36): with close-pending present to LOCKED, with that cause's
notice unless R31 has posted it (R34); else to LOCKED after the completed commit of a SINGLE window; else back to OPEN.
A window without a deadline and without close-pending, which no run reaches, has expired: it closes (L21). -/
def State.endTransfer (s : State) (n : Fin 32) (m : WindowMode) (d : Option Nat) (closing : Option CloseCause)
    (completion : Bool) : State :=
  match closing, d with
  | some .runAfterCommit, _ => s.setWindow n .locked
  | some c, _ => (s.setWindow n .locked).postWindow .windowClosed n c.window
  | none, some d =>
    if completion = true ∧ m = .single then (s.setWindow n .locked).postWindow .windowClosed n .singleDone
    else s.setWindow n (.opened m d)
  | none, none => (s.setWindow n .locked).postWindow .windowClosed n .expired

/-- *Transfer ended*, with a commit completion or a non-commit ending (R36). -/
def State.transferEnded (s : State) (n : Fin 32) (completion : Bool) : State :=
  match s.window? n with
  | some (.transfer m d _) => s.endTransfer n m (some d) none completion
  | some (.verify m d _ c) => s.endTransfer n m d c completion
  | some (.commitWait m d _ c) => s.endTransfer n m d c completion
  | _ => s

/-- Quarantine entry with its cause: in any state but QUARANTINE the owning slot of TRANSFER or VERIFY is aborted with
reason QUARANTINE, the state becomes QUARANTINE and QUARANTINED is posted (R38). -/
def State.enterQuarantine (s : State) (n : Fin 32) (cause : QuarantineCause) : State :=
  match s.window? n with
  | none => s
  | some (.quarantined _) => s
  | some w =>
    let s := (s.abortOwned w .quarantine).setWindow n (.quarantined cause)
    s.post { s.notice .quarantined with controller := some n, reason := some (.quarantine cause) }

/-- A mismatch reported in VERIFY: both counts rise, and the third of a window quarantines; otherwise it is a
non-commit ending (R37). -/
def State.reportMismatch (s : State) (n : Fin 32) : State :=
  match s.controller n with
  | some c =>
    match c.window with
    | .verify _ _ _ _ =>
      let count := saturateMismatch c.mismatches
      let s := (s.countMismatch n).updateController n (fun c => { c with mismatches := count })
      if count = Config.mismatchLimit then s.enterQuarantine n .mismatchLimit else s.transferEnded n false
    | _ => s
  | none => s

/-! ## Release and link loss (R40, R41) -/

/-- A slot left RELEASED still names the controller (R38, R40). -/
def State.releasedSlotNames (s : State) (n : Fin 32) : Bool :=
  s.slots.toList.any (fun x => match x with
    | .released x _ => x.controller == n
    | _ => false)

/-- A controller at a Line link loss: its window goes to LOCKED with cause LINK, unless R31 has posted the closing
notice already (R41). -/
def State.linkLossWindow (s : State) (n : Fin 32) : State :=
  match s.window? n with
  | none => s
  | some .locked => s
  | some (.quarantined _) => s
  | some (.commitWait _ _ _ (some .runAfterCommit)) => s.setWindow n .locked
  | some (.verify _ _ _ (some .runAfterCommit)) => s.setWindow n .locked
  | some _ => (s.setWindow n .locked).postWindow .windowClosed n .link

end Sys2Proof.Machine
end

