-- ==== Sys2Proof/Machine/Transfers.lean ====
section
/-! DEFINITION. The Transfer Tracker (chapter Download Transfers) and the image decision of the Policy Banks (chapter
Image Records and Learning). -/

namespace Sys2Proof.Machine

/-! ## The image decision (R111 to R113) -/

/-- The outcomes of the image decision (R79). -/
inductive Decision where
  | release | mismatch | imageFull
  deriving DecidableEq, Repr

/-- The notice of an image decision about a slot (R112, R113). -/
def State.imageNotice (s : State) (kind : NoticeKind) (x : Transfer) (first second : Quad) : Notice :=
  { s.slotNotice kind x with first := some first, second := some second }

/-- A compare of the computed pair with an APPROVED record (R112). -/
def State.compareImage (s : State) (x : Transfer) (r : ImageRecord) (n : Nat) (f : Quad) : State × Decision :=
  if pairMatches r n f then (s, .release)
  else
    (s.post { s.imageNotice .imageMismatch x r.fingerprint f with
        reason := some (.reason (if n = r.length then .mismatch else .length)) }, .mismatch)

/-- Write a position of the active Image Table. -/
def State.setImage (s : State) (i : Nat) (r : Option ImageRecord) : State :=
  { s with active := { s.active with images := s.active.images.setIfInBounds i r } }

/-- The position of the key's CANDIDATE in the active Image Table. -/
def State.candidatePosition (s : State) (x : Transfer) : Option Nat :=
  s.active.images.toList.findIdx? (fun o => o.any (fun r => r.hasKey x.controller x.cls x.idx && !r.isApproved))

/-- The lowest-numbered empty position of the active Image Table (R113). -/
def State.emptyPosition (s : State) : Option Nat := s.active.images.toList.findIdx? Option.isNone

/-- The CANDIDATE that learning writes for a transfer (R113). -/
def State.candidateFor (s : State) (x : Transfer) (n : Nat) (f : Quad) : ImageRecord :=
  { controller := x.controller, cls := x.cls, idx := x.idx, length := n, fingerprint := f, status := .candidate s.time }

/-- Learning: the key's CANDIDATE is replaced in its position, or a new one takes the lowest empty position; with every
position occupied the outcome is image full (R113). -/
def State.learnImage (s : State) (x : Transfer) (n : Nat) (f : Quad) : State × Decision :=
  match s.candidatePosition x <|> s.emptyPosition with
  | some i =>
    let s := s.setImage i (some (s.candidateFor x n f))
    (s.post (s.imageNotice .imageLearned x f (BitVec.ofNat 32 n)), .release)
  | none => (s, .imageFull)

/-- The image decision, by the effective image check and the table as it stands at completion (R111). Under REQUIRED
the APPROVED record found at the start is still there; where none is, in states no run reaches, the commit is not
released (L15). -/
def State.decideImage (s : State) (x : Transfer) (n : Nat) (f : Quad) : State × Decision :=
  match x.check with
  | .none => (s, .release)
  | .required =>
    match s.approved x.controller x.cls x.idx with
    | some r => s.compareImage x r n f
    | none => (s, .mismatch)
  | .learn =>
    match s.approved x.controller x.cls x.idx with
    | some r => s.compareImage x r n f
    | none => s.learnImage x n f

/-! ## Starting a transfer (R56, R67) -/

/-- The lowest-numbered FREE slot (R56, R57). -/
def State.freeSlot (s : State) : Option (Fin 8) := (List.finRange 8).find? (fun k => s.slot k == .free)

/-- The transfer a BEGIN opens (R56). -/
def transferOf (n : Fin 32) (f : Frame) (check : ImageCheck) : Transfer :=
  let h := oxHeader f.payload
  { controller := n, requester := f.src, tid := h.tid, cls := h.cls, idx := h.idx, declared := h.declared
    check := check, words := 0 }

/-- An idle deadline set now (R67, R74, R76). -/
def State.idleDeadline (s : State) : Nat := s.time + milliseconds s.timing.seg

/-- A response deadline set now (R67, R80, R124). -/
def State.responseDeadline (s : State) : Nat := s.time + milliseconds s.timing.resp

/-- A transfer starts in a slot: BEGUN, the window to TRANSFER, the BEGIN forwarded and counted, in one step (R56,
R67). -/
def State.startTransfer (s : State) (n : Fin 32) (k : Fin 8) (f : Frame) (check : ImageCheck) : State :=
  let slot : Slot := .taking (transferOf n f check) Sums.zero 0
    { expected := 0, last := none, idle := s.idleDeadline, answer := some s.responseDeadline }
  (((s.setSlot k slot).transferStarted n k).forward .line f).countAdmitted n

/-! ## Completing VERIFYING (R79 to R81) -/

/-- The held commit is released: forwarded, the slot RELEASED, the window to COMMIT-WAIT, counted, COMMIT_RELEASED
posted with F and the words accepted (R80). -/
def State.releaseCommit (s : State) (k : Fin 8) (x : Transfer) (held : Frame) (f : Quad) : State :=
  let s := (s.forward .line held).setSlot k (.released x s.responseDeadline)
  let s := (s.commitReleased x.controller).countReleased x.controller
  s.post { s.slotNotice .commitReleased x with first := some f, second := some (BitVec.ofNat 32 x.words) }

/-- The held commit is refused and the slot aborted with ABANDON, both with the reason (R81). -/
def State.refuseHeld (s : State) (k : Fin 8) (x : Transfer) (held : Frame) (r : Reason) : State :=
  (s.refuse (some x.controller) .commit held r).abort k true (some r) none

/-- A slot in VERIFYING whose pending count is 0 completes: its fingerprint is finalised with n equal to the position
(R107), the image decision is made, and its outcome acted on, in one step (R79 to R81, R114). -/
def State.completeVerifying (s : State) (k : Fin 8) : State :=
  match s.slot k with
  | .verifying x sums 0 held =>
    let f := fingerprint sums sums.i
    match s.decideImage x sums.i f with
    | (s, .release) => s.releaseCommit k x held f
    | (s, .mismatch) => (s.refuseHeld k x held .mismatch).reportMismatch x.controller
    | (s, .imageFull) => (s.refuseHeld k x held .imageFull).transferEnded x.controller false
  | _ => s

/-! ## A lane finishes (R101, R102) -/

/-- A lane's finish reaches the slot: values written back and pending lowered, and a VERIFYING slot with nothing pending
completes; a DRAINING slot becomes FREE and the values are discarded (R88, R101, R102). -/
def State.laneReports (s : State) (w : LaneWork) : State :=
  let sums := w.sums.takeAll w.entry.words
  let k := w.entry.slot
  match s.slot k with
  | .taking x _ pending q => s.setSlot k (.taking x sums (pending - 1) q)
  | .verifying x _ pending held => (s.setSlot k (.verifying x sums (pending - 1) held)).completeVerifying k
  | .draining => s.setSlot k .free
  | .free => s
  | .released _ _ => s

/-- A lane finishes: it becomes idle, its finish reaches its slot, and the arbiter gives it its next entry (R101 to
R103). -/
def State.finishLane (s : State) (l : Fin 2) : State :=
  match s.lane l with
  | some w => ((s.setLane l none).laneReports w).giveNext l
  | none => s

/-! ## Requests handed over by step 3 (R68) -/

/-- A request that ends the transfer is refused, the slot aborted with ABANDON, and the Window Controller told of a
non-commit ending (R73, R74, R78). -/
def State.refuseAndAbort (s : State) (n : Fin 32) (k : Fin 8) (o : Operation) (f : Frame) (r : Reason) : State :=
  ((s.refuse (some n) o f r).abort k true (some r) none).transferEnded n false

/-- The number after a segment's (R74). -/
def nextNumber (n : Nat) : Nat := (n + 1) % 65536

/-- A new segment (R74): too long, dropped at a full queue (R75), or accepted, forwarded and queued in one step. -/
def State.newSegment (s : State) (n : Fin 32) (k : Fin 8) (x : Transfer) (sums : Sums) (pending : Nat) (q : Intake)
    (f : Frame) : State × Ending :=
  let h := oxHeader f.payload
  if x.declared < x.words + h.words then (s.refuseAndAbort n k .segment f .length, .refused .length)
  else if s.segmentQueueFull then (s.countSegmentDrop, .dropped)
  else
    let slot : Slot := .taking { x with words := x.words + h.words } sums (pending + 1)
      { q with expected := nextNumber h.number, last := some h.number, idle := s.idleDeadline }
    let entry : SegmentEntry := { slot := k, number := h.number, words := oxWords f.payload }
    (((s.forward .line f).setSlot k slot).appendSegment entry, .pass)

/-- A SEGMENT at a slot that is taking segments: new, retransmitted or out of sequence (R73, R76). -/
def State.sequenceSegment (s : State) (n : Fin 32) (k : Fin 8) (x : Transfer) (sums : Sums) (pending : Nat)
    (q : Intake) (f : Frame) : State × Ending :=
  let h := oxHeader f.payload
  if h.number = q.expected then s.newSegment n k x sums pending q f
  else if q.last = some h.number then
    ((s.forward .line f).setSlot k (.taking x sums pending { q with idle := s.idleDeadline }), .pass)
  else (s.refuseAndAbort n k .segment f .sequence, .refused .sequence)

/-- A SEGMENT handed to a slot (R68): sequenced while segments are taken; refused SEQUENCE, with the slot unchanged, in
VERIFYING and RELEASED (R82, R85). -/
def State.segmentAt (s : State) (n : Fin 32) (k : Fin 8) (f : Frame) : State × Ending :=
  match s.slot k with
  | .taking x sums pending q => s.sequenceSegment n k x sums pending q f
  | _ => (s.refuse (some n) .segment f .sequence, .refused .sequence)

/-- A COMMIT handed to a slot (R68): checked and held while segments are taken, completing at once with nothing
pending (R78); dropped in VERIFYING (R82); forwarded in RELEASED (R85). -/
def State.commitAt (s : State) (n : Fin 32) (k : Fin 8) (f : Frame) : State × Ending :=
  match s.slot k with
  | .taking x sums pending _ =>
    if x.words = x.declared ∧ (oxHeader f.payload).declared = x.declared then
      let s := (s.setSlot k (.verifying x sums pending f)).commitHeld n
      (if pending = 0 then s.completeVerifying k else s, .held)
    else (s.refuseAndAbort n k .commit f .length, .refused .length)
  | .verifying _ _ _ _ => (s, .dropped)
  | _ => (s.forward .line f, .pass)

/-- An ABANDON handed to a slot (R68): forwarded; before the release it also aborts the slot without ABANDON and is a
non-commit ending (R82, R86), in RELEASED the slot is unchanged (R85). -/
def State.abandonAt (s : State) (n : Fin 32) (k : Fin 8) (f : Frame) : State × Ending :=
  match (s.slot k).abortable with
  | some _ => (((s.forward .line f).abort k false none none).transferEnded n false, .pass)
  | none => (s.forward .line f, .pass)

/-! ## Responses and deadlines (R70 to R72, R77, R84) -/

/-- A BEGIN response matches a slot in BEGUN (R70). -/
def Slot.awaitsBegin (x : Slot) (n : Fin 32) (f : Frame) : Bool :=
  match x with
  | .taking t _ _ q =>
    q.answer.isSome && t.controller == n && t.requester == f.dst && t.tid == (oxHeader f.payload).tid
  | _ => false

/-- A COMMIT response matches a slot in RELEASED (R70). -/
def Slot.awaitsCommit (x : Slot) (n : Fin 32) (f : Frame) : Bool :=
  match x with
  | .released t _ => t.controller == n && t.requester == f.dst && t.tid == (oxHeader f.payload).tid
  | _ => false

/-- The slot a BEGIN response from a controller matches (R70). -/
def State.beginSlot (s : State) (n : Fin 32) (f : Frame) : Option (Fin 8) :=
  (List.finRange 8).find? (fun k => (s.slot k).awaitsBegin n f)

/-- The slot a COMMIT response from a controller matches (R70). -/
def State.commitSlot (s : State) (n : Fin 32) (f : Frame) : Option (Fin 8) :=
  (List.finRange 8).find? (fun k => (s.slot k).awaitsCommit n f)

/-- The matching BEGIN response: LOADING on OK; any other status aborts without ABANDON, with the status in the notice,
and is a non-commit ending (R71). -/
def State.takeBeginResponse (s : State) (n : Fin 32) (k : Fin 8) (status : Nat) : State :=
  if status = statusOk then
    match s.slot k with
    | .taking x sums pending q => s.setSlot k (.taking x sums pending { q with answer := none })
    | _ => s
  else (s.abort k false none (some (BitVec.ofNat 32 status))).transferEnded n false

/-- A slot in RELEASED ends: it becomes FREE, the notice if any is posted, and a controller in COMMIT-WAIT is told of a
commit completion (R84). -/
def State.endReleased (s : State) (k : Fin 8) (notice : Option (NoticeKind × Option Quad)) : State :=
  match s.slot k with
  | .released x _ =>
    let s := s.setSlot k .free
    let s := match notice with
      | some (kind, first) => s.post { s.slotNotice kind x with first := first }
      | none => s
    s.transferEnded x.controller true
  | _ => s

/-- The matching COMMIT response (R84). -/
def State.takeCommitResponse (s : State) (k : Fin 8) (status : Nat) : State :=
  if status = statusOk then s.endReleased k none
  else s.endReleased k (some (.commitFailed, some (BitVec.ofNat 32 status)))

/-- A slot's idle deadline, or the deadline for the answer to its BEGIN, ends it with TIMEOUT (R72, R77). -/
def State.timeoutSlot (s : State) (k : Fin 8) : State :=
  match (s.slot k).abortable with
  | some x => (s.abort k true (some .timeout) none).transferEnded x.controller false
  | none => s

/-- A slot at a Line link loss: a live slot ends without ABANDON; a RELEASED one posts COMMIT_UNCONFIRMED (R91). -/
def State.linkLossSlot (s : State) (k : Fin 8) : State :=
  match s.slot k with
  | .taking _ _ _ _ => s.endSlot k
  | .verifying _ _ _ _ => s.endSlot k
  | .released x _ => let s := s.endSlot k; s.post (s.slotNotice .commitUnconfirmed x)
  | .free => s
  | .draining => s

end Sys2Proof.Machine
end

