-- ==== Sys2Proof/Machine/Scanner.lean ====
section
/-! DEFINITION. The Drift Scanner (chapter Drift Scanning). -/

namespace Sys2Proof.Machine

/-! ## Schedules (R120 to R122) -/

/-- A controller's schedule changes. -/
def State.updateSchedule (s : State) (n : Fin 32) (f : Schedule → Schedule) : State :=
  s.updateController n (fun c => { c with schedule := f c.schedule })

/-- The schedule of a controller at a power-on reset or a first selection (R120, R131). -/
def State.freshSchedule (s : State) : Schedule := { nextDue := s.time + Config.scanDelay, postponed := 0, overdue := false }

/-- The scan interval of a controller in the active bank, in seconds; 0 is off (R19). -/
def State.scanInterval (s : State) (n : Fin 32) : Nat := ((s.definition n).map ControllerDef.scanInterval).getD 0

/-- A controller is due: it is scanned at all, and its next-due has been reached (R121). -/
def State.scanDue (s : State) (n : Fin 32) : Bool :=
  s.scanInterval n != 0 && (s.controller n).any (fun c => s.reached c.schedule.nextDue)

/-- A postponement: the count rises to at most 8, next-due moves 60 s on, and the eighth of an episode posts
SCAN_OVERDUE (R122). -/
def State.postponeScan (s : State) (n : Fin 32) : State :=
  match s.controller n with
  | none => s
  | some c =>
    let count := saturatePostponed c.schedule.postponed
    let due := s.time + Config.scanDelay
    let report := decide (count = Config.maxPostponed) && !c.schedule.overdue
    let s := s.updateSchedule n (fun _ =>
      { nextDue := due, postponed := count, overdue := c.schedule.overdue || report })
    if report then
      s.post { s.notice .scanOverdue with
        controller := some n, first := some (upperHalf due), second := some (lowerHalf due) }
    else s

/-! ## SUMMARY requests (R124, R147) -/

/-- A SUMMARY of the scanner still waiting in the Line originate queue is removed; turns waited returns to 0 when it
stood at the head (R124, R130, R145, R147). -/
def State.removeSummary (s : State) : State :=
  let q := s.line
  let headRemoved := (q.originate.head?).any OrigFrame.isSummary
  { s with line :=
      { q with
        originate := q.originate.filter (fun o => !o.isSummary)
        turns := turnsAfterRemoval headRemoved q.turns } }

/-- A SUMMARY is sent for the record at a position: the tag counter moves on and becomes the outstanding tag, an earlier
waiting SUMMARY is removed, and the response deadline runs from now (R124). -/
def State.sendSummary (s : State) (n : Fin 32) (start position attempt : Nat) (r : ImageRecord) : State :=
  let tag := nextNumber s.tagCounter
  let deadline := s.responseDeadline
  let s := s.removeSummary.originate .line
    { kind := .summary, frame := summaryFrame s.identity.station (s.addrOf n) tag r }
  { s with
    tagCounter := tag
    round := some
      { controller := n, start := start, position := position, attempt := attempt, tag := tag, deadline := deadline } }

/-- The APPROVED record of a controller at the lowest position at or above `from`, with its position (R123). -/
def State.approvedFrom (s : State) (n : Fin 32) (lowest : Nat) : Option (Nat × ImageRecord) :=
  match s.active.images.toList.zipIdx.find? (fun x =>
      decide (lowest ≤ x.2) && x.1.any (fun r => r.controller == n && r.isApproved)) with
  | some (some r, i) => some (i, r)
  | _ => none

/-! ## Rounds (R121, R123, R129, R130) -/

/-- A round of a controller ends: the record becomes idle and next-due is round start plus the scan interval; a
completed round clears the count and the flag (R129). The schedule check that follows is the caller's. -/
def State.endRound (s : State) (n : Fin 32) (start : Nat) (completed : Bool) : State :=
  let due := start + seconds (s.scanInterval n)
  { s with round := none }.updateSchedule n (fun c =>
    if completed then { nextDue := due, postponed := 0, overdue := false } else { c with nextDue := due })

/-- A round goes on at the first APPROVED record at or above a position, or completes (R123, R129). -/
def State.continueRound (s : State) (n : Fin 32) (start lowest : Nat) : State :=
  match s.approvedFrom n lowest with
  | some (i, r) => s.sendSummary n start i 1 r
  | none => s.endRound n start true

/-- One due controller at a schedule check: a round begins in LOCKED with the Line link up, otherwise the round is
postponed (R121). Nothing once a round is in flight. -/
def State.checkController (s : State) (n : Fin 32) : State :=
  if s.round.isSome || !s.scanDue n then s
  else if (s.window? n).any Window.isLocked && s.line.up then s.continueRound n s.time 0
  else s.postponeScan n

/-- A schedule check: the lowest-numbered due controller, and so on until a round is in flight or none is due (R121).
Each controller is taken at most once, since a postponement or a completed round moves its next-due into the future. -/
def State.scheduleCheck (s : State) : State := (List.finRange 32).foldl State.checkController s

/-- A round in flight is cancelled: its waiting SUMMARY is removed, the record becomes idle, and one postponement is
counted (R130). The schedule check that follows is the caller's. -/
def State.cancelRound (s : State) : State :=
  match s.round with
  | some r => { s.removeSummary with round := none }.postponeScan r.controller
  | none => s

/-- A round in flight for this controller is cancelled, and a schedule check made (R130). -/
def State.cancelRoundOf (s : State) (n : Fin 32) : State :=
  if s.round.any (fun r => r.controller == n) then s.cancelRound.scheduleCheck else s

/-! ## Answers and misses (R125 to R128) -/

/-- The record a round is asking about. -/
def State.roundRecord (s : State) (r : Round) : Option ImageRecord := (s.active.images[r.position]?).bind id

/-- A SUMMARY response from a controller matches the round (R125). -/
def State.answersRound (s : State) (n : Option (Fin 32)) (f : Frame) (r : Round) : Bool :=
  let h := oxHeader f.payload
  n == some r.controller && h.tag == r.tag
    && (s.roundRecord r).any (fun i => i.cls == h.cls && i.idx == h.idx)

/-- A scanner notice about a record (R127, R128). -/
def State.scanNotice (s : State) (kind : NoticeKind) (r : Round) (i : ImageRecord) : Notice :=
  { s.notice kind with controller := some r.controller, object := some (i.cls, i.idx) }

/-- Drift: DRIFT is posted, the round ends, the controller enters QUARANTINE (R127); the schedule check of the round's
end is made once the controller has left LOCKED, DEDUCED from R127 (L16). -/
def State.drift (s : State) (r : Round) (i : ImageRecord) (reason : Option Reason) (first second : Quad) : State :=
  let s := s.post
    { s.scanNotice .drift r i with reason := reason.map .reason, first := some first, second := some second }
  ((s.endRound r.controller r.start false).enterQuarantine r.controller .drift).scheduleCheck

/-- A miss: a second attempt for the same record, or the end of the round with SCAN_NO_RESPONSE, carrying TIMEOUT for a
deadline and the status value for a response (R128). -/
def State.miss (s : State) (r : Round) (i : ImageRecord) (status : Option Nat) : State :=
  if r.attempt = 1 then s.sendSummary r.controller r.start r.position 2 i
  else
    let s := s.post
      { s.scanNotice .scanNoResponse r i with
        reason := if status.isNone then some (.reason .timeout) else none
        first := status.map (BitVec.ofNat 32) }
    (s.endRound r.controller r.start false).scheduleCheck

/-- A matching response is judged: equal, drift or miss (R126). -/
def State.judgeSummary (s : State) (r : Round) (i : ImageRecord) (f : Frame) : State :=
  let status := (oxHeader f.payload).status
  let length := reportedLength f.payload
  let print := reportedFingerprint f.payload
  if status = statusOk then
    if pairMatches i length print then
      let s := s.continueRound r.controller r.start (r.position + 1)
      if s.round.isNone then s.scheduleCheck else s
    else if length = i.length then s.drift r i (some .mismatch) i.fingerprint print
    else s.drift r i (some .length) (BitVec.ofNat 32 i.length) (BitVec.ofNat 32 length)
  else if status = statusNoObject then s.drift r i none (BitVec.ofNat 32 i.length) i.fingerprint
  else s.miss r i (some status)

/-- A SUMMARY response handed to the scanner: one that does not match the round is discarded (R125). -/
def State.takeSummaryResponse (s : State) (f : Frame) : State :=
  match s.round with
  | none => s
  | some r =>
    if s.answersRound (s.protectedBy f.src) f r then
      match s.roundRecord r with
      | some i => s.judgeSummary r i f
      | none => s
    else s

/-- The scan round's response deadline is taken as a miss (R128). In states no run reaches the record may be gone; the
round then ends as completed (L21). -/
def State.scanTimeout (s : State) : State :=
  match s.round with
  | none => s
  | some r =>
    match s.roundRecord r with
    | some i => s.miss r i none
    | none => (s.endRound r.controller r.start true).scheduleCheck

end Sys2Proof.Machine
end

