-- ==== Sys2Proof/Machine/Admission.lean ====
section
/-! DEFINITION. The Admission Unit (chapter Admission of Requests): the grant lookup, the steps in their order, the
disposition by window state, the start of a transfer, and step 3. -/

namespace Sys2Proof.Machine

/-! ## Policy (R45, R47, R49 to R51) -/

/-- The operation class of a request is among a set of rights or operations (R45, R51). The operations that are judged
by class are SET-PARAM, BEGIN, MODE and FORCE. -/
def Rights.allow (r : Rights) : Operation → Bool
  | .setParam => r.param
  | .begins => r.write
  | .mode => r.mode
  | .force => r.force
  | .read | .summary | .segment | .commit | .abandon => false

/-- A grant covers a request (R45). -/
def Grant.covers (g : Grant) (n : Fin 32) (o : Operation) (cls idx : Nat) : Bool :=
  (g.controller == none || g.controller == some n) && (g.cls == none || g.cls == some cls)
    && decide (g.low ≤ idx) && decide (idx ≤ g.high) && g.operations.allow o

/-- The first grant of the active Grant Table that covers a request, with its position (R45). -/
def State.matchedGrant (s : State) (n : Fin 32) (o : Operation) (cls idx : Nat) : Option (Nat × Grant) :=
  match s.active.grants.toList.zipIdx.find? (fun x => x.1.any (fun g => g.covers n o cls idx)) with
  | some (some g, i) => some (i, g)
  | _ => none

/-- The effective level: the larger of the station's level and the claimed level, read as at most 3 (R50). -/
def effectiveLevel (station claimed : Nat) : Nat := max station (min claimed 3)

/-- The effective image check (R55): LEARN becomes REQUIRED when the key has an APPROVED record. -/
def effectiveCheck (g : ImageCheck) (approved : Bool) : ImageCheck :=
  match g with
  | .required => .required
  | .learn => if approved then .required else .learn
  | .none => .none

/-! ## Disposition (R52) -/

/-- What becomes of a request: it passes, it may start a transfer, or it is refused with a reason. -/
inductive Disposition where
  | pass
  | start
  | refuse (r : Reason)
  deriving DecidableEq, Repr

/-- Step 7 for a request of a kind, under a grant that needs a window or not, in a window state (R52). -/
def dispose (o : Operation) (needed : Bool) (w : Window) : Disposition :=
  match o, w with
  | _, .quarantined _ => .refuse .quarantine
  | .setParam, .locked => if needed then .refuse .locked else .pass
  | .setParam, .opening _ _ _ => if needed then .refuse .locked else .pass
  | .setParam, _ => .pass
  | .begins, .locked => .refuse .locked
  | .begins, .opening _ _ _ => .refuse .locked
  | .begins, .opened _ _ => .start
  | .begins, _ => .refuse .busy
  | .mode, .locked => if needed then .refuse .locked else .pass
  | .mode, .opening _ _ _ => if needed then .refuse .locked else .pass
  | .mode, .opened _ _ => .pass
  | .mode, _ => .refuse .busy
  | _, .locked => .refuse .locked
  | _, .opening _ _ _ => .refuse .locked
  | _, .opened _ _ => .pass
  | _, _ => .refuse .busy

/-- Steps 2 and 4 to 7 over a request's source, controller, operation, class, index and claimed level, with what each
step found (R46, R64). -/
structure Judgement where
  outcome : Disposition
  /-- the effective level, when step 2 found a station entry -/
  level : Option Nat := none
  /-- the matched grant and its position, when step 4 found one -/
  grant : Option (Nat × Grant) := none
  /-- the window state read at step 7 -/
  window : Option Window := none
  deriving DecidableEq, Repr

/-- The window state of a controller number as admission reads it; an undefined number, which no request that reaches
admission concerns, reads as LOCKED (L21). -/
def State.windowOf (s : State) (n : Fin 32) : Window := (s.window? n).getD .locked

/-- The request is judged by steps 2, 4, 5, 6 and 7; the first failure gives the reason (R46, R47, R49 to R52). -/
def State.judge (s : State) (src : Addr) (n : Fin 32) (o : Operation) (cls idx claimed : Nat) : Judgement :=
  match s.station src with
  | none => { outcome := .refuse .unknownSource }
  | some e =>
    let level := effectiveLevel e.level claimed
    match s.matchedGrant n o cls idx with
    | none => { outcome := .refuse .noGrant, level := some level }
    | some (i, g) =>
      if g.level < level then { outcome := .refuse .level, level := some level, grant := some (i, g) }
      else if !e.rights.allow o then { outcome := .refuse .noRight, level := some level, grant := some (i, g) }
      else
        { outcome := dispose o g.needed (s.windowOf n), level := some level, grant := some (i, g)
          window := some (s.windowOf n) }

/-- The judgement of a request frame. -/
def State.judgeFrame (s : State) (n : Fin 32) (o : Operation) (f : Frame) : Judgement :=
  let h := oxHeader f.payload
  s.judge f.src n o h.cls h.idx h.claimed

/-! ## Starting a transfer (R55, R56) -/

/-- The checks of a BEGIN disposed of as start transfer, in their order: the reason of the first failure, or the slot it
takes and its effective image check (R55). -/
def State.startChecks (s : State) (n : Fin 32) (f : Frame) (check : ImageCheck) : Except Reason (Fin 8 × ImageCheck) :=
  let h := oxHeader f.payload
  let record := s.approved n h.cls h.idx
  let effective := effectiveCheck check record.isSome
  match s.freeSlot with
  | none => .error .slotsFull
  | some k =>
    if h.declared = 0 then .error .length
    else if Config.maxObject < h.declared then .error .tooLong
    else if effective = .required then
      match record with
      | none => .error .noImage
      | some r => if r.length = h.declared then .ok (k, effective) else .error .length
    else .ok (k, effective)

/-! ## The requests of each kind (R56, R58, R59, R61) -/

/-- A request refused by the Admission Unit, and offered to the watches with its reason (R59, R61). -/
def State.refuseAndOffer (s : State) (n : Fin 32) (o : Operation) (f : Frame) (r : Reason) : State :=
  (s.refuse (some n) o f r).offer n o f (.refused r)

/-- A request passed: forwarded, counted, offered (R58, R61). -/
def State.passAndOffer (s : State) (n : Fin 32) (o : Operation) (f : Frame) : State :=
  ((s.forward .line f).countAdmitted n).offer n o f .pass

/-- A single-frame write request, SET-PARAM, MODE or FORCE (R46, R58, R59). -/
def State.admitSingle (s : State) (n : Fin 32) (o : Operation) (f : Frame) : State :=
  match (s.judgeFrame n o f).outcome with
  | .pass => s.passAndOffer n o f
  | .refuse r => s.refuseAndOffer n o f r
  | .start => s

/-- The image check of the matched grant of a judgement. -/
def Judgement.check (j : Judgement) : ImageCheck :=
  match j.grant with
  | some (_, g) => g.check
  | none => .none

/-- A BEGIN (R46, R55, R56). -/
def State.admitBegin (s : State) (n : Fin 32) (f : Frame) : State :=
  let j := s.judgeFrame n .begins f
  match j.outcome with
  | .refuse r => s.refuseAndOffer n .begins f r
  | .pass => s
  | .start =>
    match s.startChecks n f j.check with
    | .error r => s.refuseAndOffer n .begins f r
    | .ok (k, check) => (s.startTransfer n k f check).offer n .begins f .start

/-- A READ or SUMMARY passes from any source, and is offered with outcome PASS (R7, R135). DESIGN CHOICE (L25): one that
the Line link's being down, or a full Line forwarded queue, keeps from being placed is offered all the same; R135 speaks
only of those that are placed. -/
def State.passRead (s : State) (n : Fin 32) (o : Operation) (f : Frame) : State :=
  (s.forward .line f).offer n o f .pass

/-! ## Step 3 (R48) -/

/-- A live slot matches a SEGMENT, COMMIT or ABANDON (R48). -/
def Slot.matchesRequest (x : Slot) (n : Fin 32) (f : Frame) : Bool :=
  x.live.any (fun t => t.controller == n && t.requester == f.src && t.tid == (oxHeader f.payload).tid)

/-- The slot a download request matches (R48). -/
def State.requestSlot (s : State) (n : Fin 32) (f : Frame) : Option (Fin 8) :=
  (List.finRange 8).find? (fun k => (s.slot k).matchesRequest n f)

/-- Steps 2 and 3 of a SEGMENT, COMMIT or ABANDON: the slot it is handed to, or the reason it is refused (R47, R48). -/
def State.stepThree (s : State) (n : Fin 32) (f : Frame) : Except Reason (Fin 8) :=
  match s.station f.src with
  | none => .error .unknownSource
  | some _ =>
    match s.requestSlot n f with
    | none => .error .noTransfer
    | some k => if (s.windowOf n).isQuarantined then .error .quarantine else .ok k

/-- A download request: refused at step 2 or 3, or handed to the Tracker; it is offered once, with its outcome (R46,
R61, R69). -/
def State.handToTracker (s : State) (n : Fin 32) (o : Operation) (f : Frame)
    (tracker : State → Fin 8 → State × Ending) : State :=
  match s.stepThree n f with
  | .error r => s.refuseAndOffer n o f r
  | .ok k => (tracker s k).1.offer n o f (tracker s k).2

end Sys2Proof.Machine
end

