-- ==== Sys2Proof/Machine/Restart.lean ====
section
/-! DEFINITION. Store writes (R157, R158), the warm restart (section 11.7) and power (R157, R159). -/

namespace Sys2Proof.Machine

/-! ## The Settings Store -/

/-- The image a store write takes: the active bank and the settings as they stand (R157, R158). -/
def State.image (s : State) : StoredImage :=
  { bank := s.active, generation := s.generation, timing := s.timing, destination := s.destination }

/-- A store write begins: the store-busy flag is set and the image is taken (R158). -/
def State.beginWrite (s : State) : State := { s with writing := some s.image }

/-- A store write begins outside Closed fallback, and none in it (R159, R168, R169). -/
def State.beginWriteOutside (s : State) : State := if s.fallback then s else s.beginWrite

/-- A store write ends: with success the new image replaces the old one; with failure the image left behind has a check
word that is not good, and STORE_FAILED is posted (R143, R158). -/
def State.endWrite (s : State) (success : Bool) : State :=
  match s.writing with
  | none => s
  | some image =>
    if success then { s with stored := some image, writing := none }
    else
      let s := { s with stored := none, writing := none }
      s.post (s.notice .storeFailed)

/-! ## Warm restart -/

/-- A port at a warm restart: queues emptied, sending cut short, turns waited 0, link state kept (R150). -/
def PortState.restart (p : PortState) : PortState := { PortState.reset with up := p.up }

/-- The window state a controller has after a warm restart: QUARANTINE kept with its cause, any other LOCKED (R20). -/
def Window.restart : Window → Window
  | .quarantined c => .quarantined c
  | _ => .locked

/-- A controller at a warm restart: mismatch count and schedule kept (R20, R22, R120). -/
def Controller.restart (m : Monitor) (c : Controller) : Controller :=
  { c with window := c.window.restart, monitor := m }

/-- What a warm restart sets, before the schedule check it ends with (section 11.7: R20, R22, R66, R108, R120, R133,
R142, R150, R170, R171). -/
def State.restartBlocks (s : State) : State :=
  let m := s.freshMonitor
  { s with
    controllers := s.controllers.map (Option.map (Controller.restart m))
    slots := Vector.replicate 8 Slot.free
    waiting := []
    lanes := Vector.replicate 2 none
    round := none
    watches := Vector.replicate 8 none
    notices := []
    dropped := 0
    plant := s.plant.restart
    line := s.line.restart
    restartPending := false
    lineWaiting := 0 }

/-- A warm restart. A round in flight ends without counting a postponement, and only then is a schedule check made,
against the state the restart leaves (R120). -/
def State.warmRestart (s : State) : State :=
  if s.round.isSome then s.restartBlocks.scheduleCheck else s.restartBlocks

/-- Several warm restarts, one after another. -/
def State.warmRestarts : Nat → State → State
  | 0, s => s
  | n + 1, s => warmRestarts n s.warmRestart

/-- A restart that is due takes effect: one for each closing of the line that has waited, which a pending RESTART joins
(R171; L23), and one for a pending RESTART alone (R170). -/
def State.takeDueRestart (s : State) : State := if s.restartDue then s.warmRestarts (max 1 s.lineWaiting) else s

/-! ## Power -/

/-- What is left when the power is removed: what is fixed at manufacture, the stored image, the line's state as it
stands. A store write in flight leaves an image whose check word is not good (R158). Everything else is lost; it is
held at its reset value, and nothing reads it before the next power-on reset (L22). -/
def State.losePower (s : State) : State :=
  { State.reset with
    identity := s.identity
    powered := false
    stored := if s.storeBusy then none else s.stored
    lineClosed := s.lineClosed
    pending := s.pending
    choices := s.choices }

/-- A controller defined by a restored or selected bank starts in LOCKED with mismatch count 0 (R20, R22, R42, R120). -/
def State.freshController (s : State) : Controller :=
  { window := .locked, mismatches := 0, monitor := s.freshMonitor, schedule := s.freshSchedule }

/-- The start of the filter after power is applied (R157, R159): from the stored image when its check word is good, else
in Closed fallback with empty banks and delivery settings; every block at its power-on value. The line's state is taken
as it stands (R171). -/
def State.powerOn (s : State) : State :=
  let s := { s.losePower with powered := true }
  match s.stored with
  | none => s
  | some image =>
    let s := { s with
      timing := image.timing, fallback := false, generation := image.generation, active := image.bank
      destination := image.destination }
    { s with controllers := image.bank.definitions.map (Option.map (fun _ => s.freshController)) }

end Sys2Proof.Machine
end

