-- ==== Sys2Proof/Machine/Management.lean ====
section
/-! DEFINITION. The Management Agent (chapter Management Frames and Commands): acceptance, the request check, the reply,
and what each command does with its argument bytes. A command's body answers the state it leaves and its reply. -/

namespace Sys2Proof.Machine

/-! ## Acceptance and the request check (R161, R162) -/

/-- A management frame addressed to the filter is accepted (R161). -/
def State.accepts (s : State) (p : Port) (f : Frame) : Bool :=
  p == .plant && (s.fallback || (s.station f.src).any (fun e => e.rights.manage))

/-- A management frame that is not accepted posts MGMT_REFUSED with its source and port (R143, R161). -/
def State.refuseManagement (s : State) (p : Port) (f : Frame) : State :=
  s.post { s.notice .mgmtRefused with station := some f.src, first := some (BitVec.ofNat 32 (portCode p)) }

/-- The commands refused in Closed fallback (section 11.2, R159). -/
def refusedInFallback : Command → Bool
  | .openWindow | .closeWindow | .quarantine | .release | .approveCandidate | .discardCandidate | .armWatch
  | .disarmWatch => true
  | .identify | .readTime | .readController | .readRecord | .loadRecord | .clearShadow | .selectBank | .probe
  | .readCounters | .setTiming | .setNoticeDestination | .restart => false

/-- The checks of an accepted request before its command's own rule, in their order; the first failure's reply status
(R162). -/
def State.requestCheck (s : State) (f : Frame) : Option ReplyStatus :=
  let h := managementHeader f.payload
  if h.status ≠ 0 ∨ h.reserved ≠ 0 then some .badFormat
  else if h.kind ≠ 1 then some .badFormat
  else if f.payload.length < Config.managementHeaderBytes + h.length then some .badFormat
  else
    match Command.ofCode h.code with
    | none => some .unknownCommand
    | some c =>
      if h.length < argumentLength c (argumentBytes f.payload) then some .badFormat
      else if refusedInFallback c && s.fallback then some .fallback
      else none

/-- A reply is built and appended to the Plant originate queue, or lost and counted when that queue is full (R163). -/
def State.reply (s : State) (f : Frame) (kind : OrigKind) (r : Reply) : State :=
  s.originate .plant { kind := kind, frame := replyFrame s.identity.station f r }

/-- A management frame of a command's row is taken: refused at acceptance, refused at the request check, or carried out
by the command's body, its reply built in the same step (R161 to R163). -/
def State.manage (s : State) (p : Port) (f : Frame) (body : List Byte → State → State × Reply) : State :=
  if s.accepts p f then
    match s.requestCheck f with
    | some status => s.reply f .reply { status := status }
    | none => (body (argumentBytes f.payload) s).1.reply f .reply (body (argumentBytes f.payload) s).2
  else s.refuseManagement p f

/-- A reply that carries its status alone, with nothing changed. -/
def State.answer (s : State) (status : ReplyStatus) : State × Reply := (s, { status := status })

/-- A command that names a controller number in its first argument byte: OUT_OF_RANGE above 31, NOT_FOUND when the
number is not defined (R26, R32, R39, R40, R165). -/
def State.forController (s : State) (args : List Byte) (body : Fin 32 → Controller → State × Reply) : State × Reply :=
  match controllerOf (fieldAt args 0 1) with
  | none => s.answer .outOfRange
  | some n =>
    match s.controller n with
    | none => s.answer .notFound
    | some c => body n c

/-! ## Reading commands (R164 to R167) -/

/-- The eleven capacities, in the order R164 lists them. -/
def capacities : List Nat :=
  [Config.controllers, Config.stationEntries, Config.grantEntries, Config.imageRecords, Config.transferSlots,
   Config.segmentPlaces, Config.lanes, Config.watches, Config.noticePlaces, Config.linePlaces, Config.plantPlaces]

/-- IDENTIFY (R164). -/
def State.doIdentify (_ : List Byte) (s : State) : State × Reply :=
  (s, { status := .ok
        results := bytesOf 2 Config.modelCode ++ bytesOf 1 s.identity.hardware ++ bytesOf 1 s.identity.function
          ++ addrBytes s.identity.station ++ capacities.flatMap (bytesOf 2) ++ bytesOf 4 s.generation
          ++ bytesOf 1 (boolCode s.fallback) ++ bytesOf 1 (boolCode s.storeBusy)
          ++ bytesOf 1 (boolCode s.restartPending) })

/-- READ-TIME (R164). -/
def State.doReadTime (_ : List Byte) (s : State) : State × Reply :=
  (s, { status := .ok, results := bytesOf 8 s.time })

/-- The window fields that are present, as READ-CONTROLLER reports them (R20, R165). -/
def Window.mode? : Window → Option WindowMode
  | .opening m _ _ => some m
  | .opened m _ => some m
  | .transfer m _ _ => some m
  | .verify m _ _ _ => some m
  | .commitWait m _ _ _ => some m
  | .locked => none
  | .quarantined _ => none

def Window.length? : Window → Option Nat
  | .opening _ l _ => some l
  | _ => none

def Window.openingDeadline? : Window → Option Nat
  | .opening _ _ d => some d
  | _ => none

def Window.deadline? : Window → Option Nat
  | .opened _ d => some d
  | .transfer _ d _ => some d
  | .verify _ d _ _ => d
  | .commitWait _ d _ _ => d
  | .locked => none
  | .opening _ _ _ => none
  | .quarantined _ => none

def Window.closing? : Window → Option CloseCause
  | .verify _ _ _ c => c
  | .commitWait _ _ _ c => c
  | _ => none

def Window.cause? : Window → Option QuarantineCause
  | .quarantined c => some c
  | _ => none

def Window.slot? : Window → Option (Fin 8)
  | .transfer _ _ k => some k
  | .verify _ _ k _ => some k
  | .commitWait _ _ k _ => some k
  | _ => none

/-- The live slot that names a controller (R165). -/
def State.slotNaming (s : State) (n : Fin 32) : Option (Fin 8) :=
  (List.finRange 8).find? (fun k => (s.slot k).live.any (fun x => x.controller == n))

def Slot.pending? : Slot → Option Nat
  | .taking _ _ p _ => some p
  | .verifying _ _ p _ => some p
  | .draining => some 1
  | .free => none
  | .released _ _ => none

def Slot.idleDeadline? : Slot → Option Nat
  | .taking _ _ _ q => some q.idle
  | _ => none

def Slot.responseDeadline? : Slot → Option Nat
  | .taking _ _ _ q => q.answer
  | .released _ d => some d
  | _ => none

/-- The window part of a READ-CONTROLLER reply (R165). -/
def windowResults (c : Controller) : List Byte :=
  bytesOf 1 c.window.code ++ optionBytes (fun m => bytesOf 1 (WindowMode.code m)) c.window.mode?
    ++ optionBytes (bytesOf 2) c.window.length? ++ optionBytes (bytesOf 8) c.window.openingDeadline?
    ++ optionBytes (bytesOf 8) c.window.deadline?
    ++ optionBytes (fun x => bytesOf 1 (CloseCause.window x).code) c.window.closing?
    ++ optionBytes (fun x => bytesOf 1 (QuarantineCause.code x)) c.window.cause?
    ++ optionBytes (fun k : Fin 8 => bytesOf 1 k.val) c.window.slot? ++ bytesOf 1 c.mismatches

/-- The Monitor's part (R165). -/
def monitorResults (m : Monitor) : List Byte :=
  bytesOf 1 m.observed.code ++ optionBytes (bytesOf 8) m.lastFrame
    ++ optionBytes (bytesOf 8) (m.quiet.map QuietRun.since)

/-- The Tracker's part: each result of the slot that names the controller, after its presence byte (R165; L17). -/
def slotResults (k : Option (Fin 8)) (x : Slot) : List Byte :=
  optionBytes (fun k : Fin 8 => bytesOf 1 k.val) k
    ++ optionBytes (fun _ : Fin 8 => bytesOf 1 x.phaseCode) k
    ++ optionBytes (fun t : Transfer => bytesOf 4 t.words) x.live
    ++ optionBytes (fun t : Transfer => bytesOf 4 t.declared) x.live
    ++ optionBytes (bytesOf 1) x.pending? ++ optionBytes (bytesOf 8) x.idleDeadline?
    ++ optionBytes (bytesOf 8) x.responseDeadline?

/-- The scanner's part (R165). -/
def scheduleResults (c : Schedule) (r : Option Round) : List Byte :=
  bytesOf 8 c.nextDue ++ bytesOf 1 c.postponed ++ bytesOf 1 (boolCode c.overdue)
    ++ optionBytes (fun r : Round => bytesOf 2 r.position) r ++ optionBytes (fun r : Round => bytesOf 1 r.attempt) r

def counterResults (c : ControllerCounters) : List Byte :=
  bytesOf 4 c.admitted ++ bytesOf 4 c.refusals ++ bytesOf 4 c.released ++ bytesOf 4 c.mismatches

def deviceResults (d : DeviceCounters) : List Byte :=
  bytesOf 4 d.receivedDiscarded ++ bytesOf 4 d.malformed ++ bytesOf 4 d.segmentDrop ++ bytesOf 4 d.notSent
    ++ bytesOf 4 d.linkDiscarded ++ bytesOf 4 d.forwardOverflow

/-- READ-CONTROLLER (R165). -/
def State.doReadController (args : List Byte) (s : State) : State × Reply :=
  s.forController args fun n c =>
    let k := s.slotNaming n
    let x := (k.map s.slot).getD .free
    (s, { status := .ok
          results := windowResults c ++ monitorResults c.monitor ++ slotResults k x
            ++ scheduleResults c.schedule (s.round.filter (fun r => r.controller == n)) ++ counterResults (s.count n) })

/-- A bank by its code: 0 active, 1 shadow (R174). -/
def State.bankOf (s : State) : Nat → Option Bank
  | 0 => some s.active
  | 1 => some s.shadow
  | _ => none

/-- The record bytes of a position of a table of a bank; none when the position is empty. -/
def recordAt (b : Bank) (t : Table) (i : Nat) : Option (List Byte) :=
  match t with
  | .definitions => ((b.definitions[i]?).bind id).map definitionBytes
  | .stations => ((b.stations[i]?).bind id).map stationBytes
  | .grants => ((b.grants[i]?).bind id).map grantBytes
  | .images => ((b.images[i]?).bind id).map imageBytes

/-- READ-RECORD (R166): a presence byte, and the record in the layout of its table. -/
def State.doReadRecord (args : List Byte) (s : State) : State × Reply :=
  match s.bankOf (fieldAt args 0 1), Table.ofCode (fieldAt args 1 1) with
  | some b, some t =>
    if fieldAt args 2 2 < t.positions then
      (s, { status := .ok, results := optionBytes id (recordAt b t (fieldAt args 2 2)) })
    else s.answer .outOfRange
  | _, _ => s.answer .outOfRange

/-- READ-COUNTERS (R167): the group's counters, and with the clear option every one of them 0 in the same step. -/
def State.doReadCounters (args : List Byte) (s : State) : State × Reply :=
  match boolOfCode (fieldAt args 1 1) with
  | none => s.answer .outOfRange
  | some clear =>
    if fieldAt args 0 1 = 255 then
      (if clear then { s with device := DeviceCounters.zero } else s,
        { status := .ok, results := deviceResults s.device })
    else
      match controllerOf (fieldAt args 0 1) with
      | none => s.answer .outOfRange
      | some n =>
        (if clear then s.setCount n ControllerCounters.zero else s,
          { status := .ok, results := counterResults (s.count n) })

/-! ## Banks (R152 to R156) -/

/-- LOAD-RECORD over a table of the shadow bank: empty, or a record that passes the static checks (R152). -/
def loadInto (own : Addr) (b : Bank) (t : Table) (i : Nat) (record : Option (List Byte)) : Option Bank :=
  match t, record with
  | .definitions, none => some { b with definitions := b.definitions.setIfInBounds i none }
  | .stations, none => some { b with stations := b.stations.setIfInBounds i none }
  | .grants, none => some { b with grants := b.grants.setIfInBounds i none }
  | .images, none => some { b with images := b.images.setIfInBounds i none }
  | .definitions, some bs =>
    (definitionOf own bs).map fun r => { b with definitions := b.definitions.setIfInBounds i (some r) }
  | .stations, some bs => (stationOf own bs).map fun r => { b with stations := b.stations.setIfInBounds i (some r) }
  | .grants, some bs => (grantOf bs).map fun r => { b with grants := b.grants.setIfInBounds i (some r) }
  | .images, some bs => (imageOf bs).map fun r => { b with images := b.images.setIfInBounds i (some r) }

/-- The record argument of a LOAD-RECORD: empty for presence 0, the record's bytes for presence 1 (R174). -/
def recordArgument (args : List Byte) : Option (Option (List Byte)) :=
  match boolOfCode (fieldAt args 3 1) with
  | some false => some none
  | some true => some (some (args.drop 4))
  | none => none

/-- LOAD-RECORD (R152). -/
def State.doLoadRecord (args : List Byte) (s : State) : State × Reply :=
  match Table.ofCode (fieldAt args 0 1), recordArgument args with
  | some t, some record =>
    if fieldAt args 1 2 < t.positions then
      match loadInto s.identity.station s.shadow t (fieldAt args 1 2) record with
      | some b => ({ s with shadow := b }, { status := .ok })
      | none => s.answer .outOfRange
    else s.answer .outOfRange
  | _, _ => s.answer .outOfRange

/-- CLEAR-SHADOW (R153). -/
def State.doClearShadow (_ : List Byte) (s : State) : State × Reply :=
  ({ s with shadow := Bank.empty }, { status := .ok })

/-- The first position of a table at which a condition on the position, its record and the records below it holds. -/
def firstFailure {α : Type} (bad : List α → α → Bool) : List α → Nat → List (Option α) → Option Nat
  | _, _, [] => none
  | below, i, none :: rest => firstFailure bad below (i + 1) rest
  | below, i, some r :: rest => if bad below r then some i else firstFailure bad (r :: below) (i + 1) rest

/-- The conditions of the bank check, table by table (R155). -/
def definitionFails (below : List ControllerDef) (r : ControllerDef) : Bool := below.any (fun d => d.addr == r.addr)

def stationFails (below : List StationEntry) (r : StationEntry) : Bool := below.any (fun e => e.addr == r.addr)

def grantFails (b : Bank) (_ : List Grant) (r : Grant) : Bool :=
  r.controller.any (fun n : Fin 32 => (b.definitions[n]).isNone)

def imageFails (b : Bank) (below : List ImageRecord) (r : ImageRecord) : Bool :=
  (b.definitions[r.controller]).isNone || below.any (fun x => x.hasKey r.controller r.cls r.idx) || !r.isApproved

/-- The bank check over a whole bank, for a selection sent by a source: the table and position at which it fails, or the
Station Table and no position when the source would not hold MANAGE (R155). -/
def bankCheck (b : Bank) (src : Addr) : Option (Table × Option Nat) :=
  match firstFailure definitionFails [] 0 b.definitions.toList with
  | some i => some (.definitions, some i)
  | none =>
    match firstFailure stationFails [] 0 b.stations.toList with
    | some i => some (.stations, some i)
    | none =>
      match firstFailure (grantFails b) [] 0 b.grants.toList with
      | some i => some (.grants, some i)
      | none =>
        match firstFailure (imageFails b) [] 0 b.images.toList with
        | some i => some (.images, some i)
        | none =>
          if (b.stations.toList.filterMap id).any (fun e => e.addr == src && e.rights.manage) then none
          else some (.stations, none)

/-- The number of controllers a bank defines (R143, R154). -/
def definedCount (b : Bank) : Nat := (b.definitions.toList.filter Option.isSome).length

/-- A window state in which a selection can be taken (R42, R154). -/
def Window.settledForSelection : Window → Bool
  | .locked => true
  | .quarantined _ => true
  | _ => false

/-- Every defined controller is in LOCKED or QUARANTINE, and every slot is FREE (R42, R154 case 3). -/
def State.readyForSelection (s : State) : Bool :=
  s.controllers.toList.all (fun c => c.all (fun c => c.window.settledForSelection))
    && s.slots.toList.all (fun x => x == .free)

/-- A controller number at a selection (R22, R42, R131): kept, created or removed by the definition of the new bank. -/
def State.selectController (s : State) (old : Option Controller) (d : Option ControllerDef) : Option Controller :=
  match d, old with
  | none, _ => none
  | some _, some c =>
    some { c with monitor := s.freshMonitor, schedule := { c.schedule with nextDue := s.time + Config.scanDelay } }
  | some _, none => some s.freshController

/-- The scanner at a selection first cancels a round in flight; a postponement is counted when its controller is defined
in the new bank, and no schedule check is made (R131). -/
def State.cancelForSelection (s : State) (new : Bank) : State :=
  match s.round with
  | none => s
  | some r =>
    let s := { s.removeSummary with round := none }
    if (new.definitions[r.controller]).isSome then s.postponeScan r.controller else s

/-- The generation after this one, modulo 2^32 (R151). -/
def nextGeneration (g : Nat) : Nat := (g + 1) % 4294967296

/-- A selection, in one step: the banks exchange roles, the controllers, Monitor and scanner take the new bank,
BANK_SELECTED is posted, Closed fallback ends, a store write begins (R156). -/
def State.makeSelection (s : State) : State :=
  let s := s.cancelForSelection s.shadow
  let s := { s with
    active := s.shadow, shadow := s.active, generation := nextGeneration s.generation
    controllers := Vector.ofFn (fun n => s.selectController s.controllers[n] s.shadow.definitions[n]) }
  let s := s.post { s.notice .bankSelected with first := some (BitVec.ofNat 32 (definedCount s.active)) }
  { s with fallback := false }.beginWrite

/-- SELECT-BANK, from the source of its frame: the first case that applies decides (R154). -/
def State.doSelectBank (src : Addr) (args : List Byte) (s : State) : State × Reply :=
  let g := fieldAt args 0 4
  if s.fallback = false ∧ g = s.generation then (s, { status := .already, results := bytesOf 4 s.generation })
  else if g ≠ nextGeneration s.generation then (s, { status := .state, results := bytesOf 4 s.generation })
  else if !s.readyForSelection then (s, { status := .state, results := bytesOf 4 s.generation })
  else if s.storeBusy then s.answer .storeBusy
  else
    match bankCheck s.shadow src with
    | some (t, i) =>
      (s, { status := .bankCheck, results := bytesOf 1 t.code ++ optionBytes (bytesOf 2) i })
    | none =>
      (s.makeSelection,
        { status := .ok
          results := bytesOf 4 (nextGeneration s.generation) ++ bytesOf 1 (definedCount s.shadow) })

/-! ## Windows and quarantine (R26, R32, R39, R40) -/

/-- OPEN-WINDOW (R26): its arguments in range, then the controller defined, then by window state. -/
def State.doOpenWindow (args : List Byte) (s : State) : State × Reply :=
  match controllerOf (fieldAt args 0 1), WindowMode.ofCode (fieldAt args 3 1) with
  | some n, some m =>
    match s.controller n with
    | none => s.answer .notFound
    | some c =>
      match c.window with
      | .quarantined _ => s.answer .state
      | .locked =>
        match s.rateRefusal with
        | some retry =>
          (s.post { s.notice .rateLimited with
              controller := some n, first := some (upperHalf retry), second := some (lowerHalf retry) },
            { status := .rate, results := bytesOf 8 retry })
        | none =>
          let argument := fieldAt args 1 2
          let length := s.windowLength argument
          ((s.acceptOpening n m argument).cancelRoundOf n,
            if argument ≠ 0 ∧ length ≠ argument then { status := .clamped, results := bytesOf 2 length }
            else { status := .ok })
      | _ => s.answer .already
  | _, _ => s.answer .outOfRange

/-- A window closes when it may at once, and is set to close when its commit is held or released (R32, R33). -/
def State.closeOrPend (s : State) (n : Fin 32) (w : Window) (cause : CloseCause) (deadline : Option Nat → Option Nat) :
    State :=
  match w with
  | .locked => s
  | .quarantined _ => s
  | .verify m d k c => s.setWindow n (.verify m (deadline d) k (closingWith cause c))
  | .commitWait m d k c => s.setWindow n (.commitWait m (deadline d) k (closingWith cause c))
  | .opening _ _ _ => s.closeNow n w cause.window
  | .opened _ _ => s.closeNow n w cause.window
  | .transfer _ _ _ => s.closeNow n w cause.window

/-- CLOSE-WINDOW (R32). -/
def State.doCloseWindow (args : List Byte) (s : State) : State × Reply :=
  s.forController args fun n c => (s.closeOrPend n c.window .command id, { status := .ok })

/-- QUARANTINE (R39): the command cancels a scan round of the controller (R130). -/
def State.doQuarantine (args : List Byte) (s : State) : State × Reply :=
  s.forController args fun n c =>
    if c.window.isQuarantined then s.answer .already
    else ((s.enterQuarantine n .manual).cancelRoundOf n, { status := .ok })

/-- RELEASE (R40). -/
def State.doRelease (args : List Byte) (s : State) : State × Reply :=
  s.forController args fun n c =>
    match c.window with
    | .quarantined cause =>
      if s.releasedSlotNames n then s.answer .busy
      else
        ((s.setWindow n .locked).post
          { s.notice .released with controller := some n, reason := some (.quarantine cause) }, { status := .ok })
    | _ => s.answer .state

/-! ## Candidates (R116, R117) -/

/-- APPROVE-CANDIDATE (R116). -/
def State.doApproveCandidate (args : List Byte) (s : State) : State × Reply :=
  let i := fieldAt args 0 2
  if i < Config.imageRecords then
    match (s.active.images[i]?).bind id with
    | some r =>
      if r.isApproved then s.answer .notFound
      else
        (s.setImage i (some { r with status := .approved }),
          { status := .ok
            results := bytesOf 1 r.controller.val ++ bytesOf 2 r.cls ++ bytesOf 2 r.idx ++ bytesOf 4 r.length
              ++ bytesOf 4 r.fingerprint.toNat })
    | none => s.answer .notFound
  else s.answer .outOfRange

/-- The record of a position is a CANDIDATE. -/
def holdsCandidate (b : Bank) (i : Nat) : Bool := ((b.images[i]?).bind id).any (fun r => !r.isApproved)

/-- A bank with a position of its Image Table empty. -/
def Bank.clearImage (b : Bank) (i : Nat) : Bank := { b with images := b.images.setIfInBounds i none }

/-- DISCARD-CANDIDATE (R117). -/
def State.doDiscardCandidate (args : List Byte) (s : State) : State × Reply :=
  let i := fieldAt args 1 2
  match s.bankOf (fieldAt args 0 1) with
  | none => s.answer .outOfRange
  | some b =>
    if i < Config.imageRecords then
      if holdsCandidate b i then
        (if fieldAt args 0 1 = 0 then { s with active := s.active.clearImage i }
          else { s with shadow := s.shadow.clearImage i }, { status := .ok })
      else s.answer .notFound
    else s.answer .outOfRange

/-! ## Watches (R134) -/

/-- The watch fields of an ARM-WATCH, when each lies in its table (R133, R134). -/
def watchArgument (args : List Byte) : Option Watch :=
  match controllerOf (fieldAt args 1 1), anyClassOf (fieldAt args 2 2), boolOfCode (fieldAt args 8 1),
      boolOfCode (fieldAt args 9 1) with
  | some n, some c, some all, some rep =>
    let w : Watch :=
      { controller := n, cls := c, low := fieldAt args 4 2, high := fieldAt args 6 2, all := all, repeats := rep }
    if w.low ≤ w.high then some w else none
  | _, _, _, _ => none

/-- The fields of an armed watch, as its reply carries them (R134; L17). -/
def watchBytes (w : Watch) : List Byte :=
  bytesOf 1 w.controller.val ++ bytesOf 2 (anyClassCode w.cls) ++ bytesOf 2 w.low ++ bytesOf 2 w.high
    ++ bytesOf 1 (boolCode w.all) ++ bytesOf 1 (boolCode w.repeats)

/-- ARM-WATCH (R134). -/
def State.doArmWatch (args : List Byte) (s : State) : State × Reply :=
  match watchOf (fieldAt args 0 1), watchArgument args with
  | some i, some w => (s.setWatch i (some w), { status := .ok, results := watchBytes w })
  | _, _ => s.answer .outOfRange

/-- DISARM-WATCH (R134). -/
def State.doDisarmWatch (args : List Byte) (s : State) : State × Reply :=
  match watchOf (fieldAt args 0 1) with
  | some i => (s.setWatch i none, { status := .ok })
  | none => s.answer .outOfRange

/-! ## PROBE (R63, R64) -/

/-- The operations PROBE evaluates (R63). -/
def probeOperation (code : Nat) : Option Operation :=
  match Operation.ofCode code with
  | some .read => some .read
  | some .summary => some .summary
  | some .setParam => some .setParam
  | some .begins => some .begins
  | some .mode => some .mode
  | some .force => some .force
  | _ => none

/-- The results of a PROBE (R64). -/
structure ProbeResult where
  /-- 0 PASS, 254 START, else the reason code (R174) -/
  outcome : Nat
  window : Option Window := none
  grant : Option Nat := none
  level : Option Nat := none
  check : Option ImageCheck := none
  length : Option Nat := none
  deriving DecidableEq, Repr

/-- The outcome of a judged request that PROBE reports; for a start, the SLOTS_FULL and NO_IMAGE checks (R64). -/
def State.probeOutcome (s : State) (d : Disposition) (check : Option ImageCheck) (record : Option ImageRecord) : Nat :=
  match d with
  | .pass => 0
  | .refuse r => r.code
  | .start =>
    if s.freeSlot.isNone then Reason.slotsFull.code
    else if check = some .required ∧ record = none then Reason.noImage.code
    else 254

/-- PROBE evaluated against the tables and states as they stand (R64). -/
def State.evaluateProbe (s : State) (src : Addr) (n : Fin 32) (o : Operation) (cls idx level : Nat) : ProbeResult :=
  if !isWriteKind o then { outcome := 0 }
  else if s.fallback then { outcome := Reason.closed.code }
  else
    let j := s.judge src n o cls idx level
    let record := s.approved n cls idx
    let check :=
      if o = .begins then j.grant.map (fun g => effectiveCheck g.2.check record.isSome) else none
    { outcome := s.probeOutcome j.outcome check record
      window := j.window
      grant := j.grant.map Prod.fst
      level := j.level
      check := check
      length := if check = some .required then record.map ImageRecord.length else none }

def probeBytes (r : ProbeResult) : List Byte :=
  bytesOf 1 r.outcome ++ optionBytes (fun w => bytesOf 1 (Window.code w)) r.window ++ optionBytes (bytesOf 2) r.grant
    ++ optionBytes (bytesOf 1) r.level ++ optionBytes (fun c => bytesOf 1 (ImageCheck.code c)) r.check
    ++ optionBytes (bytesOf 4) r.length

/-- PROBE (R63): its arguments checked, then evaluated. An object class is 0-255 (R174, L19). -/
def State.doProbe (args : List Byte) (s : State) : State × Reply :=
  match controllerOf (fieldAt args 6 1), probeOperation (fieldAt args 7 1) with
  | some n, some o =>
    if 255 < fieldAt args 8 2 ∨ 3 < fieldAt args 12 1 then s.answer .outOfRange
    else if s.fallback = false ∧ s.definition n = none then s.answer .notFound
    else
      (s, { status := .ok
            results := probeBytes
              (s.evaluateProbe (addrAt args 0) n o (fieldAt args 8 2) (fieldAt args 10 2) (fieldAt args 12 1)) })
  | _, _ => s.answer .outOfRange

/-! ## Settings and restart (R168 to R170) -/

/-- The seven timing parameters by their codes (R174). -/
inductive Parameter where
  | settle | opening | stale | win | openRate | seg | resp
  deriving DecidableEq, Repr

def Parameter.ofCode : Nat → Option Parameter
  | 1 => some .settle | 2 => some .opening | 3 => some .stale | 4 => some .win | 5 => some .openRate
  | 6 => some .seg | 7 => some .resp | _ => none

/-- The range of a parameter (R168). -/
def Parameter.lowest : Parameter → Nat
  | .settle => 100 | .opening => 5 | .stale => 10 | .win => 60 | .openRate => 60 | .seg => 100 | .resp => 100

def Parameter.highest : Parameter → Nat
  | .settle => 30000 | .opening => 600 | .stale => 5000 | .win => 14400 | .openRate => 3600 | .seg => 60000
  | .resp => 30000

/-- A value brought into a parameter's range (R168). -/
def Parameter.clamp (p : Parameter) (v : Nat) : Nat := max p.lowest (min v p.highest)

def Timing.set (t : Timing) (p : Parameter) (v : Nat) : Timing :=
  match p with
  | .settle => { t with settle := v }
  | .opening => { t with opening := v }
  | .stale => { t with stale := v }
  | .win => { t with win := v }
  | .openRate => { t with openRate := v }
  | .seg => { t with seg := v }
  | .resp => { t with resp := v }

/-- SET-TIMING (R168). -/
def State.doSetTiming (args : List Byte) (s : State) : State × Reply :=
  match Parameter.ofCode (fieldAt args 0 1) with
  | none => s.answer .outOfRange
  | some p =>
    if s.storeBusy then s.answer .storeBusy
    else
      let given := fieldAt args 1 4
      let v := p.clamp given
      ({ s with timing := s.timing.set p v }.beginWriteOutside,
        { status := if v = given then .ok else .clamped, results := bytesOf 1 (fieldAt args 0 1) ++ bytesOf 4 v })

/-- The notice destination becomes a value; zero empties the Notice Queue and zeroes the dropped count (R138, R169). -/
def State.setDestination (s : State) (a : Addr) : State :=
  if a = 0#48 then { s with destination := a, notices := [], dropped := 0 } else { s with destination := a }

/-- SET-NOTICE-DESTINATION (R169). -/
def State.doSetNoticeDestination (args : List Byte) (s : State) : State × Reply :=
  let a := addrAt args 0
  if !individualAddr s.identity.station a then s.answer .outOfRange
  else if s.storeBusy then s.answer .storeBusy
  else ((s.setDestination a).beginWriteOutside, { status := .ok, results := addrBytes a })

/-- RESTART (R170): a restart becomes pending and the reply is OK, or ALREADY when one is. When the reply is not sent
and no store write is in flight the restart takes effect in the same step. -/
def State.doRestart (s : State) (f : Frame) : State :=
  if s.restartPending then s.reply f .reply { status := .already }
  else ({ s with restartPending := true }.reply f .restartReply { status := .ok }).takeDueRestart

end Sys2Proof.Machine
end

