-- ==== Sys2Proof/Machine/Frames.lean ====
section
/-! DEFINITION. Frames taken at the ports (chapter The Object Exchange at the Filter): the row under which a frame is
taken, by its content and the state, and the meanings of the frame rows that are not management commands. A row's
command whose frame belongs to another row, or to none because its port takes no frames, names no event that takes
place, and changes nothing (L1). -/

namespace Sys2Proof.Machine

/-! ## Sorting (R1, R7 to R10, R15) -/

/-- The rows under which a frame can be taken. -/
inductive FrameRow where
  /-- the port takes no frames -/
  | notTaken
  | checkDiscard
  | forward
  | addressedDiscard
  | request (o : Operation)
  | cyclicStatus
  | beginResponse
  | commitResponse
  | summaryResponse
  | abandonResponse
  | management (c : Command)
  deriving DecidableEq, Repr

/-- A frame passes the checks at the port (R1). -/
def State.passesCheck (s : State) (f : Frame) : Bool :=
  f.legalLength && f.fcs == goodFcs f && f.src != s.identity.station

/-- A frame is addressed to the filter (R2). -/
def State.addressed (s : State) (f : Frame) : Bool := f.dst == s.identity.station

/-- The row of a frame addressed to the filter (R10, R15). -/
def rowOfAddressed (p : Port) (f : Frame) : FrameRow :=
  if f.etype = Config.managementType then .management f.commandRow
  else if p = .line ∧ f.etype = Config.oxType ∧ (oxHeader f.payload).isResponse ∧ wellFormedResponse f.payload then
    if f.code = Operation.summary.code then .summaryResponse
    else if f.code = Operation.abandon.code then .abandonResponse
    else .addressedDiscard
  else .addressedDiscard

/-- The row of a frame taken at the Plant port and not addressed to the filter (R7, R8). -/
def State.rowAtPlant (s : State) (f : Frame) : FrameRow :=
  if f.etype = Config.oxType then
    if s.fallback then if (oxHeader f.payload).isResponse then .forward else .request f.requestRow
    else if (s.protectedBy f.dst).isSome then .request f.requestRow
    else .forward
  else .forward

/-- The row of a frame taken at the Line port and not addressed to the filter (R9, R13, R14, R70). -/
def State.rowAtLine (s : State) (f : Frame) : FrameRow :=
  match s.protectedBy f.src with
  | none => .forward
  | some n =>
    if f.etype = Config.cyclicType then .cyclicStatus
    else if f.etype = Config.oxType ∧ (oxHeader f.payload).isResponse ∧ (oxHeader f.payload).version = 1 then
      if f.code = Operation.begins.code ∧ (s.beginSlot n f).isSome then .beginResponse
      else if f.code = Operation.commit.code ∧ (s.commitSlot n f).isSome then .commitResponse
      else .forward
    else .forward

/-- The row under which a frame is taken at a port. -/
def State.rowOf (s : State) (p : Port) (f : Frame) : FrameRow :=
  if !s.takes p then .notTaken
  else if !s.passesCheck f then .checkDiscard
  else if s.addressed f then rowOfAddressed p f
  else match p with
    | .plant => s.rowAtPlant f
    | .line => s.rowAtLine f

/-- The command of a frame taken at a port: what the outside world puts into the queue when the frame arrives. -/
def State.commandOf (s : State) (p : Port) (f : Frame) : Option Instr :=
  match s.rowOf p f with
  | .notTaken => none
  | .checkDiscard =>
    some (.frameCheckDiscard p (coveredBytes f ++ (bytesOf 4 f.fcs.toNat).reverse))
  | .forward => some (.forwardFrame p f)
  | .addressedDiscard => some (.filterAddressedDiscard p f)
  | .request .read => some (.oxRead f)
  | .request .summary => some (.oxSummary f)
  | .request .setParam => some (.oxSetParam f)
  | .request .begins => some (.oxBegin f)
  | .request .segment => some (.oxSegment f)
  | .request .commit => some (.oxCommit f)
  | .request .abandon => some (.oxAbandon f)
  | .request .mode => some (.oxMode f)
  | .request .force => some (.oxForce f)
  | .cyclicStatus => some (.cyclicStatusFrame f)
  | .beginResponse => some (.beginResponse f)
  | .commitResponse => some (.commitResponse f)
  | .summaryResponse => some (.summaryResponse f)
  | .abandonResponse => some (.abandonResponse f)
  | .management .identify => some (.identify p f)
  | .management .readTime => some (.readTime p f)
  | .management .readController => some (.readController p f)
  | .management .readRecord => some (.readRecord p f)
  | .management .loadRecord => some (.loadRecord p f)
  | .management .clearShadow => some (.clearShadow p f)
  | .management .selectBank => some (.selectBank p f)
  | .management .openWindow => some (.openWindow p f)
  | .management .closeWindow => some (.closeWindow p f)
  | .management .quarantine => some (.quarantine p f)
  | .management .release => some (.release p f)
  | .management .approveCandidate => some (.approveCandidate p f)
  | .management .discardCandidate => some (.discardCandidate p f)
  | .management .armWatch => some (.armWatch p f)
  | .management .disarmWatch => some (.disarmWatch p f)
  | .management .probe => some (.probe p f)
  | .management .readCounters => some (.readCounters p f)
  | .management .setTiming => some (.setTiming p f)
  | .management .setNoticeDestination => some (.setNoticeDestination p f)
  | .management .restart => some (.restart p f)

/-- A frame row's effect, when the frame is taken under that row; otherwise nothing (L1). -/
def State.whenRow (s : State) (p : Port) (f : Frame) (row : FrameRow) (effect : State → State) : State :=
  if s.rowOf p f = row then effect s else s

/-! ## Requests at the Plant port (R7, R8, R11, R12) -/

/-- A request whose row it is, is malformed: a form condition of R11 fails, or outside Closed fallback the frame aimed
at a protected controller is marked as a response. -/
def State.malformed (s : State) (f : Frame) : Bool :=
  !wellFormedOx f.payload || (!s.fallback && (oxHeader f.payload).isResponse)

/-- A malformed request is dropped: counted, and MALFORMED posted, with the controller number of its destination
outside Closed fallback (R12). -/
def State.dropMalformed (s : State) (f : Frame) : State :=
  let n := if s.fallback then none else s.protectedBy f.dst
  let s := s.countMalformed
  s.post { s.notice .malformed with controller := n, station := some f.src }

/-- A well-formed request in Closed fallback: READ and SUMMARY pass, a write-kind request is refused CLOSED (R8, R62). It
carries no controller number, so no watch can hit it (R135). -/
def State.closedRequest (s : State) (o : Operation) (f : Frame) : State :=
  if isWriteKind o then s.refuse none o f .closed else s.forward .line f

/-- A request of an operation's row taken at the Plant port: the form check, Closed fallback, and otherwise what the
operation does with its controller number (R7, R8). -/
def State.takeRequest (s : State) (o : Operation) (f : Frame) (effect : State → Fin 32 → State) : State :=
  s.whenRow .plant f (.request o) fun s =>
    if s.malformed f then s.dropMalformed f
    else if s.fallback then s.closedRequest o f
    else match s.protectedBy f.dst with
      | some n => effect s n
      | none => s

/-! ## The meanings -/

/-- FRAME_CHECK_DISCARD (R1): bytes that make no legal frame, or whose frame fails a check, are discarded and counted. -/
def execFrameCheckDiscard (p : Port) (bytes : List Byte) (s : State) : Host.Outcome State Fault Refusal :=
  .next (match frameOfBytes bytes with
    | none => if s.takes p then s.countDiscarded else s
    | some f => s.whenRow p f .checkDiscard State.countDiscarded)

/-- FORWARD_FRAME (R7, R8, R9, R144): placed unaltered in the forwarded queue of the other port. -/
def execForwardFrame (p : Port) (f : Frame) (s : State) : Host.Outcome State Fault Refusal :=
  .next (s.whenRow p f .forward fun s => s.forward (otherPort p) f)

/-- FILTER_ADDRESSED_DISCARD (R10, R15). -/
def execFilterAddressedDiscard (p : Port) (f : Frame) (s : State) : Host.Outcome State Fault Refusal :=
  .next (s.whenRow p f .addressedDiscard State.countDiscarded)

/-- READ (R7). -/
def execOxRead (f : Frame) (s : State) : Host.Outcome State Fault Refusal :=
  .next (s.takeRequest .read f fun s n => s.passRead n .read f)

/-- SUMMARY (R7). -/
def execOxSummary (f : Frame) (s : State) : Host.Outcome State Fault Refusal :=
  .next (s.takeRequest .summary f fun s n => s.passRead n .summary f)

/-- SET-PARAM (R46, R52). -/
def execOxSetParam (f : Frame) (s : State) : Host.Outcome State Fault Refusal :=
  .next (s.takeRequest .setParam f fun s n => s.admitSingle n .setParam f)

/-- MODE (R46, R52). -/
def execOxMode (f : Frame) (s : State) : Host.Outcome State Fault Refusal :=
  .next (s.takeRequest .mode f fun s n => s.admitSingle n .mode f)

/-- FORCE (R46, R52). -/
def execOxForce (f : Frame) (s : State) : Host.Outcome State Fault Refusal :=
  .next (s.takeRequest .force f fun s n => s.admitSingle n .force f)

/-- BEGIN (R46, R55, R56); a request of unknown operation is taken under it, as malformed (L12). -/
def execOxBegin (f : Frame) (s : State) : Host.Outcome State Fault Refusal :=
  .next (s.takeRequest .begins f fun s n => s.admitBegin n f)

/-- SEGMENT (R48, R73). -/
def execOxSegment (f : Frame) (s : State) : Host.Outcome State Fault Refusal :=
  .next (s.takeRequest .segment f fun s n => s.handToTracker n .segment f fun s k => s.segmentAt n k f)

/-- COMMIT (R48, R78). -/
def execOxCommit (f : Frame) (s : State) : Host.Outcome State Fault Refusal :=
  .next (s.takeRequest .commit f fun s n => s.handToTracker n .commit f fun s k => s.commitAt n k f)

/-- ABANDON (R48, R86). -/
def execOxAbandon (f : Frame) (s : State) : Host.Outcome State Fault Refusal :=
  .next (s.takeRequest .abandon f fun s n => s.handToTracker n .abandon f fun s k => s.abandonAt n k f)

/-- CYCLIC_STATUS_FRAME (R9, R23): the Monitor reads a counting frame, and the frame is forwarded whatever its
length. -/
def execCyclicStatusFrame (f : Frame) (s : State) : Host.Outcome State Fault Refusal :=
  .next (s.whenRow .line f .cyclicStatus fun s =>
    let observed := match s.protectedBy f.src with
      | some n =>
        match (s.definition n).bind (·.reads f.payload) with
        | some o => s.monitorObserves n o true
        | none => s
      | none => s
    observed.forward .plant f)

/-- BEGIN_RESPONSE (R9, R71). -/
def execBeginResponse (f : Frame) (s : State) : Host.Outcome State Fault Refusal :=
  .next (s.whenRow .line f .beginResponse fun s =>
    let shown := match s.protectedBy f.src with
      | some n =>
        match s.beginSlot n f with
        | some k => s.takeBeginResponse n k (oxHeader f.payload).status
        | none => s
      | none => s
    shown.forward .plant f)

/-- COMMIT_RESPONSE (R9, R84). -/
def execCommitResponse (f : Frame) (s : State) : Host.Outcome State Fault Refusal :=
  .next (s.whenRow .line f .commitResponse fun s =>
    let shown := match s.protectedBy f.src with
      | some n =>
        match s.commitSlot n f with
        | some k => s.takeCommitResponse k (oxHeader f.payload).status
        | none => s
      | none => s
    shown.forward .plant f)

/-- SUMMARY_RESPONSE (R15, R125, R126). -/
def execSummaryResponse (f : Frame) (s : State) : Host.Outcome State Fault Refusal :=
  .next (s.whenRow .line f .summaryResponse fun s => s.takeSummaryResponse f)

/-- ABANDON_RESPONSE (R89): consumed by the Transfer Tracker; it changes nothing and is not counted, whether or not the
frame is of this row. -/
def execAbandonResponse (_f : Frame) (s : State) : Host.Outcome State Fault Refusal :=
  .next s

/-- A management frame of a command's row (R161 to R163). -/
def State.takeCommand (s : State) (c : Command) (p : Port) (f : Frame) (body : List Byte → State → State × Reply) :
    State :=
  s.whenRow p f (.management c) fun s => s.manage p f body

end Sys2Proof.Machine
end

