-- ==== Sys2Proof/Machine/Commands.lean ====
section
/-! DEFINITION. The meanings of the twenty management commands: each is taken, accepted and checked in the same way
(R161, R162), and carried out by its own body (Machine/Management.lean). -/

namespace Sys2Proof.Machine

/-- IDENTIFY (R164); a request of unknown command code is taken under it, and answered UNKNOWN_COMMAND (L12). -/
def execIdentify (p : Port) (f : Frame) (s : State) : Host.Outcome State Fault Refusal :=
  .next (s.takeCommand .identify p f State.doIdentify)

/-- READ-TIME (R164). -/
def execReadTime (p : Port) (f : Frame) (s : State) : Host.Outcome State Fault Refusal :=
  .next (s.takeCommand .readTime p f State.doReadTime)

/-- READ-CONTROLLER (R165). -/
def execReadController (p : Port) (f : Frame) (s : State) : Host.Outcome State Fault Refusal :=
  .next (s.takeCommand .readController p f State.doReadController)

/-- READ-RECORD (R166). -/
def execReadRecord (p : Port) (f : Frame) (s : State) : Host.Outcome State Fault Refusal :=
  .next (s.takeCommand .readRecord p f State.doReadRecord)

/-- LOAD-RECORD (R152). -/
def execLoadRecord (p : Port) (f : Frame) (s : State) : Host.Outcome State Fault Refusal :=
  .next (s.takeCommand .loadRecord p f State.doLoadRecord)

/-- CLEAR-SHADOW (R153). -/
def execClearShadow (p : Port) (f : Frame) (s : State) : Host.Outcome State Fault Refusal :=
  .next (s.takeCommand .clearShadow p f State.doClearShadow)

/-- SELECT-BANK (R154 to R156); the bank check looks for the source of the frame (R155). -/
def execSelectBank (p : Port) (f : Frame) (s : State) : Host.Outcome State Fault Refusal :=
  .next (s.takeCommand .selectBank p f (State.doSelectBank f.src))

/-- OPEN-WINDOW (R26). -/
def execOpenWindow (p : Port) (f : Frame) (s : State) : Host.Outcome State Fault Refusal :=
  .next (s.takeCommand .openWindow p f State.doOpenWindow)

/-- CLOSE-WINDOW (R32). -/
def execCloseWindow (p : Port) (f : Frame) (s : State) : Host.Outcome State Fault Refusal :=
  .next (s.takeCommand .closeWindow p f State.doCloseWindow)

/-- QUARANTINE (R39). -/
def execQuarantine (p : Port) (f : Frame) (s : State) : Host.Outcome State Fault Refusal :=
  .next (s.takeCommand .quarantine p f State.doQuarantine)

/-- RELEASE (R40). -/
def execRelease (p : Port) (f : Frame) (s : State) : Host.Outcome State Fault Refusal :=
  .next (s.takeCommand .release p f State.doRelease)

/-- APPROVE-CANDIDATE (R116). -/
def execApproveCandidate (p : Port) (f : Frame) (s : State) : Host.Outcome State Fault Refusal :=
  .next (s.takeCommand .approveCandidate p f State.doApproveCandidate)

/-- DISCARD-CANDIDATE (R117). -/
def execDiscardCandidate (p : Port) (f : Frame) (s : State) : Host.Outcome State Fault Refusal :=
  .next (s.takeCommand .discardCandidate p f State.doDiscardCandidate)

/-- ARM-WATCH (R134). -/
def execArmWatch (p : Port) (f : Frame) (s : State) : Host.Outcome State Fault Refusal :=
  .next (s.takeCommand .armWatch p f State.doArmWatch)

/-- DISARM-WATCH (R134). -/
def execDisarmWatch (p : Port) (f : Frame) (s : State) : Host.Outcome State Fault Refusal :=
  .next (s.takeCommand .disarmWatch p f State.doDisarmWatch)

/-- PROBE (R63, R64). -/
def execProbe (p : Port) (f : Frame) (s : State) : Host.Outcome State Fault Refusal :=
  .next (s.takeCommand .probe p f State.doProbe)

/-- READ-COUNTERS (R167). -/
def execReadCounters (p : Port) (f : Frame) (s : State) : Host.Outcome State Fault Refusal :=
  .next (s.takeCommand .readCounters p f State.doReadCounters)

/-- SET-TIMING (R168). -/
def execSetTiming (p : Port) (f : Frame) (s : State) : Host.Outcome State Fault Refusal :=
  .next (s.takeCommand .setTiming p f State.doSetTiming)

/-- SET-NOTICE-DESTINATION (R169). -/
def execSetNoticeDestination (p : Port) (f : Frame) (s : State) : Host.Outcome State Fault Refusal :=
  .next (s.takeCommand .setNoticeDestination p f State.doSetNoticeDestination)

/-- RESTART (R170): accepted and checked as every command; its reply is told from others, since the restart waits for
it. -/
def execRestart (p : Port) (f : Frame) (s : State) : Host.Outcome State Fault Refusal :=
  .next (s.whenRow p f (.management .restart) fun s =>
    if s.accepts p f then
      match s.requestCheck f with
      | some status => s.reply f .reply { status := status }
      | none => s.doRestart f
    else s.refuseManagement p f)

end Sys2Proof.Machine
end

