-- ==== Sys2Proof/Machine/Events.lean ====
section
/-! DEFINITION. The meanings of the rows that are no frames: deadlines, lanes, the store, the ports, restart, links and
power; and which events the filter owes when no command waits. An event takes place only where its condition holds (its
deadline is present and reached, its lane is busy, ...); otherwise its command changes nothing (L1). -/

namespace Sys2Proof.Machine

/-! ## When an event takes place -/

/-- A deadline that may be absent is present and reached (R18). -/
def State.reached? (s : State) (d : Option Nat) : Bool := d.any s.reached

/-- The stale deadline of a controller (R24). -/
def State.staleDue (s : State) (n : Fin 32) : Bool :=
  s.powered && s.reached? ((s.controller n).map (fun c => c.monitor.stale))

/-- The settle deadline of a controller in OPENING (R25). -/
def State.settleDue (s : State) (n : Fin 32) : Bool :=
  s.powered && (s.window? n).any Window.isOpening && s.reached? ((s.quietRun n).map QuietRun.settle)

/-- The opening deadline of a controller (R29). -/
def State.openingDue (s : State) (n : Fin 32) : Bool :=
  s.powered && s.reached? ((s.window? n).bind Window.openingDeadline?)

/-- The window deadline of a controller (R33). -/
def State.windowDue (s : State) (n : Fin 32) : Bool := s.powered && s.reached? ((s.window? n).bind Window.deadline?)

/-- The idle deadline of a slot (R77). -/
def State.idleDue (s : State) (k : Fin 8) : Bool := s.powered && s.reached? (s.slot k).idleDeadline?

/-- The response deadline of a slot in BEGUN (R72). -/
def State.beginResponseDue (s : State) (k : Fin 8) : Bool :=
  s.powered && (s.slot k).abortable.isSome && s.reached? (s.slot k).responseDeadline?

/-- The response deadline of a slot in RELEASED (R84). -/
def State.commitResponseDue (s : State) (k : Fin 8) : Bool :=
  s.powered && (s.slot k).abortable.isNone && s.reached? (s.slot k).responseDeadline?

/-- The next-due of a controller expires while the round record is idle; with a scan interval of 0 it expires without
effect (R121; L24). -/
def State.nextDueDue (s : State) (n : Fin 32) : Bool := s.powered && s.round.isNone && s.scanDue n

/-- The response deadline of the round (R128). -/
def State.scanResponseDue (s : State) : Bool := s.powered && s.reached? (s.round.map Round.deadline)

/-- The transmitter is free and a queue holds a frame (R145). The steps that free a transmitter, place a frame or bring
a link up make this choice themselves, so in no state a run reaches is it still to be made (L13). -/
def State.choiceDue (s : State) (p : Port) : Bool := s.powered && (s.port p).isFree && !(s.port p).isIdle

/-- A notice may move (R141). The steps that queue a notice or free a place of the Plant originate queue make this move
themselves, so in no state a run reaches is it still to be made (L13). -/
def State.moveDue (s : State) : Bool := s.powered && s.noticeMoves

/-! ## Deadlines -/

/-- STALE_DEADLINE (R24). -/
def execStaleDeadline (n : Fin 32) (s : State) : Host.Outcome State Fault Refusal :=
  .next (if s.staleDue n then s.monitorObserves n .stale false else s)

/-- The settle evaluation at the expiry of the settle deadline: the window settles, or under a raised T_settle the
deadline moves to quiet-since plus the new T_settle (R28). -/
def State.settleExpiry (s : State) (n : Fin 32) : State :=
  match s.window? n, s.quietRun n with
  | some (.opening m length _), some q =>
    if s.quietEnough q then s.settle n m length
    else s.setQuiet n (some { q with settle := q.since + milliseconds s.timing.settle })
  | _, _ => s

/-- SETTLE_DEADLINE (R25, R28). -/
def execSettleDeadline (n : Fin 32) (s : State) : Host.Outcome State Fault Refusal :=
  .next (if s.settleDue n then s.settleExpiry n else s)

/-- OPENING_DEADLINE (R29). -/
def execOpeningDeadline (n : Fin 32) (s : State) : Host.Outcome State Fault Refusal :=
  .next (if s.openingDue n then (s.setWindow n .locked).postWindow .windowFailed n .notQuiet else s)

/-- WINDOW_DEADLINE (R33): it becomes absent at its expiry. -/
def execWindowDeadline (n : Fin 32) (s : State) : Host.Outcome State Fault Refusal :=
  .next (if s.windowDue n then
      match s.window? n with
      | some w => s.closeOrPend n w .expired (fun _ => none)
      | none => s
    else s)

/-- IDLE_DEADLINE (R77). -/
def execIdleDeadline (k : Fin 8) (s : State) : Host.Outcome State Fault Refusal :=
  .next (if s.idleDue k then s.timeoutSlot k else s)

/-- BEGIN_RESPONSE_DEADLINE (R72). -/
def execBeginResponseDeadline (k : Fin 8) (s : State) : Host.Outcome State Fault Refusal :=
  .next (if s.beginResponseDue k then s.timeoutSlot k else s)

/-- COMMIT_RESPONSE_DEADLINE (R84). -/
def execCommitResponseDeadline (k : Fin 8) (s : State) : Host.Outcome State Fault Refusal :=
  .next (if s.commitResponseDue k then s.endReleased k (some (.commitUnconfirmed, none)) else s)

/-- LANE_FINISH (R101, R102). -/
def execLaneFinish (l : Fin 2) (s : State) : Host.Outcome State Fault Refusal :=
  .next (if s.powered then s.finishLane l else s)

/-- NEXT_DUE_EXPIRY (R121). -/
def execNextDueExpiry (n : Fin 32) (s : State) : Host.Outcome State Fault Refusal :=
  .next (if s.nextDueDue n then s.scheduleCheck else s)

/-- SCAN_RESPONSE_DEADLINE (R128). -/
def execScanResponseDeadline (s : State) : Host.Outcome State Fault Refusal :=
  .next (if s.scanResponseDue then s.scanTimeout else s)

/-! ## Store and restart -/

/-- STORE_WRITE_END (R158): the write ends, and the restarts that waited only for it take effect (R158, R171; L14,
L23). -/
def execStoreWriteEnd (success : Bool) (s : State) : Host.Outcome State Fault Refusal :=
  .next (if s.powered && s.storeBusy then (s.endWrite success).takeDueRestart else s)

/-- WARM_RESTART (R170): a pending restart takes effect once its reply is finished with and no store write is in
flight. -/
def execWarmRestart (s : State) : Host.Outcome State Fault Refusal :=
  .next (if s.powered then s.takeDueRestart else s)

/-- RESTART_INPUT_CLOSED (R171): once for each closing, at once or when a store write in flight ends. -/
def execRestartInputClosed (s : State) : Host.Outcome State Fault Refusal :=
  .next (if s.lineClosed then s
    else
      let s := { s with lineClosed := true }
      if !s.powered then s
      else if s.storeBusy then { s with lineWaiting := s.lineWaiting + 1 }
      else s.warmRestart)

/-- RESTART_INPUT_OPENED (R171). -/
def execRestartInputOpened (s : State) : Host.Outcome State Fault Refusal :=
  .next { s with lineClosed := false }

/-- POWER_ON_RESET (R157, R159): where power is still applied, it was lost first (L22). -/
def execPowerOnReset (s : State) : Host.Outcome State Fault Refusal :=
  .next s.powerOn

/-- POWER_LOSS (R158). -/
def execPowerLoss (s : State) : Host.Outcome State Fault Refusal :=
  .next s.losePower

/-! ## Ports (R145, R149) -/

/-- The frames of a list of originated frames that are not notices; each is counted one (R149). -/
def countPlain (os : List OrigFrame) : Nat :=
  (os.filter (fun o => match o.kind with
    | .notice _ => false
    | _ => true)).length

/-- What the notice frames of a list add to the dropped count: one and the count each carried (R142). -/
def lostNotices (os : List OrigFrame) : Nat :=
  (os.map (fun o => match o.kind with
    | .notice d => d + 1
    | _ => 0)).sum

/-- The frame being sent, as a list of forwarded frames and a list of originated ones. -/
def sendingForwarded : Option Sending → List Frame
  | some (.forwarded f) => [f]
  | _ => []

def sendingOriginated : Option Sending → List OrigFrame
  | some (.originated o) => [o]
  | _ => []

/-- A port loses its link: what is queued or being sent is lost and counted, turns waited becomes 0 (R142, R149). -/
def State.dropPort (s : State) (p : Port) : State :=
  let q := s.port p
  let forwarded := q.forwarded ++ sendingForwarded q.sending
  let originated := q.originate ++ sendingOriginated q.sending
  let s := s.setPort p PortState.reset
  let s := s.countLinkDiscarded forwarded.length
  match p with
  | .line => s.countLinkDiscarded (countPlain originated)
  | .plant => { s.countNotSent (countPlain originated) with dropped := saturateDropped (lostNotices originated) s.dropped }

/-- The Line link loss at the other blocks: slots end, windows go to LOCKED, a round in flight is cancelled (R41, R91,
R132). -/
def State.lineLinkLoss (s : State) : State :=
  let s := (List.finRange 8).foldl State.linkLossSlot s
  let s := (List.finRange 32).foldl State.linkLossWindow s
  if s.round.isSome then s.cancelRound.scheduleCheck else s

/-- LINK_DOWN (R149). The places a Plant link loss frees are offered to the Notice Queue once the losses are counted
(R141, R142, R148; L28). -/
def execLinkDown (p : Port) (s : State) : Host.Outcome State Fault Refusal :=
  .next (if s.takes p then
      match p with
      | .plant => (s.dropPort .plant).offerPlaces .plant
      | .line => (s.dropPort .line).lineLinkLoss
    else s)

/-- LINK_UP (R149): the queues are not changed, turns waited is 0, and the arbiter chooses; a place it frees is offered to
the Notice Queue (R141). -/
def execLinkUp (p : Port) (s : State) : Host.Outcome State Fault Refusal :=
  .next (if s.powered && !(s.port p).up then
      (s.setPort p { s.port p with up := true, turns := 0, begun := none }.arbitrate).offerPlaces p
    else s)

/-- EGRESS_CHOICE (R145), and the offer of a place it frees (R141). -/
def execEgressChoice (p : Port) (s : State) : Host.Outcome State Fault Refusal :=
  .next (if s.choiceDue p then (s.setPort p (s.port p).arbitrate).offerPlaces p else s)

/-- FRAME_SENT (R145): the transmitter becomes free, the arbiter chooses among the frames then queued (R146), and a place
it frees is offered to the Notice Queue (R141). -/
def execFrameSent (p : Port) (s : State) : Host.Outcome State Fault Refusal :=
  .next (if s.powered && (s.port p).sending.isSome then (s.setPort p (s.port p).finish).offerPlaces p else s)

/-- NOTICE_LEAVES_QUEUE (R141): the head takes the dropped count, is built into a frame and appended. -/
def execNoticeLeavesQueue (s : State) : Host.Outcome State Fault Refusal :=
  .next (if s.moveDue then s.moveNotice else s)

/-! ## What the filter owes when no command waits (L2) -/

/-- The events that are owed now: expired deadlines, egress choices, a notice that may leave, a restart that is due. -/
def State.owed (s : State) : List Instr :=
  ((List.finRange 32).filter s.staleDue).map Instr.staleDeadline
    ++ ((List.finRange 32).filter s.settleDue).map Instr.settleDeadline
    ++ ((List.finRange 32).filter s.openingDue).map Instr.openingDeadline
    ++ ((List.finRange 32).filter s.windowDue).map Instr.windowDeadline
    ++ ((List.finRange 8).filter s.idleDue).map Instr.idleDeadline
    ++ ((List.finRange 8).filter s.beginResponseDue).map Instr.beginResponseDeadline
    ++ ((List.finRange 8).filter s.commitResponseDue).map Instr.commitResponseDeadline
    ++ ((List.finRange 32).filter s.nextDueDue).map Instr.nextDueExpiry
    ++ (if s.scanResponseDue then [Instr.scanResponseDeadline] else [])
    ++ ([Port.plant, Port.line].filter s.choiceDue).map Instr.egressChoice
    ++ (if s.moveDue then [Instr.noticeLeavesQueue] else [])
    ++ (if s.powered && s.restartDue then [Instr.warmRestart] else [])

/-- The filter with no command waiting: an owed event is raised, the free value choosing among several; with none owed,
device time counts one microsecond while the filter is powered (R17). -/
def State.idle (s : State) : State :=
  match s.owed with
  | [] => if s.powered then { s with time := s.time + 1 } else s
  | e :: es =>
    let choice := (e :: es).getD (Config.eventChoice s.choices % (e :: es).length) e
    { s with pending := [choice], choices := s.choices + 1 }

end Sys2Proof.Machine
end

