-- ==== Sys2Proof/Machine/Dispatch.lean ====
section
/-! DEFINITION. The meaning of each command: one arm for each row of the table. -/

namespace Sys2Proof.Machine

def exec (i : Instr) (s : State) : Host.Outcome State Fault Refusal :=
  match i with
  | .frameCheckDiscard p bytes => Sys2Proof.Machine.execFrameCheckDiscard p bytes s
  | .forwardFrame p f => Sys2Proof.Machine.execForwardFrame p f s
  | .filterAddressedDiscard p f => Sys2Proof.Machine.execFilterAddressedDiscard p f s
  | .oxRead f => Sys2Proof.Machine.execOxRead f s
  | .oxSummary f => Sys2Proof.Machine.execOxSummary f s
  | .oxSetParam f => Sys2Proof.Machine.execOxSetParam f s
  | .oxMode f => Sys2Proof.Machine.execOxMode f s
  | .oxForce f => Sys2Proof.Machine.execOxForce f s
  | .oxBegin f => Sys2Proof.Machine.execOxBegin f s
  | .oxSegment f => Sys2Proof.Machine.execOxSegment f s
  | .oxCommit f => Sys2Proof.Machine.execOxCommit f s
  | .oxAbandon f => Sys2Proof.Machine.execOxAbandon f s
  | .cyclicStatusFrame f => Sys2Proof.Machine.execCyclicStatusFrame f s
  | .beginResponse f => Sys2Proof.Machine.execBeginResponse f s
  | .commitResponse f => Sys2Proof.Machine.execCommitResponse f s
  | .summaryResponse f => Sys2Proof.Machine.execSummaryResponse f s
  | .abandonResponse f => Sys2Proof.Machine.execAbandonResponse f s
  | .staleDeadline n => Sys2Proof.Machine.execStaleDeadline n s
  | .settleDeadline n => Sys2Proof.Machine.execSettleDeadline n s
  | .openingDeadline n => Sys2Proof.Machine.execOpeningDeadline n s
  | .windowDeadline n => Sys2Proof.Machine.execWindowDeadline n s
  | .idleDeadline k => Sys2Proof.Machine.execIdleDeadline k s
  | .beginResponseDeadline k => Sys2Proof.Machine.execBeginResponseDeadline k s
  | .commitResponseDeadline k => Sys2Proof.Machine.execCommitResponseDeadline k s
  | .laneFinish l => Sys2Proof.Machine.execLaneFinish l s
  | .nextDueExpiry n => Sys2Proof.Machine.execNextDueExpiry n s
  | .scanResponseDeadline => Sys2Proof.Machine.execScanResponseDeadline s
  | .identify p f => Sys2Proof.Machine.execIdentify p f s
  | .readTime p f => Sys2Proof.Machine.execReadTime p f s
  | .readController p f => Sys2Proof.Machine.execReadController p f s
  | .readRecord p f => Sys2Proof.Machine.execReadRecord p f s
  | .loadRecord p f => Sys2Proof.Machine.execLoadRecord p f s
  | .clearShadow p f => Sys2Proof.Machine.execClearShadow p f s
  | .selectBank p f => Sys2Proof.Machine.execSelectBank p f s
  | .openWindow p f => Sys2Proof.Machine.execOpenWindow p f s
  | .closeWindow p f => Sys2Proof.Machine.execCloseWindow p f s
  | .quarantine p f => Sys2Proof.Machine.execQuarantine p f s
  | .release p f => Sys2Proof.Machine.execRelease p f s
  | .approveCandidate p f => Sys2Proof.Machine.execApproveCandidate p f s
  | .discardCandidate p f => Sys2Proof.Machine.execDiscardCandidate p f s
  | .armWatch p f => Sys2Proof.Machine.execArmWatch p f s
  | .disarmWatch p f => Sys2Proof.Machine.execDisarmWatch p f s
  | .probe p f => Sys2Proof.Machine.execProbe p f s
  | .readCounters p f => Sys2Proof.Machine.execReadCounters p f s
  | .setTiming p f => Sys2Proof.Machine.execSetTiming p f s
  | .setNoticeDestination p f => Sys2Proof.Machine.execSetNoticeDestination p f s
  | .restart p f => Sys2Proof.Machine.execRestart p f s
  | .warmRestart => Sys2Proof.Machine.execWarmRestart s
  | .restartInputClosed => Sys2Proof.Machine.execRestartInputClosed s
  | .storeWriteEnd success => Sys2Proof.Machine.execStoreWriteEnd success s
  | .powerOnReset => Sys2Proof.Machine.execPowerOnReset s
  | .linkDown p => Sys2Proof.Machine.execLinkDown p s
  | .linkUp p => Sys2Proof.Machine.execLinkUp p s
  | .egressChoice p => Sys2Proof.Machine.execEgressChoice p s
  | .frameSent p => Sys2Proof.Machine.execFrameSent p s
  | .noticeLeavesQueue => Sys2Proof.Machine.execNoticeLeavesQueue s
  | .restartInputOpened => Sys2Proof.Machine.execRestartInputOpened s
  | .powerLoss => Sys2Proof.Machine.execPowerLoss s

end Sys2Proof.Machine
end

