-- ==== Sys2Proof/Safety.lean ====
section
/-! DEFINITION. What a good state of the filter is, in the terms its claims use: one condition for each part of the
state that the manual says holds at every moment. -/

namespace Sys2Proof.Machine

/-! ## The commands of a family -/

/-- The command of an operation's row (section 1.3). -/
def requestInstr : Operation → Frame → Instr
  | .read, f => .oxRead f
  | .summary, f => .oxSummary f
  | .setParam, f => .oxSetParam f
  | .begins, f => .oxBegin f
  | .segment, f => .oxSegment f
  | .commit, f => .oxCommit f
  | .abandon, f => .oxAbandon f
  | .mode, f => .oxMode f
  | .force, f => .oxForce f

/-- The command of a management command's row (section 11.3). -/
def managementInstr : Command → Port → Frame → Instr
  | .identify, p, f => .identify p f
  | .readTime, p, f => .readTime p f
  | .readController, p, f => .readController p f
  | .readRecord, p, f => .readRecord p f
  | .loadRecord, p, f => .loadRecord p f
  | .clearShadow, p, f => .clearShadow p f
  | .selectBank, p, f => .selectBank p f
  | .openWindow, p, f => .openWindow p f
  | .closeWindow, p, f => .closeWindow p f
  | .quarantine, p, f => .quarantine p f
  | .release, p, f => .release p f
  | .approveCandidate, p, f => .approveCandidate p f
  | .discardCandidate, p, f => .discardCandidate p f
  | .armWatch, p, f => .armWatch p f
  | .disarmWatch, p, f => .disarmWatch p f
  | .probe, p, f => .probe p f
  | .readCounters, p, f => .readCounters p f
  | .setTiming, p, f => .setTiming p f
  | .setNoticeDestination, p, f => .setNoticeDestination p f
  | .restart, p, f => .restart p f

/-- A well-formed request of an operation is taken at the Plant port, outside Closed fallback, for a protected
controller number (R7). -/
abbrev State.takesRequest (s : State) (o : Operation) (f : Frame) (n : Fin 32) : Prop :=
  s.rowOf .plant f = .request o ∧ s.malformed f = false ∧ s.fallback = false ∧ s.protectedBy f.dst = some n

/-- A request of a management command is taken, accepted, and passes the checks that are made before the command's own
rule (R161, R162). -/
abbrev State.takesCommand (s : State) (c : Command) (p : Port) (f : Frame) : Prop :=
  s.rowOf p f = .management c ∧ s.accepts p f = true ∧ s.requestCheck f = none

/-! ## Ports (R124, R144, R145, R147 to R149) -/

/-- The queues of a port are within their places, its arbiter has waited at most four turns, nothing carried or being
sent stands at a port whose link is down, and a free transmitter has nothing left to send. -/
abbrev PortState.Good (q : PortState) (places : Nat) : Prop :=
  q.forwarded.length ≤ Config.forwardedPlaces ∧ q.originate.length ≤ places ∧ q.turns ≤ Config.maxTurns
    ∧ (q.up = false → q.forwarded = [] ∧ q.sending = none)
    ∧ (q.up = true → q.sending = none → q.forwarded = [] ∧ q.originate = [])

/-- Both ports are good, and at most one SUMMARY of the scanner waits at the Line port. -/
abbrev State.PortsGood (s : State) : Prop :=
  s.plant.Good Config.plantPlaces ∧ s.line.Good Config.linePlaces
    ∧ (s.line.originate.filter OrigFrame.isSummary).length ≤ 1

/-! ## Notices (R138 to R141) -/

/-- The Notice Queue is within its places, no watch notice stands behind a routine notice, the dropped count fits its
byte, nothing is queued without a destination, and a notice waits only while the Plant originate queue is full. -/
abbrev State.NoticesGood (s : State) : Prop :=
  s.notices.length ≤ Config.noticePlaces ∧ s.notices.Pairwise (fun a b => b.isWatch = true → a.isWatch = true)
    ∧ s.dropped ≤ 255 ∧ (s.destination = 0#48 → s.notices = [])
    ∧ (s.notices ≠ [] → Config.plantPlaces ≤ s.plant.originate.length)

/-! ## The Segment Queue and the lanes (R79, R87, R98, R103) -/

/-- The waiting entries of a slot. -/
def State.waitingOf (s : State) (k : Fin 8) : Nat := s.waiting.countP (fun e => e.slot == k)

/-- The lanes that hold a segment of a slot. -/
def State.lanesOf (s : State) (k : Fin 8) : Nat := s.lanes.toList.countP (fun w => w.any (fun w => w.entry.slot == k))

/-- The pending count a slot has: none but in the phases that hold one (R65). -/
def Slot.pendingCount (x : Slot) : Nat := x.pending?.getD 0

/-- The slot is in VERIFYING. -/
def Slot.isVerifying : Slot → Bool
  | .verifying _ _ _ _ => true
  | _ => false

/-- At most 16 segments are held; a slot's pending count is its waiting entries and lanes; no two lanes hold segments of
one slot; a DRAINING slot has no waiting entry and a VERIFYING slot has something pending; and while a lane is idle every
waiting entry belongs to the slot whose segment the other lane holds. -/
abbrev State.SegmentsGood (s : State) : Prop :=
  s.segmentsHeld ≤ Config.segmentPlaces
    ∧ (∀ k : Fin 8, (s.slot k).pendingCount = s.waitingOf k + s.lanesOf k ∧ s.lanesOf k ≤ 1
        ∧ (s.slot k = .draining → s.waitingOf k = 0) ∧ ((s.slot k).isVerifying = true → 0 < (s.slot k).pendingCount))
    ∧ (∀ l : Fin 2, s.lane l = none → ∀ e ∈ s.waiting, s.laneHolds e.slot = true)

/-! ## Windows and slots (R35, R38, R40, R48) -/

/-- A window that owns a slot owns one that names its controller and is in the phase of the window's state. -/
def State.ownerAgrees (s : State) (n : Fin 32) : Bool :=
  match s.window? n with
  | some (.transfer _ _ k) => match s.slot k with
    | .taking x _ _ _ => x.controller == n
    | _ => false
  | some (.verify _ _ k _) => match s.slot k with
    | .verifying x _ _ _ => x.controller == n
    | _ => false
  | some (.commitWait _ _ k _) => match s.slot k with
    | .released x _ => x.controller == n
    | _ => false
  | _ => true

/-- A live slot is owned by its controller's window, in the state of the slot's phase, or is a RELEASED slot of a
controller in QUARANTINE. -/
def State.slotAgrees (s : State) (k : Fin 8) : Bool :=
  match s.slot k with
  | .taking x _ _ _ => match s.window? x.controller with
    | some (.transfer _ _ j) => j == k
    | _ => false
  | .verifying x _ _ _ => match s.window? x.controller with
    | some (.verify _ _ j _) => j == k
    | _ => false
  | .released x _ => match s.window? x.controller with
    | some (.commitWait _ _ j _) => j == k
    | some (.quarantined _) => true
    | _ => false
  | .free => true
  | .draining => true

/-- Windows and slots agree, and no two live slots name one controller. -/
abbrev State.OwnersGood (s : State) : Prop :=
  (∀ n : Fin 32, s.ownerAgrees n = true) ∧ (∀ k : Fin 8, s.slotAgrees k = true)
    ∧ (∀ j k : Fin 8, ∀ x ∈ (s.slot j).live, ∀ y ∈ (s.slot k).live, x.controller = y.controller → j = k)

/-! ## Ranges (R20, R21, R25, R27, R120, R144, R149, R151, R167, R168) -/

/-- A 32-bit count. -/
abbrev fits32 (n : Nat) : Prop := n < 4294967296

abbrev ControllerCounters.Good (c : ControllerCounters) : Prop :=
  fits32 c.admitted ∧ fits32 c.refusals ∧ fits32 c.released ∧ fits32 c.mismatches

abbrev DeviceCounters.Good (d : DeviceCounters) : Prop :=
  fits32 d.receivedDiscarded ∧ fits32 d.malformed ∧ fits32 d.segmentDrop ∧ fits32 d.notSent ∧ fits32 d.linkDiscarded
    ∧ fits32 d.forwardOverflow

/-- Each parameter is in its range (R168). -/
abbrev Timing.Good (t : Timing) : Prop :=
  (100 ≤ t.settle ∧ t.settle ≤ 30000) ∧ (5 ≤ t.opening ∧ t.opening ≤ 600) ∧ (10 ≤ t.stale ∧ t.stale ≤ 5000)
    ∧ (60 ≤ t.win ∧ t.win ≤ 14400) ∧ (60 ≤ t.openRate ∧ t.openRate ≤ 3600) ∧ (100 ≤ t.seg ∧ t.seg ≤ 60000)
    ∧ (100 ≤ t.resp ∧ t.resp ≤ 30000)

/-- The window length recorded in OPENING, where the state has one, is 60 to 14,400 s (R20, R26). -/
abbrev Window.LengthGood (w : Window) : Prop := ∀ l ∈ w.length?, 60 ≤ l ∧ l ≤ 14400

/-- A controller's counts are in range, its window length too, and it has a quiet run in OPENING only. -/
abbrev Controller.Good (c : Controller) : Prop :=
  c.mismatches ≤ Config.mismatchLimit ∧ c.schedule.postponed ≤ Config.maxPostponed ∧ c.window.LengthGood
    ∧ (c.monitor.quiet.isSome = true → c.window.isOpening = true)

/-- Every count of the state is in its range. -/
abbrev State.FieldsGood (s : State) : Prop :=
  (∀ n : Fin 32, (s.count n).Good) ∧ s.device.Good ∧ s.timing.Good ∧ fits32 s.generation ∧ s.tagCounter < 65536
    ∧ (∀ n : Fin 32, ∀ c ∈ s.controller n, c.Good)
    ∧ (∀ i ∈ s.stored, i.timing.Good ∧ fits32 i.generation) ∧ (∀ i ∈ s.writing, i.timing.Good ∧ fits32 i.generation)

/-- The Opening History holds at most four entries, oldest first, none later than now (R27). -/
abbrev State.HistoryGood (s : State) : Prop :=
  s.history.length ≤ Config.historyPlaces ∧ s.history.Pairwise (· ≤ ·) ∧ ∀ t ∈ s.history, t ≤ s.time

/-! ## Banks (R6, R43, R44, R109, R152, R155, R159) -/

/-- The records of a table that are occupied, in ascending position. -/
def records {α : Type} {n : Nat} (t : Vector (Option α) n) : List α := t.toList.filterMap id

/-- The key of an image record (R109). -/
def ImageRecord.key (r : ImageRecord) : Fin 32 × Nat × Nat := (r.controller, r.cls, r.idx)

/-- No two definitions and no two station entries have one address, and no two image records have one key. -/
abbrev Bank.Distinct (b : Bank) : Prop :=
  ((records b.definitions).map ControllerDef.addr).Nodup ∧ ((records b.stations).map StationEntry.addr).Nodup
    ∧ ((records b.images).map ImageRecord.key).Nodup

/-- Every grant keeps the conditions over its own fields (R44, R152). -/
abbrev Bank.GrantsChecked (b : Bank) : Prop := ∀ g ∈ records b.grants, grantOk g = true

/-- Every grant that names a controller number names a defined one (R44). -/
abbrev Bank.GrantsDefined (b : Bank) : Prop :=
  ∀ g ∈ records b.grants, ∀ n ∈ g.controller, (b.definitions[n]).isSome = true

/-- What R6, R43, R44 and R109 say of a bank that is, or was, active. -/
abbrev Bank.Good (b : Bank) : Prop := b.Distinct ∧ b.GrantsChecked ∧ b.GrantsDefined

/-- The active bank, and every image of one in the store, is good; the grants of the shadow bank are checked. -/
abbrev State.BanksGood (s : State) : Prop :=
  s.active.Good ∧ s.shadow.GrantsChecked ∧ (∀ i ∈ s.stored, i.bank.Good) ∧ (∀ i ∈ s.writing, i.bank.Good)

/-- Dynamic state is held for the defined controllers and no others (R20, R42); in Closed fallback the active bank is
empty, the generation 0, every slot FREE and every watch disarmed (R62, R159). -/
abbrev State.DefinedGood (s : State) : Prop :=
  (∀ n : Fin 32, (s.controller n).isSome = (s.definition n).isSome)
    ∧ (s.fallback = true → s.active = Bank.empty ∧ s.generation = 0 ∧ (∀ k : Fin 8, s.slot k = .free)
        ∧ ∀ w : Fin 8, s.watch w = none)

/-! ## All of it -/

/-- A good state. -/
structure State.Good (s : State) : Prop where
  ports : s.PortsGood
  notices : s.NoticesGood
  segments : s.SegmentsGood
  owners : s.OwnersGood
  fields : s.FieldsGood
  history : s.HistoryGood
  banks : s.BanksGood
  defined : s.DefinedGood

end Sys2Proof.Machine
end

