-- ==== Sys2Proof/Certificates/Slice0/Obligations.lean ====
section
/-! DEFINITION. The statements about the filter, for the provers. Each says which rules of the spec it formalises;
"L<n>" names the row of notes/assumptions that a clause of the model's own rests on. -/

open Sys2Proof Sys2Proof.Machine

/-! ## The machine -/

/-- One step takes the command at the front of the queue and runs it against the queue's rest. -/
def Obligations.StepRunsFrontCommand : Prop :=
  ∀ (s : State) (c : Instr) (rest : List Instr), s.pending = c :: rest → step s = exec c { s with pending := rest }

/-- With no command waiting, one of the events the filter owes is put in front, whichever the free value picks; with
none owed, device time counts one microsecond while the filter is powered (R17). The model's choice, L2. -/
def Obligations.IdleStepRaisesOwedEventOrCounts : Prop :=
  ∀ s : State, s.pending = [] →
    (s.owed = [] → s.powered = true → step s = .next { s with time := s.time + 1 })
    ∧ (s.owed = [] → s.powered = false → step s = .next s)
    ∧ (s.owed ≠ [] → ∃ e ∈ s.owed, step s = .next { s with pending := [e], choices := s.choices + 1 })

/-- Every command answers a next state, leaves the queue and what is fixed at manufacture alone, and leaves device
time alone unless it is one of power (R2, R17). -/
def Obligations.CommandsKeepQueueIdentityAndTime : Prop :=
  ∀ (i : Instr) (s : State), ∃ t, exec i s = .next t ∧ t.pending = s.pending ∧ t.choices = s.choices
    ∧ t.identity = s.identity
    ∧ (i ≠ .powerOnReset → i ≠ .powerLoss → t.time = s.time ∧ t.powered = s.powered)

/-- After a power-on reset of a delivered filter every part of the state is good, and holds what the rules on reset
give it. That it starts in Closed fallback is the model's inference, L5. -/
def Obligations.ResetIsGood : Prop :=
  State.reset.Good ∧ State.reset.time = 0 ∧ State.reset.fallback = true ∧ State.reset.generation = 0
    ∧ State.reset.timing = Timing.delivery ∧ State.reset.destination = 0#48
    ∧ (∀ k, State.reset.slot k = .free) ∧ (∀ l, State.reset.lane l = none) ∧ State.reset.waiting = []
    ∧ State.reset.history = [] ∧ State.reset.round = none ∧ State.reset.tagCounter = 0
    ∧ (∀ w, State.reset.watch w = none) ∧ State.reset.notices = [] ∧ State.reset.dropped = 0
    ∧ (∀ n, State.reset.count n = ControllerCounters.zero) ∧ State.reset.device = DeviceCounters.zero
    ∧ (∀ p, State.reset.port p = { up := false, forwarded := [], originate := [], sending := none, turns := 0 })
    ∧ State.reset.writing = none ∧ State.reset.restartPending = false

/-! ## What every step keeps -/

/-- The queues and arbiters of the ports stay within their places, and a free transmitter leaves nothing queued
(R124, R144, R145, R147 to R149); the Notice Queue stays within its places, in its order, empty without a
destination, and empty while the Plant originate queue has a free place (R138 to R141). -/
def Obligations.StepsKeepQueuesGood : Prop :=
  (∀ s t : State, s.PortsGood → step s = .next t → t.PortsGood)
  ∧ (∀ s t : State, s.PortsGood → s.NoticesGood → step s = .next t → t.NoticesGood)

/-- The Segment Queue, the lanes and the pending counts stay in agreement (R79, R87, R98, R103). -/
def Obligations.StepsKeepSegmentsGood : Prop :=
  ∀ s t : State, s.SegmentsGood → step s = .next t → t.SegmentsGood

/-- Windows and transfer slots stay in agreement, and no two live slots name one controller (R35, R38, R40, R48). -/
def Obligations.StepsKeepOwnersGood : Prop :=
  ∀ s t : State, s.OwnersGood → step s = .next t → t.OwnersGood

/-- Every count stays in its range, quiet runs stay in OPENING, and the Opening History stays within four entries in
order (R20, R21, R25, R27, R120, R151, R168). -/
def Obligations.StepsKeepFieldsGood : Prop :=
  ∀ s t : State, s.FieldsGood → s.HistoryGood → step s = .next t → t.FieldsGood ∧ t.HistoryGood

/-- The active bank never holds two definitions of one address, two entries of one station or two records of one key,
and its grants stay as admission needs them (R6, R43, R44, R109); dynamic state is held exactly for the defined
controllers, and Closed fallback holds no transfer, watch or bank (R20, R42, R159). -/
def Obligations.StepsKeepBanksGood : Prop :=
  (∀ s t : State, s.BanksGood → step s = .next t → t.BanksGood)
  ∧ (∀ s t : State, s.DefinedGood → step s = .next t → t.DefinedGood)

/-! ## What the filter is for -/

/-- A commit under effective REQUIRED is released only when the words of its transfer, as its slot or a lane
finishing them holds them, match a record of the active Image Table that has its key and is APPROVED (R79, R97, R110,
R111, R112). -/
def Obligations.RequiredCommitIsReleasedOnlyOnMatch : Prop :=
  ∀ (s t : State) (k : Fin 8) (x : Transfer) (d : Nat), step s = .next t → t.slot k = .released x d →
    (∀ y e, s.slot k ≠ .released y e) → x.check = .required →
    ∃ (i : Nat) (r : ImageRecord) (sums : Sums), s.active.images[i]? = some (some r)
      ∧ r.key = (x.controller, x.cls, x.idx) ∧ r.status = .approved
      ∧ sums.i = r.length ∧ fingerprint sums sums.i = r.fingerprint
      ∧ ((∃ q, s.slot k = .taking x sums 0 q)
        ∨ ∃ (l : Fin 2) (w : LaneWork), s.lane l = some w ∧ w.entry.slot = k ∧ sums = w.sums.takeAll w.entry.words)

/-- A window goes from OPENING to OPEN only after a quiet run of at least T_settle (R25, R28). -/
def Obligations.WindowOpensOnlyAfterQuietRun : Prop :=
  ∀ (s t : State) (n : Fin 32) (m m' : WindowMode) (l d d' : Nat), s.timing.Good → step s = .next t →
    s.window? n = some (.opening m l d) → t.window? n = some (.opened m' d') →
    m' = m ∧ d' = s.time + l * 1000000
      ∧ ∃ q, s.quietRun n = some q ∧ s.timing.settle * 1000 ≤ s.time - q.since

/-- No write-kind request reaches the Line port for a controller in QUARANTINE, and none whose grant needs a window,
nor any download request, for one in LOCKED or OPENING: neither the queues of that port nor what it sends change
(R48, R52). -/
def Obligations.NoWritePassesAClosedWindow : Prop :=
  ∀ (s t : State) (o : Operation) (f : Frame) (n : Fin 32), s.OwnersGood → isWriteKind o = true →
    s.takesRequest o f n → exec (requestInstr o f) s = .next t →
    ((∃ c, s.window? n = some (.quarantined c)) → t.line = s.line)
    ∧ ((s.window? n = some .locked ∨ ∃ m l d, s.window? n = some (.opening m l d)) →
        (o = .setParam ∨ o = .mode →
          ∀ i g, s.matchedGrant n o (oxHeader f.payload).cls (oxHeader f.payload).idx = some (i, g) → g.needed = true) →
        t.line = s.line)

/-- The rate check (R27): refused exactly when four openings lie within T_open, with the earliest retry time;
otherwise at most three do, and the accepted opening becomes the newest of at most four. -/
def Obligations.OpeningsAreRateLimited : Prop :=
  ∀ s : State, s.HistoryGood →
    (∀ retry, s.rateRefusal = some retry →
      s.history.length = 4 ∧ (∀ e ∈ s.history, s.time - e < s.timing.openRate * 1000000)
        ∧ ∃ oldest rest, s.history = oldest :: rest ∧ retry = oldest + s.timing.openRate * 1000000)
    ∧ (s.rateRefusal = none →
        s.history.countP (fun e => decide (s.time - e < s.timing.openRate * 1000000)) ≤ 3)
    ∧ (s.history.length < 4 → s.recordOpening = { s with history := s.history ++ [s.time] })
    ∧ (∀ oldest rest, s.history = oldest :: rest → s.history.length = 4 →
        s.recordOpening = { s with history := rest ++ [s.time] })

/-! ## Frames at the ports -/

/-- A station address is protected by the definition of the active bank that has it, and by that one only (R6). A
frame that passes the checks of its port is sorted by the first row of its port's table that matches it (R7, R8, R9,
R70); R13 and R14 follow. One addressed to the filter is a management frame at either port, or at the Line port a
response to its SUMMARY or ABANDON that passes the check of R15 (R10); the rest are DiscardedFramesAreCounted's. The
row of a request of unknown operation is the model's choice, L12; the check sequence is that of IEEE 802.3, L8. -/
def Obligations.FramesAreSortedByTheirTables : Prop :=
  (∀ (s : State) (a : Addr),
    (s.protectedBy a = none ↔ ∀ n d, s.definition n = some d → d.addr ≠ a)
    ∧ ∀ n, s.protectedBy a = some n →
        (∃ d, s.definition n = some d ∧ d.addr = a)
        ∧ (s.BanksGood → ∀ m d, s.definition m = some d → d.addr = a → m = n))
  ∧ (∀ (s : State) (f : Frame), s.passesCheck f = true → f.dst ≠ s.identity.station →
      (s.takes .plant = true →
        (f.etype ≠ Config.oxType → s.rowOf .plant f = .forward)
        ∧ (f.etype = Config.oxType → s.fallback = false →
            (s.protectedBy f.dst = none → s.rowOf .plant f = .forward)
            ∧ (∀ n, s.protectedBy f.dst = some n → s.rowOf .plant f = .request f.requestRow))
        ∧ (f.etype = Config.oxType → s.fallback = true →
            ((oxHeader f.payload).response ≠ 0 → s.rowOf .plant f = .forward)
            ∧ ((oxHeader f.payload).response = 0 → s.rowOf .plant f = .request f.requestRow)))
      ∧ (s.takes .line = true →
        (s.protectedBy f.src = none → s.rowOf .line f = .forward)
        ∧ ∀ n, s.protectedBy f.src = some n →
          (f.etype = Config.cyclicType → s.rowOf .line f = .cyclicStatus)
          ∧ (f.etype ≠ Config.cyclicType → f.etype ≠ Config.oxType → s.rowOf .line f = .forward)
          ∧ (f.etype = Config.oxType → (oxHeader f.payload).response = 0 ∨ (oxHeader f.payload).version ≠ 1 →
              s.rowOf .line f = .forward)
          ∧ (f.etype = Config.oxType → (oxHeader f.payload).response ≠ 0 → (oxHeader f.payload).version = 1 →
              (f.code = 4 → (∃ k, s.beginSlot n f = some k) → s.rowOf .line f = .beginResponse)
              ∧ (f.code = 6 → (∃ k, s.commitSlot n f = some k) → s.rowOf .line f = .commitResponse)
              ∧ (f.code = 4 → s.beginSlot n f = none → s.rowOf .line f = .forward)
              ∧ (f.code = 6 → s.commitSlot n f = none → s.rowOf .line f = .forward)
              ∧ (f.code ≠ 4 → f.code ≠ 6 → s.rowOf .line f = .forward))))
  ∧ (∀ (s : State) (p : Port) (f : Frame), s.takes p = true → s.passesCheck f = true → f.dst = s.identity.station →
      (f.etype = Config.managementType → s.rowOf p f = .management f.commandRow)
      ∧ (p = .line → f.etype = Config.oxType → (oxHeader f.payload).response ≠ 0 → (oxHeader f.payload).version = 1 →
        (if f.payload.length = 46 then 2 * (oxHeader f.payload).words ≤ 18
          else f.payload.length - 28 = 2 * (oxHeader f.payload).words) →
        (f.code = 2 → (oxHeader f.payload).status ≠ 0 ∨ (oxHeader f.payload).words = 4 →
          s.rowOf .line f = .summaryResponse)
        ∧ (f.code = 7 → s.rowOf .line f = .abandonResponse)))

/-- Discards (R1, R10, R15). FRAME_CHECK_DISCARD: bytes too short to be a frame, or a frame of bad length, bad check
sequence or the filter's own source address. FILTER_ADDRESSED_DISCARD: a frame addressed to the filter that is
neither a management frame nor a response at the Line port that passes the check of R15 and is a SUMMARY's or an
ABANDON's. Each raises received-discarded and changes nothing else. The check sequence is that of IEEE 802.3, L8. -/
def Obligations.DiscardedFramesAreCounted : Prop :=
  ∀ (s : State) (p : Port), s.takes p = true →
    (∀ bytes : List Byte,
      (∀ f, frameOfBytes bytes = some f →
        f.legalLength = false ∨ f.fcs ≠ goodFcs f ∨ f.src = s.identity.station) →
      exec (.frameCheckDiscard p bytes) s = .next { s with
        device := { s.device with receivedDiscarded := saturate32 s.device.receivedDiscarded } })
    ∧ (∀ f : Frame, s.passesCheck f = true → f.dst = s.identity.station → f.etype ≠ Config.managementType →
        (p = .plant ∨ f.etype ≠ Config.oxType ∨ (oxHeader f.payload).response = 0
          ∨ (oxHeader f.payload).version ≠ 1 ∨ Operation.ofCode f.code = none
          ∨ (f.payload.length = 46 ∧ 18 < 2 * (oxHeader f.payload).words)
          ∨ (46 < f.payload.length ∧ f.payload.length - 28 ≠ 2 * (oxHeader f.payload).words)
          ∨ (f.code = 2 ∧ (oxHeader f.payload).status = 0 ∧ (oxHeader f.payload).words ≠ 4)
          ∨ (f.code ≠ 2 ∧ f.code ≠ 7)) →
        exec (.filterAddressedDiscard p f) s = .next { s with
          device := { s.device with receivedDiscarded := saturate32 s.device.receivedDiscarded } })

/-- A frame that goes across is placed unaltered at the tail of the other port's forwarded queue, and begins to be
sent at once where that port is free with both queues empty; it is discarded and counted when that port's link is
down or its queue holds 256 frames. Nothing else changes (R144, R145, R149). That the port keeps the time of such a
start is the model's reading of R146, L26. -/
def Obligations.ForwardedFrameIsPlacedOrCounted : Prop :=
  ∀ (s : State) (f : Frame),
    (s.rowOf .plant f = .forward →
      (s.line.up = true → s.line.forwarded.length < 256 →
        exec (.forwardFrame .plant f) s = .next { s with line := s.line.placeForwarded f s.time }
        ∧ (s.line.sending ≠ none → exec (.forwardFrame .plant f) s = .next { s with
            line := { s.line with forwarded := s.line.forwarded ++ [f] } })
        ∧ (s.line.sending = none → s.line.forwarded = [] → s.line.originate = [] →
          exec (.forwardFrame .plant f) s = .next { s with
            line := { s.line with sending := some (.forwarded f), turns := 0, begun := some s.time } }))
      ∧ (s.line.up = true → 256 ≤ s.line.forwarded.length →
        exec (.forwardFrame .plant f) s = .next { s with
          device := { s.device with forwardOverflow := saturate32 s.device.forwardOverflow } })
      ∧ (s.line.up = false → s.device.linkDiscarded < 4294967295 →
        exec (.forwardFrame .plant f) s = .next { s with
          device := { s.device with linkDiscarded := s.device.linkDiscarded + 1 } }))
    ∧ (s.rowOf .line f = .forward →
      (s.plant.up = true → s.plant.forwarded.length < 256 →
        exec (.forwardFrame .line f) s = .next { s with plant := s.plant.placeForwarded f s.time }
        ∧ (s.plant.sending ≠ none → exec (.forwardFrame .line f) s = .next { s with
            plant := { s.plant with forwarded := s.plant.forwarded ++ [f] } })
        ∧ (s.plant.sending = none → s.plant.forwarded = [] → s.plant.originate = [] →
          exec (.forwardFrame .line f) s = .next { s with
            plant := { s.plant with sending := some (.forwarded f), turns := 0, begun := some s.time } }))
      ∧ (s.plant.up = true → 256 ≤ s.plant.forwarded.length →
        exec (.forwardFrame .line f) s = .next { s with
          device := { s.device with forwardOverflow := saturate32 s.device.forwardOverflow } })
      ∧ (s.plant.up = false → s.device.linkDiscarded < 4294967295 →
        exec (.forwardFrame .line f) s = .next { s with
          device := { s.device with linkDiscarded := s.device.linkDiscarded + 1 } }))

/-! ## Requests -/

/-- The form check (R11) and the drop of a malformed request (R12); in Closed fallback a well-formed READ or SUMMARY
goes to the Line port and a write-kind request is refused CLOSED (R8, R62). An unknown operation is taken under
BEGIN's row (L12). -/
def Obligations.MalformedAndClosedRequests : Prop :=
  ∀ (s : State) (o : Operation) (f : Frame), s.rowOf .plant f = .request o →
    (s.malformed f = true ↔
      (oxHeader f.payload).version ≠ 1 ∨ Operation.ofCode (oxHeader f.payload).operation = none
      ∨ 720 < (oxHeader f.payload).words
      ∨ (46 < f.payload.length ∧ f.payload.length - 28 ≠ 2 * (oxHeader f.payload).words)
      ∨ (f.payload.length = 46 ∧ 18 < 2 * (oxHeader f.payload).words)
      ∨ (s.fallback = false ∧ (oxHeader f.payload).response ≠ 0))
    ∧ (s.malformed f = true →
        exec (requestInstr o f) s = .next (State.post
          { s with device := { s.device with malformed := saturate32 s.device.malformed } }
          { kind := .malformed, time := s.time, station := some f.src
            controller := if s.fallback then none else s.protectedBy f.dst }))
    ∧ (s.malformed f = false → s.fallback = true →
        exec (requestInstr o f) s =
          .next (if isWriteKind o then s.refuse none o f .closed else s.forward .line f))

/-- A well-formed READ or SUMMARY passes to the Line forwarded queue from any source and is offered to the watches
with outcome PASS; where no armed watch hits, only the Line port changes, and no counter rises (R7, R135; that one
discarded for a link that is down or a full queue is offered too is the model's choice, L25). A SET-PARAM, MODE or
FORCE that passes steps 2, 4, 5, 6 and 7 is forwarded, counted as admitted, and offered with outcome PASS (R46, R58).
-/
def Obligations.ReadsAndSingleWritesPass : Prop :=
  (∀ (s : State) (o : Operation) (f : Frame) (n : Fin 32), o = .read ∨ o = .summary → s.takesRequest o f n →
    exec (requestInstr o f) s = .next ((s.forward .line f).offer n o f .pass)
    ∧ (s.line.up = true → s.line.forwarded.length < 256 →
        (∀ w x, s.watch w = some x → x.hits n o (oxHeader f.payload) = false) →
        exec (requestInstr o f) s = .next { s with line := s.line.placeForwarded f s.time }))
  ∧ (∀ (s : State) (o : Operation) (f : Frame) (n : Fin 32) (e : StationEntry) (i : Nat) (g : Grant),
      o = .setParam ∨ o = .mode ∨ o = .force → s.takesRequest o f n → s.station f.src = some e →
      s.matchedGrant n o (oxHeader f.payload).cls (oxHeader f.payload).idx = some (i, g) →
      max e.level (min (oxHeader f.payload).claimed 3) ≤ g.level → e.rights.allow o = true →
      dispose o g.needed (s.windowOf n) = .pass →
      exec (requestInstr o f) s = .next (((s.forward .line f).countAdmitted n).offer n o f .pass))

/-- The station entry that applies is the one of the active Station Table that has the source address, and there is
none when no entry has it (R43, R47). The first of steps 2, 4, 5, 6 and 7 that fails gives the reason with which a
SET-PARAM, MODE, FORCE or BEGIN is refused; it is offered with that reason (R46, R47, R49 to R52, R59, R61). That the
REFUSED notice comes before the watch notices of its request is the model's choice, L11. -/
def Obligations.FirstFailedStepRefuses : Prop :=
  (∀ (s : State) (a : Addr),
    (s.station a = none ↔ ∀ (i : Nat) (e : StationEntry), s.active.stations[i]? = some (some e) → e.addr ≠ a)
    ∧ (∀ e, s.station a = some e → e.addr = a ∧ ∃ i : Nat, s.active.stations[i]? = some (some e))
    ∧ (s.BanksGood → ∀ (i : Nat) (e : StationEntry), s.active.stations[i]? = some (some e) → e.addr = a →
        s.station a = some e))
  ∧ ∀ (s : State) (o : Operation) (f : Frame) (n : Fin 32),
    o = .setParam ∨ o = .mode ∨ o = .force ∨ o = .begins → s.takesRequest o f n →
    (s.station f.src = none →
      exec (requestInstr o f) s = .next ((s.refuse (some n) o f .unknownSource).offer n o f (.refused .unknownSource)))
    ∧ ∀ e, s.station f.src = some e →
      (s.matchedGrant n o (oxHeader f.payload).cls (oxHeader f.payload).idx = none →
        exec (requestInstr o f) s = .next ((s.refuse (some n) o f .noGrant).offer n o f (.refused .noGrant)))
      ∧ ∀ i g, s.matchedGrant n o (oxHeader f.payload).cls (oxHeader f.payload).idx = some (i, g) →
        (g.level < max e.level (min (oxHeader f.payload).claimed 3) →
          exec (requestInstr o f) s = .next ((s.refuse (some n) o f .level).offer n o f (.refused .level)))
        ∧ (max e.level (min (oxHeader f.payload).claimed 3) ≤ g.level →
          (e.rights.allow o = false →
            exec (requestInstr o f) s = .next ((s.refuse (some n) o f .noRight).offer n o f (.refused .noRight)))
          ∧ ∀ r, e.rights.allow o = true → dispose o g.needed (s.windowOf n) = .refuse r →
            exec (requestInstr o f) s = .next ((s.refuse (some n) o f r).offer n o f (.refused r)))

/-- A refusal: the response placed in the Plant originate queue, or not sent and counted when the queue holds 8
frames; the controller's refusals counter; the REFUSED notice, which carries a transfer id for download operations
only (R59, R60, R148). In Closed fallback no counter rises and no controller number is carried (R62). That the
response is appended before the notice is posted is the model's choice, L27. -/
def Obligations.RefusalHasItsEffects : Prop :=
  ∀ (s : State) (n : Option (Fin 32)) (o : Operation) (f : Frame) (r : Reason),
    s.refuse n o f r = State.post
      { s with
        plant := if s.plant.originate.length < 8 then
            s.plant.placeOriginated { kind := .refusal, frame := refusalFrame s.identity.station f r } s.time
          else s.plant
        device := { s.device with
          notSent := if s.plant.originate.length < 8 then s.device.notSent else saturate32By 1 s.device.notSent }
        counters := match n with
          | some n => s.counters.set n { s.count n with refusals := saturate32 (s.count n).refusals }
          | none => s.counters }
      { kind := .refused, time := s.time, controller := n, station := some f.src
        object := some ((oxHeader f.payload).cls, (oxHeader f.payload).idx)
        tid := if o = .begins ∨ o = .segment ∨ o = .commit ∨ o = .abandon then some (oxHeader f.payload).tid else none
        reason := some (.reason r) }

/-- The table of step 7 (R52), with the window column first where the grant's window takes part. -/
def Obligations.DispositionFollowsItsTable : Prop :=
  ∀ (o : Operation) (needed : Bool) (w : Window),
    (∀ c, dispose o needed (.quarantined c) = .refuse .quarantine)
    ∧ ((∀ c, w ≠ .quarantined c) →
      (dispose .setParam false w = .pass)
      ∧ (dispose .setParam true w = if w.isLocked || w.isOpening then .refuse .locked else .pass)
      ∧ (dispose .begins needed w = if w.isLocked || w.isOpening then .refuse .locked
          else if w.slot?.isSome then .refuse .busy else .start)
      ∧ (dispose .mode false w = if w.slot?.isSome then .refuse .busy else .pass)
      ∧ (dispose .mode true w = if w.isLocked || w.isOpening then .refuse .locked
          else if w.slot?.isSome then .refuse .busy else .pass)
      ∧ (dispose .force needed w = if w.isLocked || w.isOpening then .refuse .locked
          else if w.slot?.isSome then .refuse .busy else .pass))

/-- The grant lookup (R45): the matched grant is the covering grant at the lowest position, and there is none when no
grant covers the request. -/
def Obligations.LowestCoveringGrantMatches : Prop :=
  ∀ (s : State) (n : Fin 32) (o : Operation) (cls idx : Nat),
    (∀ g : Grant, g.covers n o cls idx = true ↔
      (g.controller = none ∨ g.controller = some n) ∧ (g.cls = none ∨ g.cls = some cls) ∧ g.low ≤ idx ∧ idx ≤ g.high
        ∧ ((o = .setParam ∧ g.operations.param = true) ∨ (o = .begins ∧ g.operations.write = true)
          ∨ (o = .mode ∧ g.operations.mode = true) ∨ (o = .force ∧ g.operations.force = true)))
    ∧ (∀ i g, s.matchedGrant n o cls idx = some (i, g) ↔
        s.active.grants[i]? = some (some g) ∧ g.covers n o cls idx = true
          ∧ ∀ j, j < i → ∀ g' : Grant, s.active.grants[j]? = some (some g') → g'.covers n o cls idx = false)
    ∧ (s.matchedGrant n o cls idx = none ↔
        ∀ (j : Nat) (g' : Grant), s.active.grants[j]? = some (some g') → g'.covers n o cls idx = false)

/-- A BEGIN that passes every step and the checks of R55 starts a transfer in one step: the lowest-numbered FREE slot
becomes BEGUN with its fields and deadlines, the window goes from OPEN to TRANSFER, the frame is forwarded and
counted, and is offered with outcome START (R56, R67). -/
def Obligations.BeginStartsTransfer : Prop :=
  ∀ (s : State) (f : Frame) (n : Fin 32) (e : StationEntry) (i : Nat) (g : Grant) (m : WindowMode) (d : Nat)
    (k : Fin 8) (check : ImageCheck),
    s.takesRequest .begins f n → s.station f.src = some e →
    s.matchedGrant n .begins (oxHeader f.payload).cls (oxHeader f.payload).idx = some (i, g) →
    max e.level (min (oxHeader f.payload).claimed 3) ≤ g.level → e.rights.write = true →
    s.window? n = some (.opened m d) → s.startChecks n f g.check = .ok (k, check) →
    s.slot k = .free ∧ (∀ j < k, s.slot j ≠ .free)
    ∧ exec (.oxBegin f) s = .next (State.offer
        (State.countAdmitted (State.forward (State.setWindow
          (s.setSlot k (.taking
            { controller := n, requester := f.src, tid := (oxHeader f.payload).tid, cls := (oxHeader f.payload).cls
              idx := (oxHeader f.payload).idx, declared := (oxHeader f.payload).declared, check := check, words := 0 }
            { a := 0#32, b := 0#32, i := 0 } 0
            { expected := 0, last := none, idle := s.time + s.timing.seg * 1000
              answer := some (s.time + s.timing.resp * 1000) }))
          n (.transfer m d k)) .line f) n) n .begins f .start)

/-- The APPROVED record of a key is the one of the active Image Table that has the key and that status, and there is
none when no record has both (R109, R110); the free slot is the lowest-numbered FREE one, and there is none when no
slot is FREE (R56, R57). The checks of a BEGIN disposed of as "start transfer", in their order (R55), and the refusal
of the first that fails. That the REFUSED notice comes before the watch notices of its request is the model's choice,
L11. -/
def Obligations.BeginStartChecks : Prop :=
  (∀ (s : State) (n : Fin 32) (cls idx : Nat),
    (s.approved n cls idx = none ↔ ∀ (i : Nat) (r : ImageRecord), s.active.images[i]? = some (some r) →
      r.key = (n, cls, idx) → r.status ≠ .approved)
    ∧ (∀ r, s.approved n cls idx = some r →
        r.key = (n, cls, idx) ∧ r.status = .approved ∧ ∃ i : Nat, s.active.images[i]? = some (some r))
    ∧ (s.BanksGood → ∀ (i : Nat) (r : ImageRecord), s.active.images[i]? = some (some r) → r.key = (n, cls, idx) →
        r.status = .approved → s.approved n cls idx = some r))
  ∧ (∀ s : State, (s.freeSlot = none ↔ ∀ k, s.slot k ≠ .free)
      ∧ ∀ k, s.freeSlot = some k ↔ s.slot k = .free ∧ ∀ j < k, s.slot j ≠ .free)
  ∧ ∀ (s : State) (f : Frame) (n : Fin 32) (check : ImageCheck),
    (s.freeSlot = none → s.startChecks n f check = .error .slotsFull)
    ∧ (∀ k, s.freeSlot = some k →
      ((oxHeader f.payload).declared = 0 → s.startChecks n f check = .error .length)
      ∧ (262144 < (oxHeader f.payload).declared → s.startChecks n f check = .error .tooLong)
      ∧ (1 ≤ (oxHeader f.payload).declared → (oxHeader f.payload).declared ≤ 262144 →
        (s.approved n (oxHeader f.payload).cls (oxHeader f.payload).idx = none →
          s.startChecks n f check = if check = .required then .error .noImage else .ok (k, check))
        ∧ ∀ r, s.approved n (oxHeader f.payload).cls (oxHeader f.payload).idx = some r →
          s.startChecks n f check = if check = .none then .ok (k, .none)
            else if r.length = (oxHeader f.payload).declared then .ok (k, .required) else .error .length))
    ∧ (∀ (e : StationEntry) (i : Nat) (g : Grant) (r : Reason), s.takesRequest .begins f n → s.station f.src = some e →
        s.matchedGrant n .begins (oxHeader f.payload).cls (oxHeader f.payload).idx = some (i, g) →
        max e.level (min (oxHeader f.payload).claimed 3) ≤ g.level → e.rights.write = true →
        (∃ m d, s.window? n = some (.opened m d)) → s.startChecks n f g.check = .error r →
        exec (.oxBegin f) s = .next ((s.refuse (some n) .begins f r).offer n .begins f (.refused r)))

/-- The operations that commands share, in plain data, for a defined controller: a frame forwarded (R144, R149), a
window state set, which ends the quiet run unless it is OPENING (R25), the counts of admitted writes and released
commits (R21, R58, R80), a commit held and released at its window (R35), and quarantine entry (R38). The order of the
notices of one step is the model's choice, L11. -/
def Obligations.SharedOperationsHaveTheirEffects : Prop :=
  ∀ (s : State) (n : Fin 32) (c : Controller), s.controller n = some c →
    (∀ f, s.forward .line f =
      if s.line.up = false then
        { s with device := { s.device with linkDiscarded := saturate32By 1 s.device.linkDiscarded } }
      else if s.line.forwarded.length < 256 then
        { s with line := s.line.placeForwarded f s.time }
      else { s with device := { s.device with forwardOverflow := saturate32 s.device.forwardOverflow } })
    ∧ (∀ f, s.forward .plant f =
      if s.plant.up = false then
        { s with device := { s.device with linkDiscarded := saturate32By 1 s.device.linkDiscarded } }
      else if s.plant.forwarded.length < 256 then
        { s with plant := s.plant.placeForwarded f s.time }
      else { s with device := { s.device with forwardOverflow := saturate32 s.device.forwardOverflow } })
    ∧ (∀ w, s.setWindow n w = { s with controllers := s.controllers.set n (some
        { c with window := w
                 monitor := if w.isOpening then c.monitor else { c.monitor with quiet := none } }) })
    ∧ s.countAdmitted n = { s with
        counters := s.counters.set n { s.count n with admitted := saturate32 (s.count n).admitted } }
    ∧ s.countReleased n = { s with
        counters := s.counters.set n { s.count n with released := saturate32 (s.count n).released } }
    ∧ (∀ m d k, c.window = .transfer m d k → s.commitHeld n = s.setWindow n (.verify m (some d) k none))
    ∧ (∀ m d k x, c.window = .verify m d k x → s.commitReleased n = s.setWindow n (.commitWait m d k x))
    ∧ ∀ cause,
      (∀ q, c.window = .quarantined q → s.enterQuarantine n cause = s)
      ∧ (∀ k, (∃ m d, c.window = .transfer m d k) ∨ (∃ m d x, c.window = .verify m d k x) →
        s.enterQuarantine n cause =
          ((s.abort k true (some .quarantine) none).setWindow n (.quarantined cause)).post
            { kind := .quarantined, time := s.time, controller := some n, reason := some (.quarantine cause) })
      ∧ (c.window = .locked ∨ (∃ m l d, c.window = .opening m l d) ∨ (∃ m d, c.window = .opened m d)
          ∨ (∃ m d k x, c.window = .commitWait m d k x) →
        s.enterQuarantine n cause = (s.setWindow n (.quarantined cause)).post
          { kind := .quarantined, time := s.time, controller := some n, reason := some (.quarantine cause) })

/-! ## Downloads -/

/-- Step 3 for SEGMENT, COMMIT and ABANDON: refused UNKNOWN_SOURCE, NO_TRANSFER, or QUARANTINE for a matching slot of
a controller in QUARANTINE; in any other window state handed over with the number of the live slot that has its
controller, requester and transfer id (R47, R48). That the REFUSED notice comes before the watch notices of its
request is the model's choice, L11. -/
def Obligations.DownloadRequestsNeedALiveTransfer : Prop :=
  ∀ (s : State) (o : Operation) (f : Frame) (n : Fin 32),
    o = .segment ∨ o = .commit ∨ o = .abandon → s.takesRequest o f n →
    (s.station f.src = none →
      exec (requestInstr o f) s = .next ((s.refuse (some n) o f .unknownSource).offer n o f (.refused .unknownSource)))
    ∧ (s.station f.src ≠ none →
      (∀ k x, (s.slot k).live = some x →
        x.controller ≠ n ∨ x.requester ≠ f.src ∨ x.tid ≠ (oxHeader f.payload).tid) →
      exec (requestInstr o f) s = .next ((s.refuse (some n) o f .noTransfer).offer n o f (.refused .noTransfer)))
    ∧ (∀ k x c, s.station f.src ≠ none → (s.slot k).live = some x → x.controller = n → x.requester = f.src →
      x.tid = (oxHeader f.payload).tid → s.window? n = some (.quarantined c) →
      exec (requestInstr o f) s = .next ((s.refuse (some n) o f .quarantine).offer n o f (.refused .quarantine)))
    ∧ (∀ k x, s.OwnersGood → s.station f.src ≠ none → (s.slot k).live = some x → x.controller = n →
      x.requester = f.src → x.tid = (oxHeader f.payload).tid → (∀ c, s.window? n ≠ some (.quarantined c)) →
      s.stepThree n f = .ok k)

/-- A SEGMENT handed to a slot (R73 to R76, R82, R85): accepted, too long, dropped for a full queue, retransmitted,
out of sequence, or refused in VERIFYING and RELEASED. The order of the notices of one step is the model's choice,
L11. -/
def Obligations.SegmentsAreSequenced : Prop :=
  ∀ (s : State) (f : Frame) (n : Fin 32) (k : Fin 8), s.takesRequest .segment f n → s.stepThree n f = .ok k →
    (∀ x sums pending q, s.slot k = .taking x sums pending q →
      ((oxHeader f.payload).number = q.expected →
        (x.declared < x.words + (oxHeader f.payload).words →
          exec (.oxSegment f) s = .next (((((s.refuse (some n) .segment f .length).abort k true (some .length)
            none).transferEnded n false)).offer n .segment f (.refused .length)))
        ∧ (x.words + (oxHeader f.payload).words ≤ x.declared →
          (16 ≤ s.segmentsHeld →
            exec (.oxSegment f) s = .next (State.offer
              { s with device := { s.device with segmentDrop := saturate32 s.device.segmentDrop } }
              n .segment f .dropped))
          ∧ (s.segmentsHeld < 16 →
            exec (.oxSegment f) s = .next ((((s.forward .line f).setSlot k (.taking
                { x with words := x.words + (oxHeader f.payload).words } sums (pending + 1)
                { q with
                  expected := ((oxHeader f.payload).number + 1) % 65536, last := some (oxHeader f.payload).number
                  idle := s.time + s.timing.seg * 1000 })).appendSegment
                { slot := k, number := (oxHeader f.payload).number, words := oxWords f.payload }).offer
              n .segment f .pass))))
      ∧ ((oxHeader f.payload).number ≠ q.expected →
        (q.last = some (oxHeader f.payload).number →
          exec (.oxSegment f) s = .next (((s.forward .line f).setSlot k (.taking x sums pending
            { q with idle := s.time + s.timing.seg * 1000 })).offer n .segment f .pass))
        ∧ (q.last ≠ some (oxHeader f.payload).number →
          exec (.oxSegment f) s = .next (((((s.refuse (some n) .segment f .sequence).abort k true (some .sequence)
            none).transferEnded n false)).offer n .segment f (.refused .sequence)))))
    ∧ ((∀ x sums pending q, s.slot k ≠ .taking x sums pending q) →
      exec (.oxSegment f) s = .next ((s.refuse (some n) .segment f .sequence).offer n .segment f (.refused .sequence)))

/-- A COMMIT handed to a slot (R78, R82, R85): held, completing at once with nothing pending; refused LENGTH; dropped
in VERIFYING; forwarded in RELEASED. A requester's ABANDON (R82, R85, R86): forwarded; before the release it also
aborts the slot without ABANDON and ends the transfer. The order of the notices of one step is the model's choice,
L11. -/
def Obligations.CommitsAndAbandonsReachTheirSlot : Prop :=
  (∀ (s : State) (f : Frame) (n : Fin 32) (k : Fin 8), s.takesRequest .commit f n → s.stepThree n f = .ok k →
    (∀ x sums pending q, s.slot k = .taking x sums pending q →
      (x.words = x.declared → (oxHeader f.payload).declared = x.declared →
        (pending ≠ 0 → exec (.oxCommit f) s =
          .next (((s.setSlot k (.verifying x sums pending f)).commitHeld n).offer n .commit f .held))
        ∧ (pending = 0 → exec (.oxCommit f) s =
          .next ((((s.setSlot k (.verifying x sums 0 f)).commitHeld n).completeVerifying k).offer n .commit f .held)))
      ∧ (x.words ≠ x.declared ∨ (oxHeader f.payload).declared ≠ x.declared →
        exec (.oxCommit f) s = .next ((((s.refuse (some n) .commit f .length).abort k true (some .length)
          none).transferEnded n false).offer n .commit f (.refused .length))))
    ∧ (∀ x sums pending held, s.slot k = .verifying x sums pending held →
        exec (.oxCommit f) s = .next (s.offer n .commit f .dropped))
    ∧ (∀ x d, s.slot k = .released x d → exec (.oxCommit f) s = .next ((s.forward .line f).offer n .commit f .pass)))
  ∧ (∀ (s : State) (f : Frame) (n : Fin 32) (k : Fin 8), s.takesRequest .abandon f n → s.stepThree n f = .ok k →
      (∀ x, (s.slot k).abortable = some x → exec (.oxAbandon f) s =
        .next ((((s.forward .line f).abort k false none none).transferEnded n false).offer n .abandon f .pass))
      ∧ (∀ x d, s.slot k = .released x d →
        exec (.oxAbandon f) s = .next ((s.forward .line f).offer n .abandon f .pass)))

/-- An abort of a slot (R87, R92): its waiting entries go, it becomes DRAINING when a lane holds one of its segments
and FREE otherwise, an ABANDON of its transfer is placed at the Line port when asked for, and not sent only when its
originate queue holds 9 frames, TRANSFER_ABORTED is posted. A slot that is RELEASED, DRAINING or FREE is not aborted.
-/
def Obligations.AbortHasItsEffects : Prop :=
  ∀ (s : State) (k : Fin 8) (withAbandon : Bool) (r : Option Reason) (v : Option Quad),
    ((s.slot k).abortable = none → s.abort k withAbandon r v = s)
    ∧ ∀ x, (s.slot k).abortable = some x → s.abort k withAbandon r v = State.post
      { s with
        waiting := s.waiting.filter (fun e => e.slot != k)
        slots := s.slots.set k (if s.laneHolds k then .draining else .free)
        line := if withAbandon = true ∧ s.line.originate.length < 9 then
            s.line.placeOriginated
              { kind := .abandon, frame := abandonFrame s.identity.station (s.addrOf x.controller) x } s.time
          else s.line
        device := { s.device with
          notSent := if withAbandon = true ∧ 9 ≤ s.line.originate.length then saturate32By 1 s.device.notSent
            else s.device.notSent } }
      { kind := .transferAborted, time := s.time, controller := some x.controller, station := some x.requester
        object := some (x.cls, x.idx), tid := some x.tid, reason := r.map .reason, first := v }

/-! ## Responses and deadlines of a transfer -/

/-- A BEGIN response matches the slot in BEGUN, a COMMIT response the one in RELEASED, whose controller is its
source's, whose requester is its destination, and whose transfer id it carries; there is none when no slot has all
three (R70). What a response does to the slot it matches (R71, R84): LOADING on OK and an abort without ABANDON on
any other status; a RELEASED slot is freed, with COMMIT_FAILED unless OK, and its window told of a commit completion.
Either way the response goes on to the Plant port. The order of the notices of one step, and that the frame is placed
after them, are the model's choices, L11 and L27. -/
def Obligations.ControllerResponsesReachTheirSlot : Prop :=
  (∀ (s : State) (n : Fin 32) (f : Frame),
    (∀ k, s.beginSlot n f = some k → ∃ x sums pending q, s.slot k = .taking x sums pending q ∧ q.answer ≠ none
      ∧ x.controller = n ∧ x.requester = f.dst ∧ x.tid = (oxHeader f.payload).tid)
    ∧ (s.beginSlot n f = none → ∀ k x sums pending q, s.slot k = .taking x sums pending q → q.answer ≠ none →
      x.controller = n → x.requester = f.dst → x.tid ≠ (oxHeader f.payload).tid)
    ∧ (∀ k, s.commitSlot n f = some k → ∃ x d, s.slot k = .released x d
      ∧ x.controller = n ∧ x.requester = f.dst ∧ x.tid = (oxHeader f.payload).tid)
    ∧ (s.commitSlot n f = none → ∀ k x d, s.slot k = .released x d →
      x.controller = n → x.requester = f.dst → x.tid ≠ (oxHeader f.payload).tid)
    ∧ (s.OwnersGood →
      (∀ k x sums pending q, s.slot k = .taking x sums pending q → q.answer ≠ none → x.controller = n →
        x.requester = f.dst → x.tid = (oxHeader f.payload).tid → s.beginSlot n f = some k)
      ∧ ∀ k x d, s.slot k = .released x d → x.controller = n → x.requester = f.dst →
        x.tid = (oxHeader f.payload).tid → s.commitSlot n f = some k))
  ∧ ∀ (s : State) (f : Frame) (n : Fin 32) (k : Fin 8), s.protectedBy f.src = some n →
    (∀ x sums pending q, s.rowOf .line f = .beginResponse → s.beginSlot n f = some k →
      s.slot k = .taking x sums pending q →
      ((oxHeader f.payload).status = 0 → exec (.beginResponse f) s =
        .next ((s.setSlot k (.taking x sums pending { q with answer := none })).forward .plant f))
      ∧ ((oxHeader f.payload).status ≠ 0 → exec (.beginResponse f) s =
        .next (((s.abort k false none (some (BitVec.ofNat 32 (oxHeader f.payload).status))).transferEnded n false).forward
          .plant f)))
    ∧ (∀ x d, s.rowOf .line f = .commitResponse → s.commitSlot n f = some k → s.slot k = .released x d →
      ((oxHeader f.payload).status = 0 → exec (.commitResponse f) s =
        .next (((s.setSlot k .free).transferEnded x.controller true).forward .plant f))
      ∧ ((oxHeader f.payload).status ≠ 0 → exec (.commitResponse f) s =
        .next ((((s.setSlot k .free).post
          { kind := .commitFailed, time := s.time, controller := some x.controller, station := some x.requester
            object := some (x.cls, x.idx), tid := some x.tid
            first := some (BitVec.ofNat 32 (oxHeader f.payload).status) }).transferEnded x.controller true).forward
          .plant f)))

/-- A slot's idle deadline and the deadline for the answer to its BEGIN abort it with ABANDON and TIMEOUT, once
reached (R72, R77); the response deadline of a RELEASED slot frees it with COMMIT_UNCONFIRMED (R84). The order of the
notices of one step is the model's choice, L11. -/
def Obligations.SlotDeadlinesEndTheirTransfer : Prop :=
  ∀ (s : State) (k : Fin 8), s.powered = true →
    (∀ x sums pending q, s.slot k = .taking x sums pending q →
      (q.idle ≤ s.time → exec (.idleDeadline k) s =
        .next ((s.abort k true (some .timeout) none).transferEnded x.controller false))
      ∧ (∀ d, q.answer = some d → d ≤ s.time → exec (.beginResponseDeadline k) s =
        .next ((s.abort k true (some .timeout) none).transferEnded x.controller false)))
    ∧ (∀ x d, s.slot k = .released x d → d ≤ s.time → exec (.commitResponseDeadline k) s =
      .next (((s.setSlot k .free).post
        { kind := .commitUnconfirmed, time := s.time, controller := some x.controller, station := some x.requester
          object := some (x.cls, x.idx), tid := some x.tid }).transferEnded x.controller true))

/-- How a window goes on when its transfer has ended (R34, R36): LOCKED with close-pending, LOCKED after the
completed commit of a SINGLE window, else back to OPEN with its mode and deadline; in any other state nothing
changes. The third mismatch of a window quarantines its controller; a mismatch before it is a non-commit ending (R37,
R115). -/
def Obligations.TransfersEndAtTheWindow : Prop :=
  (∀ (s : State) (n : Fin 32) (completion : Bool),
    (∀ m d k, s.window? n = some (.transfer m d k) → s.transferEnded n completion =
      if completion = true ∧ m = .single then (s.setWindow n .locked).post
        { kind := .windowClosed, time := s.time, controller := some n, reason := some (.window .singleDone) }
      else s.setWindow n (.opened m d))
    ∧ (∀ m d k c, s.window? n = some (.verify m d k c) ∨ s.window? n = some (.commitWait m d k c) →
      (c = some .runAfterCommit → s.transferEnded n completion = s.setWindow n .locked)
      ∧ (c = some .command → s.transferEnded n completion = (s.setWindow n .locked).post
          { kind := .windowClosed, time := s.time, controller := some n, reason := some (.window .command) })
      ∧ (c = some .expired → s.transferEnded n completion = (s.setWindow n .locked).post
          { kind := .windowClosed, time := s.time, controller := some n, reason := some (.window .expired) })
      ∧ (∀ e, c = none → d = some e → s.transferEnded n completion =
          if completion = true ∧ m = .single then (s.setWindow n .locked).post
            { kind := .windowClosed, time := s.time, controller := some n, reason := some (.window .singleDone) }
          else s.setWindow n (.opened m e)))
    ∧ (s.window? n = none ∨ s.window? n = some .locked ∨ (∃ c, s.window? n = some (.quarantined c))
        ∨ (∃ m l d, s.window? n = some (.opening m l d)) ∨ (∃ m d, s.window? n = some (.opened m d)) →
      s.transferEnded n completion = s))
  ∧ (∀ (s : State) (n : Fin 32) (c : Controller) (m : WindowMode) (d : Option Nat) (k : Fin 8) (p : Option CloseCause),
      s.controller n = some c → c.window = .verify m d k p → (s.slot k).abortable = none →
      (c.mismatches = 2 → s.reportMismatch n = State.post
        { s with
          counters := s.counters.set n { s.count n with mismatches := saturate32 (s.count n).mismatches }
          controllers := s.controllers.set n (some
            { c with window := .quarantined .mismatchLimit, mismatches := 3, monitor := { c.monitor with quiet := none } }) }
        { kind := .quarantined, time := s.time, controller := some n, reason := some (.quarantine .mismatchLimit) })
      ∧ (c.mismatches < 2 → s.reportMismatch n = State.transferEnded
        { s with
          counters := s.counters.set n { s.count n with mismatches := saturate32 (s.count n).mismatches }
          controllers := s.controllers.set n (some { c with mismatches := c.mismatches + 1 }) } n false))

/-! ## Fingerprints and the image decision -/

/-- A lane finishes (R101, R102): it becomes idle; the values of the words it took are written back and pending falls
by one, a VERIFYING slot with nothing left pending completing in the same step; a DRAINING slot becomes FREE and the
values are discarded; the lane is then given its next entry. -/
def Obligations.LaneFinishReachesItsSlot : Prop :=
  ∀ (s : State) (l : Fin 2) (w : LaneWork), s.powered = true → s.lane l = some w →
    (∀ x sums pending q, s.slot w.entry.slot = .taking x sums pending q → exec (.laneFinish l) s =
      .next (((s.setLane l none).setSlot w.entry.slot
        (.taking x (w.entry.words.foldl Sums.take w.sums) (pending - 1) q)).giveNext l))
    ∧ (∀ x sums pending held, s.slot w.entry.slot = .verifying x sums pending held →
      (pending = 1 → exec (.laneFinish l) s =
        .next ((((s.setLane l none).setSlot w.entry.slot
          (.verifying x (w.entry.words.foldl Sums.take w.sums) 0 held)).completeVerifying w.entry.slot).giveNext l))
      ∧ (2 ≤ pending → exec (.laneFinish l) s =
        .next (((s.setLane l none).setSlot w.entry.slot
          (.verifying x (w.entry.words.foldl Sums.take w.sums) (pending - 1) held)).giveNext l)))
    ∧ (s.slot w.entry.slot = .draining → exec (.laneFinish l) s =
      .next (((s.setLane l none).setSlot w.entry.slot .free).giveNext l))

/-- A new segment's entry is taken at once by an idle lane, lane 0 of two, unless the other lane holds a segment of
its slot; else it waits behind the others (R99). The arbiter gives an idle lane the oldest waiting entry whose slot
has no segment in a lane, with the slot's accumulators and position as they stand; with no such entry the lane stays
idle (R100, R103). -/
def Obligations.ArbiterGivesOldestEligibleEntry : Prop :=
  ∀ (s : State) (l : Fin 2),
    (∀ e : SegmentEntry,
      ((s.lane 0 ≠ none ∧ s.lane 1 ≠ none) ∨ s.laneHolds e.slot = true →
        s.appendSegment e = { s with waiting := s.waiting ++ [e] })
      ∧ (s.laneHolds e.slot = false → s.lane l = none → (∀ j < l, s.lane j ≠ none) → s.appendSegment e =
        { s with lanes := s.lanes.set l (some { entry := e, sums := (s.slot e.slot).sums }) }))
    ∧ ((∀ e ∈ s.waiting, s.laneHolds e.slot = true) → s.giveNext l = s)
    ∧ ∀ (older newer : List SegmentEntry) (e : SegmentEntry), s.waiting = older ++ e :: newer →
      (∀ a ∈ older, s.laneHolds a.slot = true) → s.laneHolds e.slot = false →
      s.giveNext l = { s with
        waiting := older ++ newer, lanes := s.lanes.set l (some { entry := e, sums := (s.slot e.slot).sums }) }

/-- The image decision at the completion of VERIFYING (R111 to R113): none under NONE; a compare with the key's
APPROVED record under REQUIRED and LEARN; under LEARN without one, the key's CANDIDATE is replaced or the lowest
empty position learns, or the table is full. -/
def Obligations.ImageDecisionFollowsTheTable : Prop :=
  ∀ (s : State) (x : Transfer) (n : Nat) (F : Quad),
    (x.check = .none → s.decideImage x n F = (s, .release))
    ∧ (x.check ≠ .none → ∀ r, s.approved x.controller x.cls x.idx = some r →
      (n = r.length → F = r.fingerprint → s.decideImage x n F = (s, .release))
      ∧ (n ≠ r.length ∨ F ≠ r.fingerprint → s.decideImage x n F = (s.post
          { kind := .imageMismatch, time := s.time, controller := some x.controller, station := some x.requester
            object := some (x.cls, x.idx), tid := some x.tid
            reason := some (.reason (if n = r.length then .mismatch else .length))
            first := some r.fingerprint, second := some F }, .mismatch)))
    ∧ (x.check = .learn → s.approved x.controller x.cls x.idx = none →
      (∀ (i : Nat) (r : ImageRecord), s.active.images[i]? = some (some r) →
        r.key = (x.controller, x.cls, x.idx) → r.isApproved = false →
        (∀ j < i, ∀ o, s.active.images[j]? = some (some o) →
          o.key = (x.controller, x.cls, x.idx) → o.isApproved = true) →
        s.decideImage x n F = ((s.setImage i (some
            { controller := x.controller, cls := x.cls, idx := x.idx, length := n, fingerprint := F
              status := .candidate s.time })).post
          { kind := .imageLearned, time := s.time, controller := some x.controller, station := some x.requester
            object := some (x.cls, x.idx), tid := some x.tid, first := some F, second := some (BitVec.ofNat 32 n) },
          .release))
      ∧ ((∀ r ∈ records s.active.images, r.key ≠ (x.controller, x.cls, x.idx)) →
        (∀ i : Nat, s.active.images[i]? = some none → (∀ j < i, s.active.images[j]? ≠ some none) →
          s.decideImage x n F = ((s.setImage i (some
              { controller := x.controller, cls := x.cls, idx := x.idx, length := n, fingerprint := F
                status := .candidate s.time })).post
            { kind := .imageLearned, time := s.time, controller := some x.controller, station := some x.requester
              object := some (x.cls, x.idx), tid := some x.tid, first := some F, second := some (BitVec.ofNat 32 n) },
            .release))
        ∧ ((∀ i : Nat, s.active.images[i]? ≠ some none) → s.decideImage x n F = (s, .imageFull))))

/-- What the Tracker does with the decision (R79 to R81, R107): the commit is released, or refused and the slot
aborted with the same reason, the window told of a mismatch or of a non-commit ending. -/
def Obligations.CompletionFollowsTheImageDecision : Prop :=
  ∀ (s s' : State) (k : Fin 8) (x : Transfer) (sums : Sums) (held : Frame), s.slot k = .verifying x sums 0 held →
    (s.decideImage x sums.i (fingerprint sums sums.i) = (s', .release) → s.completeVerifying k =
      (((((s'.forward .line held).setSlot k (.released x (s.time + s.timing.resp * 1000))).commitReleased
        x.controller).countReleased x.controller).post
        { kind := .commitReleased, time := s.time, controller := some x.controller, station := some x.requester
          object := some (x.cls, x.idx), tid := some x.tid
          first := some (fingerprint sums sums.i), second := some (BitVec.ofNat 32 x.words) }))
    ∧ (s.decideImage x sums.i (fingerprint sums sums.i) = (s', .mismatch) → s.completeVerifying k =
      ((s'.refuse (some x.controller) .commit held .mismatch).abort k true (some .mismatch) none).reportMismatch
        x.controller)
    ∧ (s.decideImage x sums.i (fingerprint sums sums.i) = (s', .imageFull) → s.completeVerifying k =
      ((s'.refuse (some x.controller) .commit held .imageFull).abort k true (some .imageFull) none).transferEnded
        x.controller false)

/-- The fingerprint is formed from A, B and n in four stages, on unsigned integers, and carried with its upper half
first (R95). -/
def Obligations.FingerprintIsFoldedFromAccumulators : Prop :=
  ∀ (x : Sums) (n : Nat),
    (fingerprint x n).toNat =
      ((x.b.toNat % 65536 + x.b.toNat / 65536) % 65536) * 65536
        + ((x.a.toNat % 65536 + x.a.toNat / 65536) % 65536 + n % 65536) % 65536
    ∧ bytesOf 4 (fingerprint x n).toNat =
        bytesOf 2 ((x.b.toNat % 65536 + x.b.toNat / 65536) % 65536)
          ++ bytesOf 2 (((x.a.toNat % 65536 + x.a.toNat / 65536) % 65536 + n % 65536) % 65536)

/-- Each word is taken in one step, with weight (i mod 64) + 1. The accumulators and the position after any words,
from their start, however the words are divided into segments (R93, R96): the position counts the words, A is their
sum and B their weighted sum, modulo 2^32. -/
def Obligations.AccumulatorsDependOnTheWordsAlone : Prop :=
  (∀ (x : Sums) (w : Word),
    (x.take w).a.toNat = (x.a.toNat + w.toNat) % 4294967296
    ∧ (x.take w).b.toNat = (x.b.toNat + (x.i % 64 + 1) * w.toNat) % 4294967296
    ∧ (x.take w).i = x.i + 1)
  ∧ ∀ segments : List (List Word),
    (segments.foldl Sums.takeAll { a := 0#32, b := 0#32, i := 0 }).i = segments.flatten.length
    ∧ (segments.foldl Sums.takeAll { a := 0#32, b := 0#32, i := 0 }).a.toNat =
        (segments.flatten.map BitVec.toNat).sum % 4294967296
    ∧ (segments.foldl Sums.takeAll { a := 0#32, b := 0#32, i := 0 }).b.toNat =
        (segments.flatten.zipIdx.map (fun x => (x.2 % 64 + 1) * x.1.toNat)).sum % 4294967296

/-! ## Windows -/

/-- A counting cyclic frame and the stale deadline each make one observation, set the stale deadline anew and deliver
the observation to the window; a frame too short to count changes none of the Monitor's fields. The frame goes on to
the Plant port (R9, R23, R24). That it is placed after the notices of its step is the model's choice, L27. -/
def Obligations.CyclicFramesAndStaleDeadlinesObserve : Prop :=
  ∀ (s : State) (n : Fin 32) (c : Controller) (d : ControllerDef), s.controller n = some c →
    s.definition n = some d →
    (∀ f, s.rowOf .line f = .cyclicStatus → s.protectedBy f.src = some n →
      (f.payload.length ≤ d.statusOffset → exec (.cyclicStatusFrame f) s = .next (s.forward .plant f))
      ∧ (∀ b, f.payload[d.statusOffset]? = some b → exec (.cyclicStatusFrame f) s =
        .next (((s.setController n (some { c with monitor := { c.monitor with
            observed := if b ∈ d.quietSet then .quiet else .running, lastFrame := some s.time
            stale := s.time + s.timing.stale * 1000 } })).observe n
          (if b ∈ d.quietSet then .quiet else .running)).forward .plant f)))
    ∧ (s.powered = true → c.monitor.stale ≤ s.time → exec (.staleDeadline n) s =
      .next ((s.setController n (some { c with monitor := { c.monitor with
          observed := .stale, stale := s.time + s.timing.stale * 1000 } })).observe n .stale))

/-- What an observation does to a window (R25, R28, R30, R31). The order of the notices of one step is the model's
choice, L11. -/
def Obligations.ObservationsMoveTheWindow : Prop :=
  ∀ (s : State) (n : Fin 32) (c : Controller), s.controller n = some c → 0 < s.timing.settle →
    (c.window = .locked ∨ (∃ q, c.window = .quarantined q) → ∀ o, s.observe n o = s)
    ∧ (∀ m l d, c.window = .opening m l d →
      (c.monitor.quiet = none → s.observe n .quiet = s.setController n (some { c with monitor := { c.monitor with
        quiet := some { since := s.time, settle := s.time + s.timing.settle * 1000 } } }))
      ∧ (∀ q, c.monitor.quiet = some q → s.time - q.since < s.timing.settle * 1000 → s.observe n .quiet = s)
      ∧ (∀ q, c.monitor.quiet = some q → s.timing.settle * 1000 ≤ s.time - q.since →
        s.observe n .quiet = (s.setController n (some
            { c with window := .opened m (s.time + l * 1000000), mismatches := 0
                     monitor := { c.monitor with quiet := none } })).post
          { kind := .windowOpened, time := s.time, controller := some n, reason := some (.mode m)
            first := some (upperHalf (s.time + l * 1000000)), second := some (lowerHalf (s.time + l * 1000000)) })
      ∧ (∀ o, o = .running ∨ o = .stale → s.observe n o =
        s.setController n (some { c with monitor := { c.monitor with quiet := none } })))
    ∧ (∀ o cause, (o = .running ∧ cause = .running) ∨ (o = .stale ∧ cause = .stale) →
      (∀ m d, c.window = .opened m d → s.observe n .quiet = s
        ∧ s.observe n o = (s.setWindow n .locked).post
          { kind := .windowClosed, time := s.time, controller := some n, reason := some (.window cause) })
      ∧ (∀ m k, (∃ d, c.window = .transfer m d k) ∨ (∃ d p, c.window = .verify m d k p) → s.observe n .quiet = s
        ∧ s.observe n o = ((s.abort k true (some .locked) none).setWindow n .locked).post
          { kind := .windowClosed, time := s.time, controller := some n, reason := some (.window cause) })
      ∧ (∀ m d k p, c.window = .commitWait m d k p → s.observe n .quiet = s
        ∧ (p = some .runAfterCommit → s.observe n o = s)
        ∧ (p ≠ some .runAfterCommit → s.observe n o = (s.setWindow n (.commitWait m d k (some .runAfterCommit))).post
          { kind := .windowClosed, time := s.time, controller := some n
            reason := some (.window .runAfterCommit) })))

/-- The settle, opening and window deadlines of a controller, once reached (R28, R29, R33). The order of the notices
of one step is the model's choice, L11. -/
def Obligations.WindowDeadlinesTakeEffect : Prop :=
  ∀ (s : State) (n : Fin 32) (c : Controller), s.powered = true → s.controller n = some c →
    (∀ m l d, c.window = .opening m l d →
      (∀ q, c.monitor.quiet = some q → q.settle ≤ s.time →
        (s.timing.settle * 1000 ≤ s.time - q.since → exec (.settleDeadline n) s =
          .next ((s.setController n (some
              { c with window := .opened m (s.time + l * 1000000), mismatches := 0
                       monitor := { c.monitor with quiet := none } })).post
            { kind := .windowOpened, time := s.time, controller := some n, reason := some (.mode m)
              first := some (upperHalf (s.time + l * 1000000)), second := some (lowerHalf (s.time + l * 1000000)) }))
        ∧ (s.time - q.since < s.timing.settle * 1000 → exec (.settleDeadline n) s =
          .next (s.setController n (some { c with monitor := { c.monitor with
            quiet := some { since := q.since, settle := q.since + s.timing.settle * 1000 } } }))))
      ∧ (d ≤ s.time → exec (.openingDeadline n) s =
        .next ((s.setController n (some { c with window := .locked, monitor := { c.monitor with quiet := none } })).post
          { kind := .windowFailed, time := s.time, controller := some n, reason := some (.window .notQuiet) })))
    ∧ (∀ m d, c.window = .opened m d → d ≤ s.time → exec (.windowDeadline n) s =
      .next ((s.setWindow n .locked).post
        { kind := .windowClosed, time := s.time, controller := some n, reason := some (.window .expired) }))
    ∧ (∀ m d k, c.window = .transfer m d k → d ≤ s.time → exec (.windowDeadline n) s =
      .next (((s.abort k true (some .locked) none).setWindow n .locked).post
        { kind := .windowClosed, time := s.time, controller := some n, reason := some (.window .expired) }))
    ∧ (∀ m d k p, c.window = .verify m (some d) k p → d ≤ s.time → exec (.windowDeadline n) s =
      .next (s.setWindow n (.verify m none k (if p = none then some .expired else p))))
    ∧ (∀ m d k p, c.window = .commitWait m (some d) k p → d ≤ s.time → exec (.windowDeadline n) s =
      .next (s.setWindow n (.commitWait m none k (if p = none then some .expired else p))))

/-! ## Drift scanning -/

/-- A next-due that expires while the scanner is idle (R121 to R124, R129): a round begins for a LOCKED controller
with the Line link up and asks about its APPROVED record at the lowest position; without such a record it completes
at once; in any other state, or with the link down, it is postponed by 60 s, and the eighth postponement of an
episode posts SCAN_OVERDUE. Here the controller is the lowest-numbered due one. After a postponement, or a round that
completes at once, the check goes on with the lowest-numbered of the controllers still due; with none it ends. A
next-due of a controller that is not scanned expires without effect, the model's reading of R121, L24. -/
def Obligations.ScanRoundBeginsOrIsPostponed : Prop :=
  (∀ (s : State) (m : Fin 32) (d : ControllerDef), s.definition m = some d → d.scanInterval = 0 →
    exec (.nextDueExpiry m) s = .next s)
  ∧ (∀ (s : State) (n m : Fin 32) (c : Controller) (d : ControllerDef), s.powered = true → s.round = none →
    s.scanDue m = true → s.controller n = some c → s.definition n = some d → d.scanInterval ≠ 0 →
    c.schedule.nextDue ≤ s.time → (∀ j < n, s.scanDue j = false) →
    (c.window = .locked → s.line.up = true →
      (∀ r ∈ records s.active.images, r.controller = n → r.isApproved = false) →
      exec (.nextDueExpiry m) s = .next (s.setController n (some { c with schedule :=
        { nextDue := s.time + d.scanInterval * 1000000, postponed := 0, overdue := false } })).scheduleCheck)
    ∧ (c.window ≠ .locked ∨ s.line.up = false →
      exec (.nextDueExpiry m) s = .next (s.postponeScan n).scheduleCheck))
  ∧ ∀ (s : State) (n : Fin 32) (c : Controller) (d : ControllerDef), s.powered = true → s.round = none →
    s.controller n = some c → s.definition n = some d → d.scanInterval ≠ 0 → c.schedule.nextDue ≤ s.time →
    (∀ m < n, s.scanDue m = false) →
    (∀ (i : Nat) (r : ImageRecord), c.window = .locked → s.line.up = true →
      s.active.images[i]? = some (some r) → r.controller = n → r.isApproved = true →
      (∀ j < i, ∀ o, s.active.images[j]? = some (some o) → o.controller = n → o.isApproved = false) →
      ∃ t, exec (.nextDueExpiry n) s = .next t
        ∧ t.round = some { controller := n, start := s.time, position := i, attempt := 1
                           tag := (s.tagCounter + 1) % 65536, deadline := s.time + s.timing.resp * 1000 }
        ∧ t.tagCounter = (s.tagCounter + 1) % 65536 ∧ t.controllers = s.controllers ∧ t.notices = s.notices
        ∧ ((s.line.originate.filter (fun o => !o.isSummary)).length < 9 → t.line = PortState.placeOriginated
            { s.line with
              originate := s.line.originate.filter (fun o => !o.isSummary)
              turns := if (s.line.originate.head?).any OrigFrame.isSummary then 0 else s.line.turns }
            { kind := .summary, frame := summaryFrame s.identity.station d.addr ((s.tagCounter + 1) % 65536) r }
            s.time))
    ∧ (c.window = .locked → s.line.up = true → (∀ m, n < m → s.scanDue m = false) →
      (∀ r ∈ records s.active.images, r.controller = n → r.isApproved = false) →
      exec (.nextDueExpiry n) s = .next (s.setController n (some { c with schedule :=
        { nextDue := s.time + d.scanInterval * 1000000, postponed := 0, overdue := false } })))
    ∧ (c.window ≠ .locked ∨ s.line.up = false → (∀ m, n < m → s.scanDue m = false) →
      (c.schedule.postponed < 7 ∨ (c.schedule.postponed ≤ 8 ∧ c.schedule.overdue = true) →
        exec (.nextDueExpiry n) s = .next (s.setController n (some { c with schedule :=
          { nextDue := s.time + 60000000, postponed := min 8 (c.schedule.postponed + 1)
            overdue := c.schedule.overdue } })))
      ∧ ((c.schedule.postponed = 7 ∨ c.schedule.postponed = 8) → c.schedule.overdue = false →
        exec (.nextDueExpiry n) s = .next ((s.setController n (some { c with schedule :=
          { nextDue := s.time + 60000000, postponed := 8, overdue := true } })).post
          { kind := .scanOverdue, time := s.time, controller := some n
            first := some (upperHalf (s.time + 60000000)), second := some (lowerHalf (s.time + 60000000)) })))

/-- The operations of the scanner on a defined controller, in plain data: a SUMMARY sent for a record, in place of
one that still waits (R124); the end of a round (R129); the cancelling of one, which counts a postponement (R122,
R130); and a schedule check, which does nothing while a round is in flight or no controller is due (R121). -/
def Obligations.ScannerOperationsHaveTheirEffects : Prop :=
  ∀ (s : State) (n : Fin 32) (c : Controller) (d : ControllerDef), s.controller n = some c → s.definition n = some d →
    (∀ start position attempt i, (s.line.originate.filter (fun o => !o.isSummary)).length < 9 →
      s.sendSummary n start position attempt i = { s with
        tagCounter := (s.tagCounter + 1) % 65536
        round := some { controller := n, start := start, position := position, attempt := attempt
                        tag := (s.tagCounter + 1) % 65536, deadline := s.time + s.timing.resp * 1000 }
        line := PortState.placeOriginated
          { s.line with
            originate := s.line.originate.filter (fun o => !o.isSummary)
            turns := if (s.line.originate.head?).any OrigFrame.isSummary then 0 else s.line.turns }
          { kind := .summary, frame := summaryFrame s.identity.station d.addr ((s.tagCounter + 1) % 65536) i }
          s.time })
    ∧ (∀ start, s.endRound n start true = { s with
        round := none
        controllers := s.controllers.set n (some { c with schedule :=
          { nextDue := start + d.scanInterval * 1000000, postponed := 0, overdue := false } }) })
    ∧ (∀ start, s.endRound n start false = { s with
        round := none
        controllers := s.controllers.set n (some { c with schedule :=
          { c.schedule with nextDue := start + d.scanInterval * 1000000 } }) })
    ∧ (∀ r, s.round = some r →
      (r.controller = n → s.cancelRoundOf n = (State.postponeScan { s with
          round := none
          line := { s.line with
            originate := s.line.originate.filter (fun o => !o.isSummary)
            turns := if (s.line.originate.head?).any OrigFrame.isSummary then 0 else s.line.turns } } n).scheduleCheck)
      ∧ (r.controller ≠ n → s.cancelRoundOf n = s))
    ∧ (c.schedule.postponed < 7 ∨ (c.schedule.postponed ≤ 8 ∧ c.schedule.overdue = true) →
      s.postponeScan n = { s with controllers := s.controllers.set n (some { c with schedule :=
        { nextDue := s.time + 60000000, postponed := min 8 (c.schedule.postponed + 1)
          overdue := c.schedule.overdue } }) })
    ∧ (s.round = none → s.cancelRoundOf n = s)
    ∧ (s.round ≠ none → s.scheduleCheck = s)
    ∧ ((∀ m, s.scanDue m = false) → s.scheduleCheck = s)

/-- The record a round goes on to: the APPROVED record of its controller at the lowest position from a given one on,
and none when there is none (R123). The scan round's response deadline (R128), a SUMMARY response (R125 to R128, with
the pair comparison of R97) and an ABANDON response (R89). That the schedule check after a drift comes once the
controller is in QUARANTINE is the model's reading of R127, L16. -/
def Obligations.AnswersToTheFilterAreJudged : Prop :=
  (∀ (s : State) (n : Fin 32) (lowest : Nat),
    (∀ i r, s.approvedFrom n lowest = some (i, r) ↔
      lowest ≤ i ∧ s.active.images[i]? = some (some r) ∧ r.controller = n ∧ r.status = .approved
        ∧ ∀ j, lowest ≤ j → j < i → ∀ x, s.active.images[j]? = some (some x) → x.controller = n → x.status ≠ .approved)
    ∧ (s.approvedFrom n lowest = none ↔
      ∀ (j : Nat) (x : ImageRecord), lowest ≤ j → s.active.images[j]? = some (some x) → x.controller = n →
        x.status ≠ .approved))
  ∧ ∀ (s : State) (f : Frame),
    exec (.abandonResponse f) s = .next s
    ∧ (∀ r i, s.powered = true → s.round = some r → s.active.images[r.position]? = some (some i) → r.deadline ≤ s.time →
      (r.attempt = 1 → exec .scanResponseDeadline s =
        .next (s.sendSummary r.controller r.start r.position 2 i))
      ∧ (r.attempt ≠ 1 → exec .scanResponseDeadline s =
        .next (((s.post
          { kind := .scanNoResponse, time := s.time, controller := some r.controller, object := some (i.cls, i.idx)
            reason := some (.reason .timeout) }).endRound r.controller r.start false).scheduleCheck)))
    ∧ (s.rowOf .line f = .summaryResponse →
      (s.round = none → exec (.summaryResponse f) s = .next s)
      ∧ ∀ r i, s.round = some r → s.active.images[r.position]? = some (some i) →
        (s.protectedBy f.src ≠ some r.controller ∨ (oxHeader f.payload).tag ≠ r.tag ∨ (oxHeader f.payload).cls ≠ i.cls
            ∨ (oxHeader f.payload).idx ≠ i.idx →
          exec (.summaryResponse f) s = .next s)
        ∧ (s.protectedBy f.src = some r.controller → (oxHeader f.payload).tag = r.tag →
          (oxHeader f.payload).cls = i.cls → (oxHeader f.payload).idx = i.idx →
          ((oxHeader f.payload).status = 0 → reportedLength f.payload = i.length →
              reportedFingerprint f.payload = i.fingerprint →
            (∀ j x, s.approvedFrom r.controller (r.position + 1) = some (j, x) →
              exec (.summaryResponse f) s = .next (s.sendSummary r.controller r.start j 1 x))
            ∧ (s.approvedFrom r.controller (r.position + 1) = none →
              exec (.summaryResponse f) s = .next (s.endRound r.controller r.start true).scheduleCheck))
          ∧ ((oxHeader f.payload).status = 0 → reportedLength f.payload ≠ i.length →
            exec (.summaryResponse f) s = .next ((((s.post
              { kind := .drift, time := s.time, controller := some r.controller, object := some (i.cls, i.idx)
                reason := some (.reason .length), first := some (BitVec.ofNat 32 i.length)
                second := some (BitVec.ofNat 32 (reportedLength f.payload)) }).endRound r.controller r.start
              false).enterQuarantine r.controller .drift).scheduleCheck))
          ∧ ((oxHeader f.payload).status = 0 → reportedLength f.payload = i.length →
              reportedFingerprint f.payload ≠ i.fingerprint →
            exec (.summaryResponse f) s = .next ((((s.post
              { kind := .drift, time := s.time, controller := some r.controller, object := some (i.cls, i.idx)
                reason := some (.reason .mismatch), first := some i.fingerprint
                second := some (reportedFingerprint f.payload) }).endRound r.controller r.start
              false).enterQuarantine r.controller .drift).scheduleCheck))
          ∧ ((oxHeader f.payload).status = 2 →
            exec (.summaryResponse f) s = .next ((((s.post
              { kind := .drift, time := s.time, controller := some r.controller, object := some (i.cls, i.idx)
                first := some (BitVec.ofNat 32 i.length), second := some i.fingerprint }).endRound r.controller r.start
              false).enterQuarantine r.controller .drift).scheduleCheck))
          ∧ ((oxHeader f.payload).status ≠ 0 → (oxHeader f.payload).status ≠ 2 →
            (r.attempt = 1 → exec (.summaryResponse f) s =
              .next (s.sendSummary r.controller r.start r.position 2 i))
            ∧ (r.attempt ≠ 1 → exec (.summaryResponse f) s =
              .next (((s.post
                { kind := .scanNoResponse, time := s.time, controller := some r.controller
                  object := some (i.cls, i.idx)
                  first := some (BitVec.ofNat 32 (oxHeader f.payload).status) }).endRound r.controller r.start
                false).scheduleCheck)))))

/-! ## Notices and watches -/

/-- Where a posted notice goes (R139 to R141): nowhere without a destination; with a free place in the Plant
originate queue straight on through the Notice Queue, with the dropped count, which becomes 0; with none, behind the
last watch notice, or at the tail, while there is a place; at a full queue a watch notice displaces the newest
routine notice, and any other is lost; each lost notice raises the dropped count to at most 255. -/
def Obligations.PostedNoticeIsPlacedOrLost : Prop :=
  ∀ (s : State) (x : Notice), s.NoticesGood →
    (s.destination = 0#48 → s.post x = s)
    ∧ (s.destination ≠ 0#48 → s.plant.originate.length < 8 →
      s.post x = { s with
        dropped := 0
        plant := s.plant.placeOriginated
          { kind := .notice s.dropped, frame := noticeFrame s.identity.station s.destination x s.dropped } s.time })
    ∧ (s.destination ≠ 0#48 → 8 ≤ s.plant.originate.length → s.notices.length < 32 →
      s.post x = { s with notices :=
        if x.kind = .watchHit then
          s.notices.filter (fun a => a.kind = .watchHit) ++ x :: s.notices.filter (fun a => a.kind ≠ .watchHit)
        else s.notices ++ [x] })
    ∧ (s.destination ≠ 0#48 → 8 ≤ s.plant.originate.length → s.notices.length = 32 →
      (x.kind = .watchHit → (∃ a ∈ s.notices, a.kind ≠ .watchHit) →
        ∃ kept newest, s.notices = kept ++ [newest] ∧ newest.kind ≠ .watchHit
          ∧ s.post x = { s with
            notices := kept.filter (fun a => a.kind = .watchHit) ++ x :: kept.filter (fun a => a.kind ≠ .watchHit)
            dropped := min 255 (s.dropped + 1) })
      ∧ (x.kind ≠ .watchHit ∨ (∀ a ∈ s.notices, a.kind = .watchHit) →
        s.post x = { s with dropped := min 255 (s.dropped + 1) }))

/-- A request offered to the Watch Unit (R136): every armed watch that it hits posts its own notice, in ascending
watch number, and is disarmed unless it repeats; the outcome takes no part in the match. Behind a full Plant
originate queue, with a place for each in the Notice Queue, the notices stand there in that order, behind the watch
notices before them (R139). -/
def Obligations.WatchesHitInAscendingOrder : Prop :=
  ∀ (s : State) (n : Fin 32) (o : Operation) (f : Frame) (e : Ending),
    (∀ x : Watch, x.hits n o (oxHeader f.payload) = true ↔
      x.controller = n ∧ (x.cls = none ∨ x.cls = some (oxHeader f.payload).cls) ∧ x.low ≤ (oxHeader f.payload).idx
        ∧ (oxHeader f.payload).idx ≤ x.high ∧ (x.all = true ∨ (o ≠ .read ∧ o ≠ .summary)))
    ∧ (∀ w x, s.watch w = some x → (s.offer n o f e).watch w =
        if x.hits n o (oxHeader f.payload) = true ∧ x.repeats = false then none else some x)
    ∧ (∀ w, s.watch w = none → (s.offer n o f e).watch w = none)
    ∧ ∀ hits : List Notice,
      hits = ((List.finRange 8).filter (fun w => (s.watch w).any (fun x => x.hits n o (oxHeader f.payload)))).map
        (fun w =>
          { kind := .watchHit, time := s.time, controller := some n, station := some f.src
            object := some ((oxHeader f.payload).cls, (oxHeader f.payload).idx)
            tid := if o = .begins ∨ o = .segment ∨ o = .commit ∨ o = .abandon then some (oxHeader f.payload).tid
              else none
            reason := match e with
              | .refused r => some (.reason r)
              | _ => none
            first := some (BitVec.ofNat 32
              (w.val * 16777216 + o.code * 65536 + min (oxHeader f.payload).claimed 3 * 256 + e.code)) }) →
      s.offer n o f e = hits.foldl State.post { s with watches := (s.offer n o f e).watches }
      ∧ (s.destination ≠ 0#48 → 8 ≤ s.plant.originate.length → s.notices.length + 8 ≤ 32 → s.offer n o f e = { s with
          watches := (s.offer n o f e).watches
          notices := s.notices.takeWhile Notice.isWatch ++ hits ++ s.notices.dropWhile Notice.isWatch })

/-! ## Ports -/

/-- The egress arbiter (R145, R146): when the frame being sent is finished, and at any choice still to be made, the
head of one queue or of the other begins to be sent, by the table of R145, among the frames then queued. A frame
placed while the transmitter is free and both queues are empty begins to be sent at once; else it stands at its
queue's tail, and an originated frame that follows a forwarded one into an empty port at one device time has waited
one turn. A place freed at the Plant port is offered to the Notice Queue in the same step: its head moves and takes
the dropped count with it, and the next follows while there is a place (R141, R148). That a port keeps the time of
such a start is the model's reading of R146, L26; a choice or a move still to be made stands in no state a run
reaches, L13. -/
def Obligations.PortsSendInTheirOrder : Prop :=
  ∀ s : State, s.powered = true →
    (∀ (p : Port) (q : PortState), s.port p = q →
      (∀ e, q.up = true → (e = .frameSent p ∧ q.sending ≠ none) ∨ (e = .egressChoice p ∧ q.sending = none) →
        (∀ f fs, q.originate = [] → q.forwarded = f :: fs → exec e s =
          .next (State.offerPlaces (s.setPort p
            { q with forwarded := fs, sending := some (.forwarded f), turns := 0, begun := none }) p))
        ∧ (∀ o os, q.originate = o :: os → q.forwarded = [] → exec e s =
          .next (State.offerPlaces (s.setPort p
            { q with originate := os, sending := some (.originated o), turns := 0, begun := none }) p))
        ∧ (∀ o os f fs, q.originate = o :: os → q.forwarded = f :: fs → q.turns ≤ 3 → exec e s =
          .next (State.offerPlaces (s.setPort p
            { q with forwarded := fs, sending := some (.forwarded f), turns := q.turns + 1, begun := none }) p))
        ∧ (∀ o os f fs, q.originate = o :: os → q.forwarded = f :: fs → 4 ≤ q.turns → exec e s =
          .next (State.offerPlaces (s.setPort p
            { q with originate := os, sending := some (.originated o), turns := 0, begun := none }) p)))
      ∧ (q.up = true → q.sending ≠ none → q.originate = [] → q.forwarded = [] → exec (.frameSent p) s =
        .next (State.offerPlaces (s.setPort p { q with sending := none, begun := none }) p))
      ∧ (q.sending = none → exec (.frameSent p) s = .next s)
      ∧ (q.up = false ∨ q.sending ≠ none ∨ (q.originate = [] ∧ q.forwarded = []) → exec (.egressChoice p) s = .next s)
      ∧ ∀ f o now,
        (q.up = false ∨ q.sending ≠ none →
          q.placeForwarded f now = { q with forwarded := q.forwarded ++ [f] }
          ∧ q.placeOriginated o now = { q with
              originate := q.originate ++ [o]
              turns := if q.originate = [] ∧ q.begun = some now then 1 else q.turns
              begun := none })
        ∧ (q.up = true → q.sending = none → q.forwarded = [] → q.originate = [] →
          q.placeForwarded f now = { q with sending := some (.forwarded f), turns := 0, begun := some now }
          ∧ q.placeOriginated o now = { q with sending := some (.originated o), turns := 0, begun := none }))
    ∧ (∀ p, p = .line ∨ s.notices = [] ∨ 8 ≤ s.plant.originate.length → s.offerPlaces p = s)
    ∧ (∀ x rest t, s.notices = x :: rest → s.plant.originate.length < 8 →
      t = { s with
        notices := rest, dropped := 0
        plant := s.plant.placeOriginated
          { kind := .notice s.dropped, frame := noticeFrame s.identity.station s.destination x s.dropped } s.time } →
      s.offerPlaces .plant = t.offerPlaces .plant ∧ exec .noticeLeavesQueue s = .next t)

/-- A link comes up: its queues are kept, and the arbiter chooses (R149). A link goes down: what is queued or being
sent is lost and counted (R142, R149). A place freed at the Plant port is offered to the Notice Queue in the same
step (R141, R148; that a loss is counted before these moves is the model's reading, L28). At the Line port, in one
step, every live slot ends without ABANDON, its waiting entries are removed, and a RELEASED one posts
COMMIT_UNCONFIRMED (R91, R106); every window but LOCKED and QUARANTINE goes to LOCKED with WINDOW_CLOSED and cause
LINK, but for the notice that RUN_AFTER_COMMIT has had (R41); and a round in flight is cancelled with one
postponement counted (R132). The order of the notices of one step is the model's choice, L11. -/
def Obligations.LinkChangesTakeEffect : Prop :=
  (∀ (s : State) (p : Port), s.powered = true →
    ((s.port p).up = false →
      exec (.linkUp p) s = .next (State.offerPlaces (s.setPort p
        (PortState.arbitrate { s.port p with up := true, turns := 0, begun := none })) p)
      ∧ ((s.port p).forwarded = [] → (s.port p).sending = none →
        (∀ o os, (s.port p).originate = o :: os → exec (.linkUp p) s = .next (State.offerPlaces (s.setPort p
          { up := true, forwarded := [], originate := os, sending := some (.originated o), turns := 0 }) p))
        ∧ ((s.port p).originate = [] → exec (.linkUp p) s = .next (State.offerPlaces (s.setPort p
          { up := true, forwarded := [], originate := [], sending := none, turns := 0 }) p))))
    ∧ (s.plant.up = true → exec (.linkDown .plant) s = .next (State.offerPlaces { s with
        plant := { up := false, forwarded := [], originate := [], sending := none, turns := 0 }
        device := { s.device with
          linkDiscarded := saturate32By (s.plant.forwarded.length + (sendingForwarded s.plant.sending).length)
            s.device.linkDiscarded
          notSent := saturate32By (countPlain (s.plant.originate ++ sendingOriginated s.plant.sending))
            s.device.notSent }
        dropped := saturateDropped (lostNotices (s.plant.originate ++ sendingOriginated s.plant.sending)) s.dropped }
        .plant))
    ∧ (s.line.up = true → ∃ t u, exec (.linkDown .line) s = .next t
        ∧ u = (List.finRange 32).foldl State.linkLossWindow ((List.finRange 8).foldl State.linkLossSlot { s with
            line := { up := false, forwarded := [], originate := [], sending := none, turns := 0 }
            device := { s.device with
              linkDiscarded := saturate32By (countPlain (s.line.originate ++ sendingOriginated s.line.sending))
                (saturate32By (s.line.forwarded.length + (sendingForwarded s.line.sending).length)
                  s.device.linkDiscarded) } })
        ∧ (s.round = none → t = u)
        ∧ (∀ r, s.round = some r → t = (State.postponeScan { u with round := none } r.controller).scheduleCheck)
        ∧ t.line = { up := false, forwarded := [], originate := [], sending := none, turns := 0 }
        ∧ (s.destination = 0#48 → t.plant = s.plant) ∧ t.history = s.history ∧ t.watches = s.watches
        ∧ t.waiting = s.waiting.filter (fun e => s.slot e.slot = .free ∨ s.slot e.slot = .draining)
        ∧ (∀ k, t.slot k = if s.slot k = .free then .free else if s.slot k = .draining then .draining
            else if s.laneHolds k then .draining else .free)
        ∧ (∀ n, (∀ c, s.window? n = some (.quarantined c) → t.window? n = some (.quarantined c))
            ∧ ((∀ c, s.window? n ≠ some (.quarantined c)) → s.window? n ≠ none → t.window? n = some .locked))
        ∧ t.round = none))
  ∧ (∀ (s : State) (k : Fin 8),
    (s.slot k = .free ∨ s.slot k = .draining → s.linkLossSlot k = s)
    ∧ ((∃ x sums pending q, s.slot k = .taking x sums pending q)
        ∨ (∃ x sums pending held, s.slot k = .verifying x sums pending held) →
      s.linkLossSlot k = { s with
        waiting := s.waiting.filter (fun e => e.slot ≠ k)
        slots := s.slots.set k (if s.laneHolds k then .draining else .free) })
    ∧ ∀ x d, s.slot k = .released x d → s.linkLossSlot k = State.post
      { s with
        waiting := s.waiting.filter (fun e => e.slot ≠ k)
        slots := s.slots.set k (if s.laneHolds k then .draining else .free) }
      { kind := .commitUnconfirmed, time := s.time, controller := some x.controller, station := some x.requester
        object := some (x.cls, x.idx), tid := some x.tid })
  ∧ ∀ (s : State) (n : Fin 32),
    (s.window? n = none ∨ s.window? n = some .locked ∨ (∃ c, s.window? n = some (.quarantined c)) →
      s.linkLossWindow n = s)
    ∧ ∀ w, s.window? n = some w → w ≠ .locked → (∀ c, w ≠ .quarantined c) →
      ((∃ m d k, w = .commitWait m d k (some .runAfterCommit) ∨ w = .verify m d k (some .runAfterCommit)) →
        s.linkLossWindow n = s.setWindow n .locked)
      ∧ ((∀ m d k, w ≠ .commitWait m d k (some .runAfterCommit) ∧ w ≠ .verify m d k (some .runAfterCommit)) →
        s.linkLossWindow n = (s.setWindow n .locked).post
          { kind := .windowClosed, time := s.time, controller := some n, reason := some (.window .link) })

/-! ## Store, restart, power -/

/-- A store write ends (R158), with the restarts that waited for it, one for each closing of the line (R171); power
is lost and applied (R157, R158, R159). What is held while there is no power is the model's choice, L22. That the
restarts are part of the step in which the write ends is the model's choice, L14, and that they follow one another in
it its reading of R171, L23. -/
def Obligations.StoreWritesAndPowerTakeEffect : Prop :=
  ∀ s : State,
    (∀ image, s.powered = true → s.writing = some image →
      (State.restartDue { s with writing := none } = false →
        exec (.storeWriteEnd true) s = .next { s with stored := some image, writing := none }
        ∧ exec (.storeWriteEnd false) s = .next (State.post { s with stored := none, writing := none }
          { kind := .storeFailed, time := s.time }))
      ∧ (State.restartDue { s with writing := none } = true →
        exec (.storeWriteEnd true) s =
          .next (State.warmRestarts (max 1 s.lineWaiting) { s with stored := some image, writing := none })
        ∧ exec (.storeWriteEnd false) s = .next (State.warmRestarts (max 1 s.lineWaiting) (State.post
          { s with stored := none, writing := none } { kind := .storeFailed, time := s.time }))))
    ∧ exec .powerLoss s = .next { State.reset with
        identity := s.identity, powered := false, stored := if s.writing = none then s.stored else none
        lineClosed := s.lineClosed, pending := s.pending, choices := s.choices }
    ∧ (s.stored = none ∨ s.writing ≠ none → exec .powerOnReset s = .next { State.reset with
        identity := s.identity, lineClosed := s.lineClosed, pending := s.pending, choices := s.choices })
    ∧ (∀ image, s.stored = some image → s.writing = none → exec .powerOnReset s = .next { State.reset with
        identity := s.identity, lineClosed := s.lineClosed, pending := s.pending, choices := s.choices
        stored := some image, fallback := false, timing := image.timing, generation := image.generation
        active := image.bank, destination := image.destination
        controllers := image.bank.definitions.map (Option.map (fun _ =>
          { window := .locked, mismatches := 0
            monitor := { observed := .none, lastFrame := none, stale := image.timing.stale * 1000, quiet := none }
            schedule := { nextDue := 60000000, postponed := 0, overdue := false } })) })

/-- What a warm restart does (R20, R22, R66, R108, R120, R133, R142, R150), and when RESTART, its pending restart and
the restart input line cause one (R170, R171): one is due when no store write is in flight and either a RESTART is
pending whose reply neither waits nor is being sent, or closings of the line have waited, each for its own; where
none is due WARM_RESTART changes nothing. That a schedule check follows only where a round was in flight is the
model's reading of R120, L16; that the restarts of several closings follow one another in one step is its reading of
R171, L23. -/
def Obligations.RestartsTakeEffect : Prop :=
  ∀ s : State,
    (s.round = none → s.warmRestart = { s with
      controllers := s.controllers.map (Option.map (fun c =>
        { c with
          window := match c.window with
            | .quarantined q => .quarantined q
            | _ => .locked
          monitor := { observed := .none, lastFrame := none, stale := s.time + s.timing.stale * 1000, quiet := none } }))
      slots := Vector.replicate 8 .free, waiting := [], lanes := Vector.replicate 2 none, watches := Vector.replicate 8 none
      notices := [], dropped := 0
      plant := { up := s.plant.up, forwarded := [], originate := [], sending := none, turns := 0 }
      line := { up := s.line.up, forwarded := [], originate := [], sending := none, turns := 0 }
      restartPending := false, lineWaiting := 0 })
    ∧ (s.round ≠ none → s.warmRestart = (State.warmRestart { s with round := none }).scheduleCheck)
    ∧ (s.powered = true →
      (s.restartDue = true ↔ s.writing = none
        ∧ ((s.restartPending = true ∧ s.restartReplyWaits = false) ∨ 0 < s.lineWaiting))
      ∧ (s.restartReplyWaits = true ↔ (∃ o ∈ s.plant.originate, o.kind = .restartReply)
        ∨ ∃ o, s.plant.sending = some (.originated o) ∧ o.kind = .restartReply)
      ∧ (s.restartDue = false → exec .warmRestart s = .next s)
      ∧ (s.restartDue = true → exec .warmRestart s = .next (s.warmRestarts (max 1 s.lineWaiting)))
      ∧ s.warmRestarts 0 = s ∧ (∀ k, s.warmRestarts (k + 1) = s.warmRestart.warmRestarts k)
      ∧ (s.lineClosed = false →
        (s.writing = none → exec .restartInputClosed s = .next (State.warmRestart { s with lineClosed := true }))
        ∧ (s.writing ≠ none → exec .restartInputClosed s = .next { s with lineClosed := true, lineWaiting := s.lineWaiting + 1 }))
      ∧ (s.lineClosed = true → exec .restartInputClosed s = .next s))
    ∧ exec .restartInputOpened s = .next { s with lineClosed := false }
    ∧ (∀ p f, s.takesCommand .restart p f → s.lineWaiting = 0 ∨ s.writing ≠ none →
      (s.restartPending = true → exec (.restart p f) s = .next (s.reply f .reply { status := .already }))
      ∧ (s.restartPending = false →
        (s.plant.originate.length < 8 → exec (.restart p f) s = .next { s with
          restartPending := true
          plant := s.plant.placeOriginated
            { kind := .restartReply, frame := replyFrame s.identity.station f { status := .ok } } s.time })
        ∧ (8 ≤ s.plant.originate.length → s.restartReplyWaits = false →
          (s.writing ≠ none → exec (.restart p f) s = .next { s with
            restartPending := true, device := { s.device with notSent := saturate32By 1 s.device.notSent } })
          ∧ (s.writing = none → exec (.restart p f) s = .next (State.warmRestart { s with
            restartPending := true, device := { s.device with notSent := saturate32By 1 s.device.notSent } })))))

/-! ## Management -/

/-- Which management frames are accepted and what is checked before a command's own rule (R161, R162): one not
accepted posts MGMT_REFUSED and is not answered; one that fails a check is answered with the first failure's status
alone. A reply (R148, R163, R174) goes to the request's source, with the management type, the code and tag echoed,
its status and results; placed in the Plant originate queue, or not sent and counted when the queue holds 8 frames.
The row of an unknown command code, and the argument length of a LOAD-RECORD whose table or presence byte is out of
its values, are the model's choices, L12 and L18. -/
def Obligations.ManagementFramesAreCheckedAndAnswered : Prop :=
  (∀ (s : State) (c : Command) (p : Port) (f : Frame), s.rowOf p f = .management c →
    (s.accepts p f = true ↔
      p = .plant ∧ (s.fallback = true ∨ ∃ e, s.station f.src = some e ∧ e.rights.manage = true))
    ∧ (s.accepts p f = false → exec (managementInstr c p f) s = .next (s.post
        { kind := .mgmtRefused, time := s.time, station := some f.src
          first := some (match p with
            | .plant => 1#32
            | .line => 2#32) }))
    ∧ (∀ st, s.accepts p f = true → s.requestCheck f = some st →
        exec (managementInstr c p f) s = .next (s.reply f .reply { status := st, results := [] }))
    ∧ s.requestCheck f =
        (if (managementHeader f.payload).status ≠ 0 ∨ (managementHeader f.payload).reserved ≠ 0 then some .badFormat
        else if (managementHeader f.payload).kind ≠ 1 then some .badFormat
        else if f.payload.length < 8 + (managementHeader f.payload).length then some .badFormat
        else if Command.ofCode (managementHeader f.payload).code = none then some .unknownCommand
        else if (managementHeader f.payload).length < argumentLength c (f.payload.drop 8) then some .badFormat
        else if s.fallback = true ∧ (c = .openWindow ∨ c = .closeWindow ∨ c = .quarantine ∨ c = .release
            ∨ c = .approveCandidate ∨ c = .discardCandidate ∨ c = .armWatch ∨ c = .disarmWatch) then some .fallback
        else none))
  ∧ (∀ (s : State) (f : Frame) (kind : OrigKind) (r : Reply),
      (s.plant.originate.length < 8 → s.reply f kind r = { s with
        plant := s.plant.placeOriginated { kind := kind, frame := replyFrame s.identity.station f r } s.time })
      ∧ (8 ≤ s.plant.originate.length → s.reply f kind r = { s with
        device := { s.device with notSent := saturate32By 1 s.device.notSent } })
      ∧ (r.results.length < 65536 →
        (replyFrame s.identity.station f r).dst = f.src
        ∧ (replyFrame s.identity.station f r).src = s.identity.station
        ∧ (replyFrame s.identity.station f r).etype = Config.managementType
        ∧ managementHeader (replyFrame s.identity.station f r).payload =
          { kind := 2, code := (managementHeader f.payload).code, tag := (managementHeader f.payload).tag
            status := r.status.code, reserved := 0, length := r.results.length }
        ∧ ((replyFrame s.identity.station f r).payload.drop 8).take r.results.length = r.results
        ∧ 46 ≤ (replyFrame s.identity.station f r).payload.length))

/-- IDENTIFY, READ-TIME, READ-CONTROLLER, READ-RECORD and PROBE change nothing but the reply (R63, R164 to R166).
READ-CONTROLLER gives the window fields of each state, the Monitor's, the Tracker's of the slot that names the
controller, the scanner's and the counters, each that may be absent after a presence byte; READ-RECORD gives the
record of a position in the layout of its table (R174). The presence bytes of READ-CONTROLLER's results and the one
before READ-RECORD's record are the model's reading, L17; that a PROBE of a class above 255 is out of range is its
choice, L19. -/
def Obligations.ReadingCommandsOnlyReply : Prop :=
  ∀ (s : State) (p : Port) (f : Frame),
    (s.takesCommand .identify p f → exec (.identify p f) s = .next (s.reply f .reply
      { status := .ok
        results := [0x24#8, 0x08#8] ++ bytesOf 1 s.identity.hardware ++ bytesOf 1 s.identity.function
          ++ bytesOf 6 s.identity.station.toNat
          ++ [32, 64, 128, 256, 8, 16, 2, 8, 32, 9, 8].flatMap (bytesOf 2) ++ bytesOf 4 s.generation
          ++ [if s.fallback then 1#8 else 0#8, if s.writing.isSome then 1#8 else 0#8,
              if s.restartPending then 1#8 else 0#8] }))
    ∧ (s.takesCommand .readTime p f →
      exec (.readTime p f) s = .next (s.reply f .reply { status := .ok, results := bytesOf 8 s.time }))
    ∧ (s.takesCommand .readController p f →
      (31 < fieldAt (f.payload.drop 8) 0 1 →
        exec (.readController p f) s = .next (s.reply f .reply { status := .outOfRange }))
      ∧ ∀ n : Fin 32, fieldAt (f.payload.drop 8) 0 1 = n →
        (s.controller n = none → exec (.readController p f) s = .next (s.reply f .reply { status := .notFound }))
        ∧ ∀ c, s.controller n = some c → exec (.readController p f) s = .next (s.reply f .reply
          { status := .ok
            results := windowResults c ++ monitorResults c.monitor
              ++ slotResults (s.slotNaming n) (((s.slotNaming n).map s.slot).getD .free)
              ++ scheduleResults c.schedule (s.round.filter (fun r => r.controller == n))
              ++ counterResults (s.count n) }))
    ∧ (s.takesCommand .readRecord p f →
      (1 < fieldAt (f.payload.drop 8) 0 1 ∨ Table.ofCode (fieldAt (f.payload.drop 8) 1 1) = none
          ∨ (∃ t, Table.ofCode (fieldAt (f.payload.drop 8) 1 1) = some t
            ∧ t.positions ≤ fieldAt (f.payload.drop 8) 2 2) →
        exec (.readRecord p f) s = .next (s.reply f .reply { status := .outOfRange }))
      ∧ ∀ t, Table.ofCode (fieldAt (f.payload.drop 8) 1 1) = some t → fieldAt (f.payload.drop 8) 2 2 < t.positions →
        fieldAt (f.payload.drop 8) 0 1 ≤ 1 →
        exec (.readRecord p f) s = .next (s.reply f .reply
          { status := .ok
            results := match recordAt (if fieldAt (f.payload.drop 8) 0 1 = 0 then s.active else s.shadow) t
                (fieldAt (f.payload.drop 8) 2 2) with
              | some bs => 1#8 :: bs
              | none => [0#8] }))
    ∧ (∀ c : Controller,
      (c.window = .locked → windowResults c = [1#8, 0#8, 0#8, 0#8, 0#8, 0#8, 0#8, 0#8] ++ bytesOf 1 c.mismatches)
      ∧ (∀ m l d, c.window = .opening m l d → windowResults c = [2#8, 1#8, if m = .single then 1#8 else 2#8, 1#8]
          ++ bytesOf 2 l ++ [1#8] ++ bytesOf 8 d ++ [0#8, 0#8, 0#8, 0#8] ++ bytesOf 1 c.mismatches)
      ∧ (∀ m d, c.window = .opened m d → windowResults c = [3#8, 1#8, if m = .single then 1#8 else 2#8, 0#8, 0#8, 1#8]
          ++ bytesOf 8 d ++ [0#8, 0#8, 0#8] ++ bytesOf 1 c.mismatches)
      ∧ (∀ m d k, c.window = .transfer m d k → windowResults c =
          [4#8, 1#8, if m = .single then 1#8 else 2#8, 0#8, 0#8, 1#8] ++ bytesOf 8 d ++ [0#8, 0#8, 1#8] ++ bytesOf 1 k
            ++ bytesOf 1 c.mismatches)
      ∧ (∀ m d k x, c.window = .verify m d k x ∨ c.window = .commitWait m d k x → windowResults c =
          [if c.window = .verify m d k x then 5#8 else 6#8, 1#8, if m = .single then 1#8 else 2#8, 0#8, 0#8]
            ++ (match d with
              | none => [0#8]
              | some d => 1#8 :: bytesOf 8 d)
            ++ (match x with
              | none => [0#8]
              | some .command => [1#8, 1#8]
              | some .expired => [1#8, 2#8]
              | some .runAfterCommit => [1#8, 7#8])
            ++ [0#8, 1#8] ++ bytesOf 1 k ++ bytesOf 1 c.mismatches)
      ∧ (∀ q, c.window = .quarantined q → windowResults c = [7#8, 0#8, 0#8, 0#8, 0#8, 0#8, 1#8]
          ++ (match q with
            | .drift => [1#8]
            | .mismatchLimit => [2#8]
            | .manual => [3#8]) ++ [0#8] ++ bytesOf 1 c.mismatches))
    ∧ (∀ m : Monitor, monitorResults m =
        (match m.observed with
          | .none => [0#8]
          | .quiet => [1#8]
          | .running => [2#8]
          | .stale => [3#8])
        ++ (match m.lastFrame with
          | none => [0#8]
          | some t => 1#8 :: bytesOf 8 t)
        ++ (match m.quiet with
          | none => [0#8]
          | some q => 1#8 :: bytesOf 8 q.since))
    ∧ (∀ n : Fin 32,
      (s.slotNaming n = none ↔ ∀ k x, (s.slot k).live = some x → x.controller ≠ n)
      ∧ (∀ k, s.slotNaming n = some k → ∃ x, (s.slot k).live = some x ∧ x.controller = n))
    ∧ slotResults none .free = List.replicate 7 0#8
    ∧ (∀ (k : Fin 8) (x : Transfer),
      (∀ sums pending q, slotResults (some k) (.taking x sums pending q) = [1#8] ++ bytesOf 1 k
          ++ [1#8, if q.answer = none then 2#8 else 1#8] ++ [1#8] ++ bytesOf 4 x.words ++ [1#8] ++ bytesOf 4 x.declared
          ++ [1#8] ++ bytesOf 1 pending ++ [1#8] ++ bytesOf 8 q.idle
          ++ (match q.answer with
            | none => [0#8]
            | some d => 1#8 :: bytesOf 8 d))
      ∧ (∀ sums pending held, slotResults (some k) (.verifying x sums pending held) = [1#8] ++ bytesOf 1 k
          ++ [1#8, 3#8] ++ [1#8] ++ bytesOf 4 x.words ++ [1#8] ++ bytesOf 4 x.declared ++ [1#8] ++ bytesOf 1 pending
          ++ [0#8, 0#8])
      ∧ ∀ d, slotResults (some k) (.released x d) = [1#8] ++ bytesOf 1 k ++ [1#8, 4#8] ++ [1#8] ++ bytesOf 4 x.words
          ++ [1#8] ++ bytesOf 4 x.declared ++ [0#8, 0#8, 1#8] ++ bytesOf 8 d)
    ∧ (∀ (c : Schedule) (r : Option Round), scheduleResults c r = bytesOf 8 c.nextDue ++ bytesOf 1 c.postponed
        ++ [if c.overdue then 1#8 else 0#8]
        ++ (match r with
          | none => [0#8, 0#8]
          | some r => [1#8] ++ bytesOf 2 r.position ++ [1#8] ++ bytesOf 1 r.attempt))
    ∧ (∀ c : ControllerCounters, counterResults c =
        bytesOf 4 c.admitted ++ bytesOf 4 c.refusals ++ bytesOf 4 c.released ++ bytesOf 4 c.mismatches)
    ∧ (∀ (b : Bank) (i : Nat),
      (b.definitions[i]? = some none → recordAt b .definitions i = none)
      ∧ (b.stations[i]? = some none → recordAt b .stations i = none)
      ∧ (b.grants[i]? = some none → recordAt b .grants i = none)
      ∧ (b.images[i]? = some none → recordAt b .images i = none)
      ∧ (∀ d, b.definitions[i]? = some (some d) → recordAt b .definitions i = some (bytesOf 6 d.addr.toNat
          ++ bytesOf 2 d.statusOffset ++ bytesOf 1 d.quietSet.length
          ++ (d.quietSet ++ List.replicate (4 - d.quietSet.length) 0#8) ++ [0#8] ++ bytesOf 4 d.scanInterval))
      ∧ (∀ e, b.stations[i]? = some (some e) → recordAt b .stations i = some (bytesOf 6 e.addr.toNat
          ++ bytesOf 1 e.level ++ bytesOf 1 (e.rights.manage.toNat + 2 * e.rights.param.toNat + 4 * e.rights.write.toNat
            + 8 * e.rights.mode.toNat + 16 * e.rights.force.toNat)))
      ∧ (∀ g, b.grants[i]? = some (some g) → recordAt b .grants i = some (bytesOf 1 ((g.controller.map Fin.val).getD 255)
          ++ bytesOf 2 (g.cls.getD 65535) ++ bytesOf 2 g.low ++ bytesOf 2 g.high
          ++ bytesOf 1 (g.operations.manage.toNat + 2 * g.operations.param.toNat + 4 * g.operations.write.toNat
            + 8 * g.operations.mode.toNat + 16 * g.operations.force.toNat)
          ++ bytesOf 1 g.level ++ bytesOf 1 g.needed.toNat
          ++ (match g.check with
            | .required => [1#8]
            | .learn => [2#8]
            | .none => [3#8]) ++ [0#8]))
      ∧ (∀ r, b.images[i]? = some (some r) → recordAt b .images i = some (bytesOf 1 r.controller ++ bytesOf 1 r.cls
          ++ bytesOf 2 r.idx ++ bytesOf 4 r.length ++ bytesOf 4 r.fingerprint.toNat
          ++ (match r.status with
            | .approved => [1#8, 0#8] ++ bytesOf 8 0
            | .candidate t => [2#8, 0#8] ++ bytesOf 8 t))))
    ∧ (s.takesCommand .probe p f → ∃ r, exec (.probe p f) s = .next (s.reply f .reply r)
      ∧ (31 < fieldAt (f.payload.drop 8) 6 1 ∨ 3 < fieldAt (f.payload.drop 8) 12 1
          ∨ 255 < fieldAt (f.payload.drop 8) 8 2 ∨ fieldAt (f.payload.drop 8) 7 1 ∉ [1, 2, 3, 4, 8, 9] →
          r = { status := .outOfRange, results := [] })
      ∧ ∀ n : Fin 32, fieldAt (f.payload.drop 8) 6 1 = n → fieldAt (f.payload.drop 8) 12 1 ≤ 3 →
        fieldAt (f.payload.drop 8) 8 2 ≤ 255 → ∀ o, o.code = fieldAt (f.payload.drop 8) 7 1 →
        o ∉ [.segment, .commit, .abandon] →
        (s.fallback = false → s.definition n = none → r = { status := .notFound, results := [] })
        ∧ (s.fallback = true ∨ s.definition n ≠ none →
          r = { status := .ok
                results := probeBytes (s.evaluateProbe (addrAt (f.payload.drop 8) 0) n o
                  (fieldAt (f.payload.drop 8) 8 2) (fieldAt (f.payload.drop 8) 10 2)
                  (fieldAt (f.payload.drop 8) 12 1)) }))

/-- PROBE gives the outcome the request itself would have (R64): PASS for a read; CLOSED in Closed fallback; else
steps 2 and 4 to 7, and for a start the SLOTS_FULL and NO_IMAGE checks; for a BEGIN with a matched grant the
effective image check, and under REQUIRED the length of the APPROVED record. Its results are laid out in the order
R64 lists them, each that may be absent after its presence byte (R174). -/
def Obligations.ProbeForetellsAdmission : Prop :=
  (∀ r : ProbeResult, probeBytes r = bytesOf 1 r.outcome
    ++ (match r.window with
      | none => [0#8]
      | some .locked => [1#8, 1#8]
      | some (.opening ..) => [1#8, 2#8]
      | some (.opened ..) => [1#8, 3#8]
      | some (.transfer ..) => [1#8, 4#8]
      | some (.verify ..) => [1#8, 5#8]
      | some (.commitWait ..) => [1#8, 6#8]
      | some (.quarantined _) => [1#8, 7#8])
    ++ (match r.grant with
      | none => [0#8]
      | some i => 1#8 :: bytesOf 2 i)
    ++ (match r.level with
      | none => [0#8]
      | some l => 1#8 :: bytesOf 1 l)
    ++ (match r.check with
      | none => [0#8]
      | some .required => [1#8, 1#8]
      | some .learn => [1#8, 2#8]
      | some .none => [1#8, 3#8])
    ++ (match r.length with
      | none => [0#8]
      | some l => 1#8 :: bytesOf 4 l))
  ∧ ∀ (s : State) (src : Addr) (n : Fin 32) (o : Operation) (cls idx level : Nat),
    (o = .read ∨ o = .summary → s.evaluateProbe src n o cls idx level = { outcome := 0 })
    ∧ (o ≠ .read → o ≠ .summary → s.fallback = true → s.evaluateProbe src n o cls idx level = { outcome := 16 })
    ∧ (o ≠ .read → o ≠ .summary → s.fallback = false →
      (s.station src = none → s.evaluateProbe src n o cls idx level = { outcome := 1 })
      ∧ ∀ e, s.station src = some e →
        (s.matchedGrant n o cls idx = none →
          s.evaluateProbe src n o cls idx level = { outcome := 2, level := some (max e.level (min level 3)) })
        ∧ ∀ i g, s.matchedGrant n o cls idx = some (i, g) →
          (s.evaluateProbe src n o cls idx level).grant = some i
          ∧ (o ≠ .begins → (s.evaluateProbe src n o cls idx level).check = none
            ∧ (s.evaluateProbe src n o cls idx level).length = none)
          ∧ (o = .begins → g.check = .none ∨ (g.check = .learn ∧ s.approved n cls idx = none) →
            (s.evaluateProbe src n o cls idx level).check = some g.check
            ∧ (s.evaluateProbe src n o cls idx level).length = none)
          ∧ (o = .begins → g.check = .required → s.approved n cls idx = none →
            (s.evaluateProbe src n o cls idx level).check = some .required
            ∧ (s.evaluateProbe src n o cls idx level).length = none)
          ∧ (∀ r, o = .begins → g.check ≠ .none → s.approved n cls idx = some r →
            (s.evaluateProbe src n o cls idx level).check = some .required
            ∧ (s.evaluateProbe src n o cls idx level).length = some r.length)
          ∧ (s.evaluateProbe src n o cls idx level).level = some (max e.level (min level 3))
          ∧ (g.level < max e.level (min level 3) → (s.evaluateProbe src n o cls idx level).outcome = 3
            ∧ (s.evaluateProbe src n o cls idx level).window = none)
          ∧ (max e.level (min level 3) ≤ g.level → e.rights.allow o = false →
            (s.evaluateProbe src n o cls idx level).outcome = 4
            ∧ (s.evaluateProbe src n o cls idx level).window = none)
          ∧ (max e.level (min level 3) ≤ g.level → e.rights.allow o = true →
            (s.evaluateProbe src n o cls idx level).window = some (s.windowOf n)
            ∧ (dispose o g.needed (s.windowOf n) = .pass → (s.evaluateProbe src n o cls idx level).outcome = 0)
            ∧ (∀ r, dispose o g.needed (s.windowOf n) = .refuse r →
              (s.evaluateProbe src n o cls idx level).outcome = r.code)
            ∧ (dispose o g.needed (s.windowOf n) = .start →
              (s.evaluateProbe src n o cls idx level).outcome =
                if s.freeSlot = none then 15
                else if g.check = .required ∧ s.approved n cls idx = none then 12 else 254)))

/-- LOAD-RECORD puts a record that passes the static checks, in the layout of its table, at its position of the
shadow bank and nowhere else, or empties the position; it is refused OUT_OF_RANGE, with nothing changed, for a table
or position that is none, and for a record whose bytes fail a check of R152 (R152, R174). CLEAR-SHADOW empties the
shadow bank (R153). What tells a group address is PRESUMED, L9; that a presence byte other than 0 or 1 is out of
range is the model's choice, L18. -/
def Obligations.ShadowBankIsLoaded : Prop :=
  ∀ (s : State) (p : Port) (f : Frame),
    (s.takesCommand .clearShadow p f → exec (.clearShadow p f) s =
      .next (State.reply { s with shadow := Bank.empty } f .reply { status := .ok }))
    ∧ (s.takesCommand .loadRecord p f →
      (∀ (i : Nat) (tail : List Byte), i < 32 → f.payload.drop 8 = [1#8] ++ bytesOf 2 i ++ [0#8] ++ tail →
        exec (.loadRecord p f) s = .next (State.reply { s with shadow :=
          { s.shadow with definitions := s.shadow.definitions.setIfInBounds i none } } f .reply { status := .ok }))
      ∧ (∀ (i : Nat) (tail : List Byte), i < 64 → f.payload.drop 8 = [2#8] ++ bytesOf 2 i ++ [0#8] ++ tail →
        exec (.loadRecord p f) s = .next (State.reply { s with shadow :=
          { s.shadow with stations := s.shadow.stations.setIfInBounds i none } } f .reply { status := .ok }))
      ∧ (∀ (i : Nat) (tail : List Byte), i < 128 → f.payload.drop 8 = [3#8] ++ bytesOf 2 i ++ [0#8] ++ tail →
        exec (.loadRecord p f) s = .next (State.reply { s with shadow :=
          { s.shadow with grants := s.shadow.grants.setIfInBounds i none } } f .reply { status := .ok }))
      ∧ (∀ (i : Nat) (tail : List Byte), i < 256 → f.payload.drop 8 = [4#8] ++ bytesOf 2 i ++ [0#8] ++ tail →
        exec (.loadRecord p f) s = .next (State.reply { s with shadow :=
          { s.shadow with images := s.shadow.images.setIfInBounds i none } } f .reply { status := .ok }))
      ∧ (∀ (i : Nat) (d : ControllerDef) (tail : List Byte), i < 32 →
        f.payload.drop 8 = [1#8] ++ bytesOf 2 i ++ [1#8] ++ definitionBytes d ++ tail →
        d.addr ≠ 0#48 → isGroup d.addr = false → d.addr ≠ s.identity.station → d.statusOffset ≤ 1499 →
        1 ≤ d.quietSet.length → d.quietSet.length ≤ 4 → d.quietSet.Nodup →
        (d.scanInterval = 0 ∨ (10 ≤ d.scanInterval ∧ d.scanInterval ≤ 86400)) →
        exec (.loadRecord p f) s = .next (State.reply { s with shadow :=
          { s.shadow with definitions := s.shadow.definitions.setIfInBounds i (some d) } } f .reply { status := .ok }))
      ∧ (∀ (i : Nat) (e : StationEntry) (tail : List Byte), i < 64 →
        f.payload.drop 8 = [2#8] ++ bytesOf 2 i ++ [1#8] ++ stationBytes e ++ tail →
        e.addr ≠ 0#48 → isGroup e.addr = false → e.addr ≠ s.identity.station → e.level ≤ 3 →
        exec (.loadRecord p f) s = .next (State.reply { s with shadow :=
          { s.shadow with stations := s.shadow.stations.setIfInBounds i (some e) } } f .reply { status := .ok }))
      ∧ (∀ (i : Nat) (g : Grant) (tail : List Byte), i < 128 →
        f.payload.drop 8 = [3#8] ++ bytesOf 2 i ++ [1#8] ++ grantBytes g ++ tail →
        (∀ c ∈ g.cls, c ≤ 255) → g.low ≤ g.high → g.high ≤ 65535 → g.operations.manage = false → g.level ≤ 3 →
        (g.operations.write = true ∨ g.operations.force = true → g.needed = true) →
        (g.check ≠ .none → g.operations.write = true) →
        exec (.loadRecord p f) s = .next (State.reply { s with shadow :=
          { s.shadow with grants := s.shadow.grants.setIfInBounds i (some g) } } f .reply { status := .ok }))
      ∧ (∀ (i : Nat) (r : ImageRecord) (tail : List Byte), i < 256 →
        f.payload.drop 8 = [4#8] ++ bytesOf 2 i ++ [1#8] ++ (bytesOf 1 r.controller ++ bytesOf 1 r.cls
          ++ bytesOf 2 r.idx ++ bytesOf 4 r.length ++ bytesOf 4 r.fingerprint.toNat ++ List.replicate 10 0#8) ++ tail →
        r.cls ≤ 255 → r.idx ≤ 65535 → 1 ≤ r.length → r.length ≤ 262144 → r.status = .approved →
        exec (.loadRecord p f) s = .next (State.reply { s with shadow :=
          { s.shadow with images := s.shadow.images.setIfInBounds i (some r) } } f .reply { status := .ok }))
      ∧ (∀ a, a = f.payload.drop 8 →
        (fieldAt a 0 1 = 0 ∨ 4 < fieldAt a 0 1 ∨ 1 < fieldAt a 3 1
          ∨ (fieldAt a 0 1 = 1 ∧ 31 < fieldAt a 1 2) ∨ (fieldAt a 0 1 = 2 ∧ 63 < fieldAt a 1 2)
          ∨ (fieldAt a 0 1 = 3 ∧ 127 < fieldAt a 1 2) ∨ (fieldAt a 0 1 = 4 ∧ 255 < fieldAt a 1 2)
          ∨ (fieldAt a 0 1 = 1 ∧ fieldAt a 3 1 = 1
            ∧ (addrAt a 4 = 0#48 ∨ isGroup (addrAt a 4) = true ∨ addrAt a 4 = s.identity.station
              ∨ 1499 < fieldAt a 10 2 ∨ fieldAt a 12 1 = 0 ∨ 4 < fieldAt a 12 1
              ∨ ¬ ((a.drop 13).take (fieldAt a 12 1)).Nodup
              ∨ (∃ b ∈ ((a.drop 13).take 4).drop (fieldAt a 12 1), b ≠ 0#8) ∨ fieldAt a 17 1 ≠ 0
              ∨ (fieldAt a 18 4 ≠ 0 ∧ fieldAt a 18 4 < 10) ∨ 86400 < fieldAt a 18 4))
          ∨ (fieldAt a 0 1 = 2 ∧ fieldAt a 3 1 = 1
            ∧ (addrAt a 4 = 0#48 ∨ isGroup (addrAt a 4) = true ∨ addrAt a 4 = s.identity.station
              ∨ 3 < fieldAt a 10 1 ∨ 31 < fieldAt a 11 1))
          ∨ (fieldAt a 0 1 = 3 ∧ fieldAt a 3 1 = 1
            ∧ ((31 < fieldAt a 4 1 ∧ fieldAt a 4 1 ≠ 255) ∨ (255 < fieldAt a 5 2 ∧ fieldAt a 5 2 ≠ 65535)
              ∨ fieldAt a 9 2 < fieldAt a 7 2 ∨ 31 < fieldAt a 11 1 ∨ fieldAt a 11 1 % 2 = 1 ∨ 3 < fieldAt a 12 1
              ∨ 1 < fieldAt a 13 1 ∨ fieldAt a 14 1 = 0 ∨ 3 < fieldAt a 14 1
              ∨ ((fieldAt a 11 1 / 4 % 2 = 1 ∨ fieldAt a 11 1 / 16 % 2 = 1) ∧ fieldAt a 13 1 = 0)
              ∨ (fieldAt a 14 1 ≠ 3 ∧ fieldAt a 11 1 / 4 % 2 = 0) ∨ fieldAt a 15 1 ≠ 0))
          ∨ (fieldAt a 0 1 = 4 ∧ fieldAt a 3 1 = 1
            ∧ (31 < fieldAt a 4 1 ∨ fieldAt a 8 4 = 0 ∨ 262144 < fieldAt a 8 4 ∨ fieldAt a 16 10 ≠ 0))) →
        exec (.loadRecord p f) s = .next (s.reply f .reply { status := .outOfRange })))

/-- SELECT-BANK (R154): the first case that applies decides. The bank check (R155) goes through the four tables in
their order, each in ascending position, and fails at the first position whose record has one of its table's
conditions, or at no position when the source would not hold MANAGE. A selection that is made cancels a round in
flight, exchanges the banks, raises the generation, gives every number the state its definition in the new bank calls
for, with the postponement count and overdue flag kept, posts BANK_SELECTED with the number of definitions, ends
Closed fallback and begins a store write (R22, R42, R131, R143, R156). That the notice is posted before the reply is
appended is the model's choice, L27, and the layout of the results of OK and BANK_CHECK its own, L17. -/
def Obligations.SelectBankDecidesInOrder : Prop :=
  (∀ (b : Bank) (src : Addr),
    let fails : Table → Nat → Prop := fun t i => match t with
      | .definitions => ∃ (d : ControllerDef) (j : Nat) (e : ControllerDef), b.definitions[i]? = some (some d) ∧ j < i
          ∧ b.definitions[j]? = some (some e) ∧ e.addr = d.addr
      | .stations => ∃ (d : StationEntry) (j : Nat) (e : StationEntry), b.stations[i]? = some (some d) ∧ j < i
          ∧ b.stations[j]? = some (some e) ∧ e.addr = d.addr
      | .grants => ∃ (g : Grant) (n : Fin 32), b.grants[i]? = some (some g) ∧ g.controller = some n
          ∧ b.definitions[n] = none
      | .images => ∃ r : ImageRecord, b.images[i]? = some (some r)
          ∧ (b.definitions[r.controller] = none ∨ r.status ≠ .approved
            ∨ ∃ (j : Nat) (x : ImageRecord), j < i ∧ b.images[j]? = some (some x) ∧ x.key = r.key)
    (∀ t i, bankCheck b src = some (t, some i) ↔
      fails t i ∧ (∀ j < i, ¬ fails t j) ∧ ∀ u, u.code < t.code → ∀ j, ¬ fails u j)
    ∧ (∀ t, bankCheck b src = some (t, none) ↔ t = .stations ∧ (∀ u j, ¬ fails u j)
      ∧ ∀ (i : Nat) (e : StationEntry), b.stations[i]? = some (some e) → e.addr = src → e.rights.manage = false)
    ∧ (bankCheck b src = none ↔ (∀ u j, ¬ fails u j)
      ∧ ∃ (i : Nat) (e : StationEntry), b.stations[i]? = some (some e) ∧ e.addr = src ∧ e.rights.manage = true))
  ∧ ∀ (s : State) (p : Port) (f : Frame), s.takesCommand .selectBank p f →
    (s.fallback = false → fieldAt (f.payload.drop 8) 0 4 = s.generation → exec (.selectBank p f) s =
      .next (s.reply f .reply { status := .already, results := bytesOf 4 s.generation }))
    ∧ ((s.fallback = true ∨ fieldAt (f.payload.drop 8) 0 4 ≠ s.generation) →
        fieldAt (f.payload.drop 8) 0 4 ≠ (s.generation + 1) % 4294967296 → exec (.selectBank p f) s =
      .next (s.reply f .reply { status := .state, results := bytesOf 4 s.generation }))
    ∧ (fieldAt (f.payload.drop 8) 0 4 = (s.generation + 1) % 4294967296 →
      ((∃ n w, s.window? n = some w ∧ w ≠ .locked ∧ ∀ c, w ≠ .quarantined c) ∨ (∃ k, s.slot k ≠ .free) →
        fits32 s.generation → exec (.selectBank p f) s =
          .next (s.reply f .reply { status := .state, results := bytesOf 4 s.generation }))
      ∧ ((∀ n w, s.window? n = some w → w = .locked ∨ ∃ c, w = .quarantined c) → (∀ k, s.slot k = .free) →
        fits32 s.generation →
        (s.writing ≠ none → exec (.selectBank p f) s = .next (s.reply f .reply { status := .storeBusy }))
        ∧ (s.writing = none →
          (∀ t i, bankCheck s.shadow f.src = some (t, i) → exec (.selectBank p f) s =
            .next (s.reply f .reply { status := .bankCheck, results := bytesOf 1 t.code ++ optionBytes (bytesOf 2) i }))
          ∧ (bankCheck s.shadow f.src = none → ∃ t : State, exec (.selectBank p f) s = .next (t.reply f .reply
              { status := .ok
                results := bytesOf 4 ((s.generation + 1) % 4294967296) ++ bytesOf 1 (records s.shadow.definitions).length })
            ∧ t.active = s.shadow ∧ t.shadow = s.active ∧ t.generation = (s.generation + 1) % 4294967296
            ∧ t.fallback = false ∧ t.round = none ∧ t.history = s.history ∧ t.counters = s.counters
            ∧ t.watches = s.watches ∧ t.timing = s.timing ∧ t.destination = s.destination ∧ t.stored = s.stored
            ∧ t.writing = some { bank := s.shadow, generation := (s.generation + 1) % 4294967296, timing := s.timing
                                 destination := s.destination }
            ∧ (∀ n : Fin 32, s.shadow.definitions[n] = none → t.controller n = none)
            ∧ (∀ (n : Fin 32) (d : ControllerDef), s.shadow.definitions[n] = some d → ∃ c : Controller, t.controller n = some c
              ∧ c.monitor = { observed := .none, lastFrame := none, stale := s.time + s.timing.stale * 1000
                              quiet := none }
              ∧ c.schedule.nextDue = s.time + 60000000
              ∧ (s.controller n = none → c.window = .locked ∧ c.mismatches = 0 ∧ c.schedule.postponed = 0
                ∧ c.schedule.overdue = false)
              ∧ ∀ b, s.controller n = some b → c.window = b.window ∧ c.mismatches = b.mismatches)
            ∧ ∃ u : State, (s.round = none → u = s)
              ∧ (∀ r, s.round = some r → s.shadow.definitions[r.controller] ≠ none → u = State.postponeScan { s with
                  round := none
                  line := { s.line with
                    originate := s.line.originate.filter (fun o => !o.isSummary)
                    turns := if (s.line.originate.head?).any OrigFrame.isSummary then 0 else s.line.turns } } r.controller)
              ∧ (∀ r, s.round = some r → s.shadow.definitions[r.controller] = none → u = { s with
                  round := none
                  line := { s.line with
                    originate := s.line.originate.filter (fun o => !o.isSummary)
                    turns := if (s.line.originate.head?).any OrigFrame.isSummary then 0 else s.line.turns } })
              ∧ t.line = u.line
              ∧ (∀ (n : Fin 32) (b c : Controller), u.controller n = some b → t.controller n = some c →
                c.schedule = { b.schedule with nextDue := s.time + 60000000 })
              ∧ ∀ q, q = u.post { kind := .bankSelected, time := s.time
                                  first := some (BitVec.ofNat 32 (records s.shadow.definitions).length) } →
                t.notices = q.notices ∧ t.dropped = q.dropped ∧ t.plant = q.plant))))

/-- OPEN-WINDOW (R26, R27): out of range, not defined, already, quarantined, rate limited, or accepted. That a notice
is posted before the reply is appended is the model's choice, L27. -/
def Obligations.OpenWindowDecidesInOrder : Prop :=
  ∀ (s : State) (p : Port) (f : Frame), s.takesCommand .openWindow p f →
    (31 < fieldAt (f.payload.drop 8) 0 1 ∨ WindowMode.ofCode (fieldAt (f.payload.drop 8) 3 1) = none →
      exec (.openWindow p f) s = .next (s.reply f .reply { status := .outOfRange }))
    ∧ ∀ (n : Fin 32) (m : WindowMode), fieldAt (f.payload.drop 8) 0 1 = n →
      WindowMode.ofCode (fieldAt (f.payload.drop 8) 3 1) = some m →
      (s.controller n = none → exec (.openWindow p f) s = .next (s.reply f .reply { status := .notFound }))
      ∧ (∀ w, s.window? n = some w → w ≠ .locked → (∀ c, w ≠ .quarantined c) →
        exec (.openWindow p f) s = .next (s.reply f .reply { status := .already }))
      ∧ (∀ c, s.window? n = some (.quarantined c) →
        exec (.openWindow p f) s = .next (s.reply f .reply { status := .state }))
      ∧ ∀ c, s.controller n = some c → c.window = .locked →
        (∀ retry, s.rateRefusal = some retry → exec (.openWindow p f) s =
          .next ((s.post { kind := .rateLimited, time := s.time, controller := some n
                           first := some (upperHalf retry), second := some (lowerHalf retry) }).reply f .reply
            { status := .rate, results := bytesOf 8 retry }))
        ∧ (s.rateRefusal = none → ∀ length, length =
            (if fieldAt (f.payload.drop 8) 1 2 = 0 then s.timing.win
              else max 60 (min (fieldAt (f.payload.drop 8) 1 2) 14400)) →
          exec (.openWindow p f) s = .next (State.reply
            ((s.recordOpening.setController n (some
              { c with window := .opening m length (s.time + s.timing.opening * 1000000) })).cancelRoundOf n) f .reply
            (if fieldAt (f.payload.drop 8) 1 2 ≠ 0 ∧ length ≠ fieldAt (f.payload.drop 8) 1 2 then
              { status := .clamped, results := bytesOf 2 length } else { status := .ok })))

/-- CLOSE-WINDOW (R32), QUARANTINE (R38, R39) and RELEASE (R40), by the controller number and its window state. The
order of the notices of one step, and that they are posted before the reply is appended, are the model's choices, L11
and L27. -/
def Obligations.WindowsCloseAndQuarantine : Prop :=
  ∀ (s : State) (p : Port) (f : Frame) (c : Command), c = .closeWindow ∨ c = .quarantine ∨ c = .release →
    s.takesCommand c p f →
    (31 < fieldAt (f.payload.drop 8) 0 1 →
      exec (managementInstr c p f) s = .next (s.reply f .reply { status := .outOfRange }))
    ∧ ∀ n : Fin 32, fieldAt (f.payload.drop 8) 0 1 = n →
      (s.window? n = none → exec (managementInstr c p f) s = .next (s.reply f .reply { status := .notFound }))
      ∧ ∀ w, s.window? n = some w →
        (c = .closeWindow → exec (managementInstr c p f) s = .next (State.reply
          (match w with
            | .locked => s
            | .quarantined _ => s
            | .opening _ _ _ => (s.setWindow n .locked).post
                { kind := .windowClosed, time := s.time, controller := some n, reason := some (.window .command) }
            | .opened _ _ => (s.setWindow n .locked).post
                { kind := .windowClosed, time := s.time, controller := some n, reason := some (.window .command) }
            | .transfer _ _ k => ((s.abort k true (some .locked) none).setWindow n .locked).post
                { kind := .windowClosed, time := s.time, controller := some n, reason := some (.window .command) }
            | .verify m d k x => s.setWindow n (.verify m d k (if x = none then some .command else x))
            | .commitWait m d k x => s.setWindow n (.commitWait m d k (if x = none then some .command else x)))
          f .reply { status := .ok }))
        ∧ (c = .quarantine →
          (∀ q, w = .quarantined q →
            exec (managementInstr c p f) s = .next (s.reply f .reply { status := .already }))
          ∧ ((∀ q, w ≠ .quarantined q) → exec (managementInstr c p f) s = .next (State.reply
            (State.cancelRoundOf (State.post (State.setWindow
              (match w with
                | .transfer _ _ k => s.abort k true (some .quarantine) none
                | .verify _ _ k _ => s.abort k true (some .quarantine) none
                | _ => s) n (.quarantined .manual))
              { kind := .quarantined, time := s.time, controller := some n
                reason := some (.quarantine .manual) }) n) f .reply { status := .ok })))
        ∧ (c = .release →
          ((∀ q, w ≠ .quarantined q) → exec (managementInstr c p f) s = .next (s.reply f .reply { status := .state }))
          ∧ ∀ q, w = .quarantined q →
            ((∃ k x d, s.slot k = .released x d ∧ x.controller = n) →
              exec (managementInstr c p f) s = .next (s.reply f .reply { status := .busy }))
            ∧ ((∀ k x d, s.slot k = .released x d → x.controller ≠ n) →
              exec (managementInstr c p f) s = .next (((s.setWindow n .locked).post
                { kind := .released, time := s.time, controller := some n, reason := some (.quarantine q) }).reply
                f .reply { status := .ok })))

/-- APPROVE-CANDIDATE and DISCARD-CANDIDATE (R116, R117), ARM-WATCH and DISARM-WATCH (R134). What ARM-WATCH's reply
carries of the watch is the model's reading, L17. -/
def Obligations.CandidatesAndWatches : Prop :=
  ∀ (s : State) (p : Port) (f : Frame),
    (s.takesCommand .approveCandidate p f →
      (255 < fieldAt (f.payload.drop 8) 0 2 →
        exec (.approveCandidate p f) s = .next (s.reply f .reply { status := .outOfRange }))
      ∧ (∀ i, fieldAt (f.payload.drop 8) 0 2 = i → i ≤ 255 →
        ((∀ r, s.active.images[i]? = some (some r) → r.status = .approved) →
          exec (.approveCandidate p f) s = .next (s.reply f .reply { status := .notFound }))
        ∧ ∀ r t, s.active.images[i]? = some (some r) → r.status = .candidate t → exec (.approveCandidate p f) s =
          .next (State.reply { s with active := { s.active with
              images := s.active.images.setIfInBounds i (some { r with status := .approved }) } } f .reply
            { status := .ok
              results := bytesOf 1 r.controller ++ bytesOf 2 r.cls ++ bytesOf 2 r.idx ++ bytesOf 4 r.length
                ++ bytesOf 4 r.fingerprint.toNat })))
    ∧ (s.takesCommand .discardCandidate p f →
      (1 < fieldAt (f.payload.drop 8) 0 1 ∨ 255 < fieldAt (f.payload.drop 8) 1 2 →
        exec (.discardCandidate p f) s = .next (s.reply f .reply { status := .outOfRange }))
      ∧ ∀ i b, fieldAt (f.payload.drop 8) 1 2 = i → i ≤ 255 → fieldAt (f.payload.drop 8) 0 1 ≤ 1 →
        b = (if fieldAt (f.payload.drop 8) 0 1 = 0 then s.active else s.shadow) →
        ((∀ r, b.images[i]? = some (some r) → r.status = .approved) →
          exec (.discardCandidate p f) s = .next (s.reply f .reply { status := .notFound }))
        ∧ ∀ r t, b.images[i]? = some (some r) → r.status = .candidate t →
          (fieldAt (f.payload.drop 8) 0 1 = 0 → exec (.discardCandidate p f) s =
            .next (State.reply { s with active := { b with images := b.images.setIfInBounds i none } } f .reply
              { status := .ok }))
          ∧ (fieldAt (f.payload.drop 8) 0 1 = 1 → exec (.discardCandidate p f) s =
            .next (State.reply { s with shadow := { b with images := b.images.setIfInBounds i none } } f .reply
              { status := .ok })))
    ∧ (s.takesCommand .armWatch p f →
      (7 < fieldAt (f.payload.drop 8) 0 1 ∨ 31 < fieldAt (f.payload.drop 8) 1 1
          ∨ (255 < fieldAt (f.payload.drop 8) 2 2 ∧ fieldAt (f.payload.drop 8) 2 2 ≠ 65535)
          ∨ fieldAt (f.payload.drop 8) 6 2 < fieldAt (f.payload.drop 8) 4 2 ∨ 1 < fieldAt (f.payload.drop 8) 8 1
          ∨ 1 < fieldAt (f.payload.drop 8) 9 1 →
        exec (.armWatch p f) s = .next (s.reply f .reply { status := .outOfRange }))
      ∧ ∀ (w : Fin 8) (x : Watch), fieldAt (f.payload.drop 8) 0 1 = w → fieldAt (f.payload.drop 8) 1 1 = x.controller →
        fieldAt (f.payload.drop 8) 2 2 = x.cls.getD 65535 → (∀ c ∈ x.cls, c ≤ 255) →
        fieldAt (f.payload.drop 8) 4 2 = x.low → fieldAt (f.payload.drop 8) 6 2 = x.high → x.low ≤ x.high →
        fieldAt (f.payload.drop 8) 8 1 = x.all.toNat → fieldAt (f.payload.drop 8) 9 1 = x.repeats.toNat →
        exec (.armWatch p f) s = .next ((s.setWatch w (some x)).reply f .reply
          { status := .ok, results := watchBytes x }))
    ∧ (s.takesCommand .disarmWatch p f →
      (7 < fieldAt (f.payload.drop 8) 0 1 →
        exec (.disarmWatch p f) s = .next (s.reply f .reply { status := .outOfRange }))
      ∧ ∀ w : Fin 8, fieldAt (f.payload.drop 8) 0 1 = w →
        exec (.disarmWatch p f) s = .next ((s.setWatch w none).reply f .reply { status := .ok }))

/-- READ-COUNTERS (R167); SET-TIMING, which brings a value into the range of its parameter (R168); and
SET-NOTICE-DESTINATION (R138, R169). What tells a group address is PRESUMED, L9. -/
def Obligations.CountersAndSettings : Prop :=
  ∀ (s : State) (p : Port) (f : Frame),
    (s.takesCommand .readCounters p f →
      (1 < fieldAt (f.payload.drop 8) 1 1
          ∨ (31 < fieldAt (f.payload.drop 8) 0 1 ∧ fieldAt (f.payload.drop 8) 0 1 ≠ 255) →
        exec (.readCounters p f) s = .next (s.reply f .reply { status := .outOfRange }))
      ∧ (∀ n : Fin 32, fieldAt (f.payload.drop 8) 0 1 = n →
        (fieldAt (f.payload.drop 8) 1 1 = 0 → exec (.readCounters p f) s = .next (s.reply f .reply
          { status := .ok
            results := bytesOf 4 (s.count n).admitted ++ bytesOf 4 (s.count n).refusals ++ bytesOf 4 (s.count n).released
              ++ bytesOf 4 (s.count n).mismatches }))
        ∧ (fieldAt (f.payload.drop 8) 1 1 = 1 → exec (.readCounters p f) s = .next (State.reply
          (s.setCount n { admitted := 0, refusals := 0, released := 0, mismatches := 0 }) f .reply
          { status := .ok
            results := bytesOf 4 (s.count n).admitted ++ bytesOf 4 (s.count n).refusals ++ bytesOf 4 (s.count n).released
              ++ bytesOf 4 (s.count n).mismatches })))
      ∧ (fieldAt (f.payload.drop 8) 0 1 = 255 → fieldAt (f.payload.drop 8) 1 1 ≤ 1 →
        exec (.readCounters p f) s = .next (State.reply
          (if fieldAt (f.payload.drop 8) 1 1 = 1 then { s with device :=
            { receivedDiscarded := 0, malformed := 0, segmentDrop := 0, notSent := 0, linkDiscarded := 0
              forwardOverflow := 0 } } else s) f .reply
          { status := .ok
            results := bytesOf 4 s.device.receivedDiscarded ++ bytesOf 4 s.device.malformed
              ++ bytesOf 4 s.device.segmentDrop ++ bytesOf 4 s.device.notSent ++ bytesOf 4 s.device.linkDiscarded
              ++ bytesOf 4 s.device.forwardOverflow })))
    ∧ (s.takesCommand .setTiming p f →
      (fieldAt (f.payload.drop 8) 0 1 = 0 ∨ 7 < fieldAt (f.payload.drop 8) 0 1 →
        exec (.setTiming p f) s = .next (s.reply f .reply { status := .outOfRange }))
      ∧ ∀ code lowest highest, (code, lowest, highest) ∈
          [(1, 100, 30000), (2, 5, 600), (3, 10, 5000), (4, 60, 14400), (5, 60, 3600), (6, 100, 60000), (7, 100, 30000)] →
        fieldAt (f.payload.drop 8) 0 1 = code →
        (s.writing ≠ none → exec (.setTiming p f) s = .next (s.reply f .reply { status := .storeBusy }))
        ∧ (s.writing = none → ∀ v t, v = max lowest (min (fieldAt (f.payload.drop 8) 1 4) highest) →
          t = { settle := if code = 1 then v else s.timing.settle, opening := if code = 2 then v else s.timing.opening
                stale := if code = 3 then v else s.timing.stale, win := if code = 4 then v else s.timing.win
                openRate := if code = 5 then v else s.timing.openRate, seg := if code = 6 then v else s.timing.seg
                resp := if code = 7 then v else s.timing.resp } →
          exec (.setTiming p f) s = .next (State.reply
            { s with
              timing := t
              writing := if s.fallback then none
                else some { bank := s.active, generation := s.generation, timing := t, destination := s.destination } }
            f .reply
            { status := if v = fieldAt (f.payload.drop 8) 1 4 then .ok else .clamped
              results := bytesOf 1 code ++ bytesOf 4 v })))
    ∧ (s.takesCommand .setNoticeDestination p f → ∀ a, a = addrAt (f.payload.drop 8) 0 →
      (isGroup a = true ∨ a = s.identity.station →
        exec (.setNoticeDestination p f) s = .next (s.reply f .reply { status := .outOfRange }))
      ∧ (isGroup a = false → a ≠ s.identity.station →
        (s.writing ≠ none →
          exec (.setNoticeDestination p f) s = .next (s.reply f .reply { status := .storeBusy }))
        ∧ (s.writing = none → exec (.setNoticeDestination p f) s = .next (State.reply
          { s with
            destination := a
            notices := if a = 0#48 then [] else s.notices
            dropped := if a = 0#48 then 0 else s.dropped
            writing := if s.fallback then none
              else some { bank := s.active, generation := s.generation, timing := s.timing, destination := a } }
          f .reply { status := .ok, results := bytesOf 6 a.toNat }))))

/-! ## Layouts -/

/-- The fields of an OX header are read back from its 28 bytes, whatever follows them (R172, R173); and the frames
the filter builds (R16): a refusal response echoes the request and names the address it was aimed at, an ABANDON
names its transfer, a SUMMARY names its record. A notice frame carries its kind, its presence flags, the dropped
count, the reason and the fields it has, each at its offset and zero where absent, in 36 bytes padded to 46 (R175).
-/
def Obligations.BuiltFramesCarryTheirFields : Prop :=
  (∀ (h : OxHeader) (tail : List Byte),
    h.version < 256 → h.operation < 256 → h.response < 256 → h.claimed < 256 → h.status < 256 → h.detail < 256 →
    h.tag < 65536 → h.tid < 65536 → h.cls < 256 → h.idx < 65536 → h.number < 65536 → h.words < 65536 →
    h.declared < 4294967296 →
    (oxHeaderBytes h).length = 28 ∧ oxHeader (oxHeaderBytes h ++ tail) = h)
  ∧ (∀ (own target : Addr) (f : Frame) (r : Reason) (x : Transfer) (i : ImageRecord) (tag : Nat),
      x.tid < 65536 → x.cls < 256 → x.idx < 65536 → i.cls < 256 → i.idx < 65536 → tag < 65536 →
      (oxHeader (refusalFrame own f r).payload =
          { version := 1, operation := (oxHeader f.payload).operation, response := 1
            claimed := (oxHeader f.payload).claimed, status := 4, detail := r.code, tag := (oxHeader f.payload).tag
            tid := (oxHeader f.payload).tid, cls := (oxHeader f.payload).cls, idx := (oxHeader f.payload).idx
            number := (oxHeader f.payload).number, words := 0, declared := (oxHeader f.payload).declared
            behalf := f.dst }
        ∧ (refusalFrame own f r).dst = f.src)
      ∧ (oxHeader (abandonFrame own target x).payload =
          { version := 1, operation := 7, response := 0, claimed := 0, status := 0, detail := 0, tag := x.tid
            tid := x.tid, cls := x.cls, idx := x.idx, number := 0, words := 0, declared := 0, behalf := x.requester }
        ∧ (abandonFrame own target x).dst = target)
      ∧ (oxHeader (summaryFrame own target tag i).payload =
          { version := 1, operation := 2, response := 0, claimed := 0, status := 0, detail := 0, tag := tag, tid := 0
            cls := i.cls, idx := i.idx, number := 0, words := 0, declared := 0, behalf := 0#48 }
        ∧ (summaryFrame own target tag i).dst = target)
      ∧ ∀ g ∈ [refusalFrame own f r, abandonFrame own target x, summaryFrame own target tag i],
          g.src = own ∧ g.etype = 0x9A31#16 ∧ g.payload.length = 46 ∧ g.payload.drop 28 = List.replicate 18 0#8)
  ∧ (∀ (own target : Addr) (x : Notice) (dropped : Nat) (bs : List Byte), dropped ≤ 255 → x.time < 18446744073709551616 →
      (∀ o ∈ x.object, o.1 < 256 ∧ o.2 < 65536) → (∀ t ∈ x.tid, t < 65536) →
      bs = (noticeFrame own target x dropped).payload →
      fieldAt bs 0 1 = 3 ∧ fieldAt bs 1 1 = x.kind.code
      ∧ fieldAt bs 2 1 = x.controller.isSome.toNat + 2 * x.station.isSome.toNat + 4 * x.object.isSome.toNat
          + 8 * x.tid.isSome.toNat + 16 * x.reason.isSome.toNat + 32 * x.first.isSome.toNat + 64 * x.second.isSome.toNat
      ∧ fieldAt bs 3 1 = dropped ∧ fieldAt bs 4 1 = (x.reason.map NoticeReason.code).getD 0 ∧ fieldAt bs 5 1 = 0
      ∧ fieldAt bs 6 8 = x.time ∧ fieldAt bs 14 1 = (x.controller.map Fin.val).getD 0 ∧ fieldAt bs 15 1 = 0
      ∧ addrAt bs 16 = x.station.getD 0#48 ∧ fieldAt bs 22 1 = (x.object.map Prod.fst).getD 0 ∧ fieldAt bs 23 1 = 0
      ∧ fieldAt bs 24 2 = (x.object.map Prod.snd).getD 0 ∧ fieldAt bs 26 2 = x.tid.getD 0
      ∧ fieldAt bs 28 4 = (x.first.getD 0#32).toNat ∧ fieldAt bs 32 4 = (x.second.getD 0#32).toNat
      ∧ bs.length = 46 ∧ bs.drop 36 = List.replicate 10 0#8
      ∧ (noticeFrame own target x dropped).dst = target ∧ (noticeFrame own target x dropped).src = own
      ∧ (noticeFrame own target x dropped).etype = Config.managementType)
  ∧ [NoticeKind.refused, .malformed, .windowOpened, .windowFailed, .windowClosed, .rateLimited, .transferAborted,
      .commitReleased, .commitFailed, .commitUnconfirmed, .imageMismatch, .imageLearned, .quarantined, .released,
      .drift, .scanNoResponse, .scanOverdue, .watchHit, .mgmtRefused, .bankSelected, .storeFailed].map
      NoticeKind.code = List.range' 1 21
  ∧ ([Reason.unknownSource, .noGrant, .level, .noRight, .locked, .quarantine, .busy, .noTransfer, .sequence, .length,
      .tooLong, .noImage, .mismatch, .imageFull, .slotsFull, .closed, .timeout].map
      (fun r => (NoticeReason.reason r).code) = List.range' 1 17)
  ∧ ([WindowCause.command, .expired, .running, .stale, .singleDone, .link, .runAfterCommit, .notQuiet].map
      (fun c => (NoticeReason.window c).code) = List.range' 1 8)
  ∧ ([QuarantineCause.drift, .mismatchLimit, .manual].map (fun c => (NoticeReason.quarantine c).code) = [1, 2, 3])
  ∧ ([WindowMode.single, .span].map (fun m => (NoticeReason.mode m).code) = [1, 2])
end

