-- ==== Sys2Proof/Laws/Bytes.lean ====
section
/-! SUPPORT. Fields written into bytes are read back: the laws of `bytesOf`, `natOf` and `fieldAt` that the layouts of
frames and records rest on. -/

namespace Sys2Proof.Machine

@[simp] theorem bytesOf_length (n v : Nat) : (bytesOf n v).length = n := by
  induction n with
  | zero => rfl
  | succ n ih => simp [bytesOf, ih]

theorem natOf_foldl (bs : List Byte) (a : Nat) :
    bs.foldl (fun acc b => acc * 256 + b.toNat) a = a * 256 ^ bs.length + natOf bs := by
  unfold natOf
  induction bs generalizing a with
  | nil => simp
  | cons b bs ih =>
    rw [List.foldl_cons, ih, List.foldl_cons, ih (0 * 256 + b.toNat), List.length_cons, Nat.pow_succ, Nat.add_mul,
      Nat.zero_mul, Nat.zero_add, Nat.mul_assoc, Nat.mul_comm 256, Nat.add_assoc]

/-- The bytes of a value spell it, modulo what they can hold. -/
theorem natOf_bytesOf (n v : Nat) : natOf (bytesOf n v) = v % 256 ^ n := by
  induction n with
  | zero => simp [bytesOf, natOf, Nat.mod_one]
  | succ n ih =>
    have hsplit : natOf (bytesOf (n + 1) v) = (v / 256 ^ n % 256) * 256 ^ n + natOf (bytesOf n v) := by
      show List.foldl _ (0 * 256 + _) _ = _
      rw [natOf_foldl, bytesOf_length]; simp
    rw [hsplit, ih, Nat.pow_succ, Nat.mod_mul, Nat.mul_comm, Nat.add_comm]

/-- A run of bytes is below what its length can hold. -/
theorem natOf_lt (bs : List Byte) : natOf bs < 256 ^ bs.length := by
  induction bs with
  | nil => simp [natOf]
  | cons b bs ih =>
    have hcons : natOf (b :: bs) = b.toNat * 256 ^ bs.length + natOf bs := by
      show List.foldl _ (0 * 256 + _) _ = _
      rw [natOf_foldl]; simp
    have hb : b.toNat + 1 ≤ 256 := b.isLt
    have hmul := Nat.mul_le_mul_right (256 ^ bs.length) hb
    rw [hcons, List.length_cons, Nat.pow_succ]
    rw [Nat.add_mul] at hmul
    omega

theorem fieldAt_lt (bs : List Byte) (off len : Nat) : fieldAt bs off len < 256 ^ len :=
  Nat.lt_of_lt_of_le (natOf_lt _) (Nat.pow_le_pow_right (by omega) (List.length_take_le ..))

/-- Bytes that end at or before the offset of a field take no part in it. -/
theorem fieldAt_append (a b : List Byte) (off len : Nat) (h : a.length ≤ off) :
    fieldAt (a ++ b) off len = fieldAt b (off - a.length) len := by
  simp [fieldAt, List.drop_append, List.drop_eq_nil_of_le h]

theorem fieldAt_bytesOf_append (n v : Nat) (b : List Byte) (off len : Nat) (h : n ≤ off) :
    fieldAt (bytesOf n v ++ b) off len = fieldAt b (off - n) len := by
  rw [fieldAt_append _ _ _ _ (by rw [bytesOf_length]; exact h), bytesOf_length]

theorem fieldAt_addrBytes_append (a : Addr) (b : List Byte) (off len : Nat) (h : 6 ≤ off) :
    fieldAt (addrBytes a ++ b) off len = fieldAt b (off - 6) len :=
  fieldAt_bytesOf_append 6 _ b off len h

theorem fieldAt_cons (x : Byte) (b : List Byte) (off len : Nat) (h : 1 ≤ off) :
    fieldAt (x :: b) off len = fieldAt b (off - 1) len :=
  fieldAt_append [x] b off len h

/-- A field at the front is read back. -/
theorem fieldAt_bytesOf (n v : Nat) (tail : List Byte) : fieldAt (bytesOf n v ++ tail) 0 n = v % 256 ^ n := by
  rw [fieldAt, List.drop_zero, List.take_append_of_le_length (by simp), List.take_of_length_le (by simp), natOf_bytesOf]

theorem fieldAt_addrBytes (a : Addr) (tail : List Byte) : fieldAt (addrBytes a ++ tail) 0 6 = a.toNat := by
  rw [addrBytes, fieldAt_bytesOf]; exact Nat.mod_eq_of_lt a.isLt

theorem fieldAt_byte (x : Byte) (tail : List Byte) : fieldAt (x :: tail) 0 1 = x.toNat := by
  simp [fieldAt, natOf]

theorem Rights.ofCode_code (r : Rights) : Rights.ofCode r.code = some r := by
  obtain ⟨a, b, c, d, e⟩ := r
  revert a b c d e; decide

theorem Rights.code_lt (r : Rights) : r.code < 32 := by
  obtain ⟨a, b, c, d, e⟩ := r
  revert a b c d e; decide

theorem distinctBytes_iff (l : List Byte) : distinctBytes l = true ↔ l.Nodup := by
  induction l with
  | nil => simp [distinctBytes]
  | cons b l ih => simp [distinctBytes, ih]

end Sys2Proof.Machine
end

