-- ==== Sys2Proof/Laws/State.lean ====
section
/-! SUPPORT. What each named update of the state leaves as it was: one lemma for each field it does not write. -/

namespace Sys2Proof.Machine

/-! ### One record of a table -/

section setController
variable (s : State) (n : Fin 32) (c : Option Controller)

@[simp] theorem State.setController_identity : (s.setController n c).identity = s.identity := rfl
@[simp] theorem State.setController_powered : (s.setController n c).powered = s.powered := rfl
@[simp] theorem State.setController_time : (s.setController n c).time = s.time := rfl
@[simp] theorem State.setController_timing : (s.setController n c).timing = s.timing := rfl
@[simp] theorem State.setController_fallback : (s.setController n c).fallback = s.fallback := rfl
@[simp] theorem State.setController_generation : (s.setController n c).generation = s.generation := rfl
@[simp] theorem State.setController_active : (s.setController n c).active = s.active := rfl
@[simp] theorem State.setController_shadow : (s.setController n c).shadow = s.shadow := rfl
@[simp] theorem State.setController_counters : (s.setController n c).counters = s.counters := rfl
@[simp] theorem State.setController_device : (s.setController n c).device = s.device := rfl
@[simp] theorem State.setController_history : (s.setController n c).history = s.history := rfl
@[simp] theorem State.setController_slots : (s.setController n c).slots = s.slots := rfl
@[simp] theorem State.setController_waiting : (s.setController n c).waiting = s.waiting := rfl
@[simp] theorem State.setController_lanes : (s.setController n c).lanes = s.lanes := rfl
@[simp] theorem State.setController_tagCounter : (s.setController n c).tagCounter = s.tagCounter := rfl
@[simp] theorem State.setController_round : (s.setController n c).round = s.round := rfl
@[simp] theorem State.setController_watches : (s.setController n c).watches = s.watches := rfl
@[simp] theorem State.setController_notices : (s.setController n c).notices = s.notices := rfl
@[simp] theorem State.setController_dropped : (s.setController n c).dropped = s.dropped := rfl
@[simp] theorem State.setController_destination : (s.setController n c).destination = s.destination := rfl
@[simp] theorem State.setController_plant : (s.setController n c).plant = s.plant := rfl
@[simp] theorem State.setController_line : (s.setController n c).line = s.line := rfl
@[simp] theorem State.setController_stored : (s.setController n c).stored = s.stored := rfl
@[simp] theorem State.setController_writing : (s.setController n c).writing = s.writing := rfl
@[simp] theorem State.setController_restartPending : (s.setController n c).restartPending = s.restartPending := rfl
@[simp] theorem State.setController_lineClosed : (s.setController n c).lineClosed = s.lineClosed := rfl
@[simp] theorem State.setController_lineWaiting : (s.setController n c).lineWaiting = s.lineWaiting := rfl
@[simp] theorem State.setController_pending : (s.setController n c).pending = s.pending := rfl
@[simp] theorem State.setController_choices : (s.setController n c).choices = s.choices := rfl

end setController

/-! ### A slot -/

section setSlot
variable (s : State) (k : Fin 8) (x : Slot)

@[simp] theorem State.setSlot_identity : (s.setSlot k x).identity = s.identity := rfl
@[simp] theorem State.setSlot_powered : (s.setSlot k x).powered = s.powered := rfl
@[simp] theorem State.setSlot_time : (s.setSlot k x).time = s.time := rfl
@[simp] theorem State.setSlot_timing : (s.setSlot k x).timing = s.timing := rfl
@[simp] theorem State.setSlot_fallback : (s.setSlot k x).fallback = s.fallback := rfl
@[simp] theorem State.setSlot_generation : (s.setSlot k x).generation = s.generation := rfl
@[simp] theorem State.setSlot_active : (s.setSlot k x).active = s.active := rfl
@[simp] theorem State.setSlot_shadow : (s.setSlot k x).shadow = s.shadow := rfl
@[simp] theorem State.setSlot_controllers : (s.setSlot k x).controllers = s.controllers := rfl
@[simp] theorem State.setSlot_counters : (s.setSlot k x).counters = s.counters := rfl
@[simp] theorem State.setSlot_device : (s.setSlot k x).device = s.device := rfl
@[simp] theorem State.setSlot_history : (s.setSlot k x).history = s.history := rfl
@[simp] theorem State.setSlot_waiting : (s.setSlot k x).waiting = s.waiting := rfl
@[simp] theorem State.setSlot_lanes : (s.setSlot k x).lanes = s.lanes := rfl
@[simp] theorem State.setSlot_tagCounter : (s.setSlot k x).tagCounter = s.tagCounter := rfl
@[simp] theorem State.setSlot_round : (s.setSlot k x).round = s.round := rfl
@[simp] theorem State.setSlot_watches : (s.setSlot k x).watches = s.watches := rfl
@[simp] theorem State.setSlot_notices : (s.setSlot k x).notices = s.notices := rfl
@[simp] theorem State.setSlot_dropped : (s.setSlot k x).dropped = s.dropped := rfl
@[simp] theorem State.setSlot_destination : (s.setSlot k x).destination = s.destination := rfl
@[simp] theorem State.setSlot_plant : (s.setSlot k x).plant = s.plant := rfl
@[simp] theorem State.setSlot_line : (s.setSlot k x).line = s.line := rfl
@[simp] theorem State.setSlot_stored : (s.setSlot k x).stored = s.stored := rfl
@[simp] theorem State.setSlot_writing : (s.setSlot k x).writing = s.writing := rfl
@[simp] theorem State.setSlot_restartPending : (s.setSlot k x).restartPending = s.restartPending := rfl
@[simp] theorem State.setSlot_lineClosed : (s.setSlot k x).lineClosed = s.lineClosed := rfl
@[simp] theorem State.setSlot_lineWaiting : (s.setSlot k x).lineWaiting = s.lineWaiting := rfl
@[simp] theorem State.setSlot_pending : (s.setSlot k x).pending = s.pending := rfl
@[simp] theorem State.setSlot_choices : (s.setSlot k x).choices = s.choices := rfl

end setSlot

/-! ### A lane -/

section setLane
variable (s : State) (l : Fin 2) (w : Option LaneWork)

@[simp] theorem State.setLane_identity : (s.setLane l w).identity = s.identity := rfl
@[simp] theorem State.setLane_powered : (s.setLane l w).powered = s.powered := rfl
@[simp] theorem State.setLane_time : (s.setLane l w).time = s.time := rfl
@[simp] theorem State.setLane_timing : (s.setLane l w).timing = s.timing := rfl
@[simp] theorem State.setLane_fallback : (s.setLane l w).fallback = s.fallback := rfl
@[simp] theorem State.setLane_generation : (s.setLane l w).generation = s.generation := rfl
@[simp] theorem State.setLane_active : (s.setLane l w).active = s.active := rfl
@[simp] theorem State.setLane_shadow : (s.setLane l w).shadow = s.shadow := rfl
@[simp] theorem State.setLane_controllers : (s.setLane l w).controllers = s.controllers := rfl
@[simp] theorem State.setLane_counters : (s.setLane l w).counters = s.counters := rfl
@[simp] theorem State.setLane_device : (s.setLane l w).device = s.device := rfl
@[simp] theorem State.setLane_history : (s.setLane l w).history = s.history := rfl
@[simp] theorem State.setLane_slots : (s.setLane l w).slots = s.slots := rfl
@[simp] theorem State.setLane_waiting : (s.setLane l w).waiting = s.waiting := rfl
@[simp] theorem State.setLane_tagCounter : (s.setLane l w).tagCounter = s.tagCounter := rfl
@[simp] theorem State.setLane_round : (s.setLane l w).round = s.round := rfl
@[simp] theorem State.setLane_watches : (s.setLane l w).watches = s.watches := rfl
@[simp] theorem State.setLane_notices : (s.setLane l w).notices = s.notices := rfl
@[simp] theorem State.setLane_dropped : (s.setLane l w).dropped = s.dropped := rfl
@[simp] theorem State.setLane_destination : (s.setLane l w).destination = s.destination := rfl
@[simp] theorem State.setLane_plant : (s.setLane l w).plant = s.plant := rfl
@[simp] theorem State.setLane_line : (s.setLane l w).line = s.line := rfl
@[simp] theorem State.setLane_stored : (s.setLane l w).stored = s.stored := rfl
@[simp] theorem State.setLane_writing : (s.setLane l w).writing = s.writing := rfl
@[simp] theorem State.setLane_restartPending : (s.setLane l w).restartPending = s.restartPending := rfl
@[simp] theorem State.setLane_lineClosed : (s.setLane l w).lineClosed = s.lineClosed := rfl
@[simp] theorem State.setLane_lineWaiting : (s.setLane l w).lineWaiting = s.lineWaiting := rfl
@[simp] theorem State.setLane_pending : (s.setLane l w).pending = s.pending := rfl
@[simp] theorem State.setLane_choices : (s.setLane l w).choices = s.choices := rfl

end setLane

/-! ### A watch -/

section setWatch
variable (s : State) (w : Fin 8) (x : Option Watch)

@[simp] theorem State.setWatch_identity : (s.setWatch w x).identity = s.identity := rfl
@[simp] theorem State.setWatch_powered : (s.setWatch w x).powered = s.powered := rfl
@[simp] theorem State.setWatch_time : (s.setWatch w x).time = s.time := rfl
@[simp] theorem State.setWatch_timing : (s.setWatch w x).timing = s.timing := rfl
@[simp] theorem State.setWatch_fallback : (s.setWatch w x).fallback = s.fallback := rfl
@[simp] theorem State.setWatch_generation : (s.setWatch w x).generation = s.generation := rfl
@[simp] theorem State.setWatch_active : (s.setWatch w x).active = s.active := rfl
@[simp] theorem State.setWatch_shadow : (s.setWatch w x).shadow = s.shadow := rfl
@[simp] theorem State.setWatch_controllers : (s.setWatch w x).controllers = s.controllers := rfl
@[simp] theorem State.setWatch_counters : (s.setWatch w x).counters = s.counters := rfl
@[simp] theorem State.setWatch_device : (s.setWatch w x).device = s.device := rfl
@[simp] theorem State.setWatch_history : (s.setWatch w x).history = s.history := rfl
@[simp] theorem State.setWatch_slots : (s.setWatch w x).slots = s.slots := rfl
@[simp] theorem State.setWatch_waiting : (s.setWatch w x).waiting = s.waiting := rfl
@[simp] theorem State.setWatch_lanes : (s.setWatch w x).lanes = s.lanes := rfl
@[simp] theorem State.setWatch_tagCounter : (s.setWatch w x).tagCounter = s.tagCounter := rfl
@[simp] theorem State.setWatch_round : (s.setWatch w x).round = s.round := rfl
@[simp] theorem State.setWatch_notices : (s.setWatch w x).notices = s.notices := rfl
@[simp] theorem State.setWatch_dropped : (s.setWatch w x).dropped = s.dropped := rfl
@[simp] theorem State.setWatch_destination : (s.setWatch w x).destination = s.destination := rfl
@[simp] theorem State.setWatch_plant : (s.setWatch w x).plant = s.plant := rfl
@[simp] theorem State.setWatch_line : (s.setWatch w x).line = s.line := rfl
@[simp] theorem State.setWatch_stored : (s.setWatch w x).stored = s.stored := rfl
@[simp] theorem State.setWatch_writing : (s.setWatch w x).writing = s.writing := rfl
@[simp] theorem State.setWatch_restartPending : (s.setWatch w x).restartPending = s.restartPending := rfl
@[simp] theorem State.setWatch_lineClosed : (s.setWatch w x).lineClosed = s.lineClosed := rfl
@[simp] theorem State.setWatch_lineWaiting : (s.setWatch w x).lineWaiting = s.lineWaiting := rfl
@[simp] theorem State.setWatch_pending : (s.setWatch w x).pending = s.pending := rfl
@[simp] theorem State.setWatch_choices : (s.setWatch w x).choices = s.choices := rfl

end setWatch

/-! ### A port -/

section setPort
variable (s : State) (p : Port) (x : PortState)

@[simp] theorem State.setPort_identity : (s.setPort p x).identity = s.identity := by cases p <;> rfl
@[simp] theorem State.setPort_powered : (s.setPort p x).powered = s.powered := by cases p <;> rfl
@[simp] theorem State.setPort_time : (s.setPort p x).time = s.time := by cases p <;> rfl
@[simp] theorem State.setPort_timing : (s.setPort p x).timing = s.timing := by cases p <;> rfl
@[simp] theorem State.setPort_fallback : (s.setPort p x).fallback = s.fallback := by cases p <;> rfl
@[simp] theorem State.setPort_generation : (s.setPort p x).generation = s.generation := by cases p <;> rfl
@[simp] theorem State.setPort_active : (s.setPort p x).active = s.active := by cases p <;> rfl
@[simp] theorem State.setPort_shadow : (s.setPort p x).shadow = s.shadow := by cases p <;> rfl
@[simp] theorem State.setPort_controllers : (s.setPort p x).controllers = s.controllers := by cases p <;> rfl
@[simp] theorem State.setPort_counters : (s.setPort p x).counters = s.counters := by cases p <;> rfl
@[simp] theorem State.setPort_device : (s.setPort p x).device = s.device := by cases p <;> rfl
@[simp] theorem State.setPort_history : (s.setPort p x).history = s.history := by cases p <;> rfl
@[simp] theorem State.setPort_slots : (s.setPort p x).slots = s.slots := by cases p <;> rfl
@[simp] theorem State.setPort_waiting : (s.setPort p x).waiting = s.waiting := by cases p <;> rfl
@[simp] theorem State.setPort_lanes : (s.setPort p x).lanes = s.lanes := by cases p <;> rfl
@[simp] theorem State.setPort_tagCounter : (s.setPort p x).tagCounter = s.tagCounter := by cases p <;> rfl
@[simp] theorem State.setPort_round : (s.setPort p x).round = s.round := by cases p <;> rfl
@[simp] theorem State.setPort_watches : (s.setPort p x).watches = s.watches := by cases p <;> rfl
@[simp] theorem State.setPort_notices : (s.setPort p x).notices = s.notices := by cases p <;> rfl
@[simp] theorem State.setPort_dropped : (s.setPort p x).dropped = s.dropped := by cases p <;> rfl
@[simp] theorem State.setPort_destination : (s.setPort p x).destination = s.destination := by cases p <;> rfl
@[simp] theorem State.setPort_stored : (s.setPort p x).stored = s.stored := by cases p <;> rfl
@[simp] theorem State.setPort_writing : (s.setPort p x).writing = s.writing := by cases p <;> rfl
@[simp] theorem State.setPort_restartPending : (s.setPort p x).restartPending = s.restartPending := by cases p <;> rfl
@[simp] theorem State.setPort_lineClosed : (s.setPort p x).lineClosed = s.lineClosed := by cases p <;> rfl
@[simp] theorem State.setPort_lineWaiting : (s.setPort p x).lineWaiting = s.lineWaiting := by cases p <;> rfl
@[simp] theorem State.setPort_pending : (s.setPort p x).pending = s.pending := by cases p <;> rfl
@[simp] theorem State.setPort_choices : (s.setPort p x).choices = s.choices := by cases p <;> rfl

end setPort

/-! ### The counters of a controller number -/

section setCount
variable (s : State) (n : Fin 32) (c : ControllerCounters)

@[simp] theorem State.setCount_identity : (s.setCount n c).identity = s.identity := rfl
@[simp] theorem State.setCount_powered : (s.setCount n c).powered = s.powered := rfl
@[simp] theorem State.setCount_time : (s.setCount n c).time = s.time := rfl
@[simp] theorem State.setCount_timing : (s.setCount n c).timing = s.timing := rfl
@[simp] theorem State.setCount_fallback : (s.setCount n c).fallback = s.fallback := rfl
@[simp] theorem State.setCount_generation : (s.setCount n c).generation = s.generation := rfl
@[simp] theorem State.setCount_active : (s.setCount n c).active = s.active := rfl
@[simp] theorem State.setCount_shadow : (s.setCount n c).shadow = s.shadow := rfl
@[simp] theorem State.setCount_controllers : (s.setCount n c).controllers = s.controllers := rfl
@[simp] theorem State.setCount_device : (s.setCount n c).device = s.device := rfl
@[simp] theorem State.setCount_history : (s.setCount n c).history = s.history := rfl
@[simp] theorem State.setCount_slots : (s.setCount n c).slots = s.slots := rfl
@[simp] theorem State.setCount_waiting : (s.setCount n c).waiting = s.waiting := rfl
@[simp] theorem State.setCount_lanes : (s.setCount n c).lanes = s.lanes := rfl
@[simp] theorem State.setCount_tagCounter : (s.setCount n c).tagCounter = s.tagCounter := rfl
@[simp] theorem State.setCount_round : (s.setCount n c).round = s.round := rfl
@[simp] theorem State.setCount_watches : (s.setCount n c).watches = s.watches := rfl
@[simp] theorem State.setCount_notices : (s.setCount n c).notices = s.notices := rfl
@[simp] theorem State.setCount_dropped : (s.setCount n c).dropped = s.dropped := rfl
@[simp] theorem State.setCount_destination : (s.setCount n c).destination = s.destination := rfl
@[simp] theorem State.setCount_plant : (s.setCount n c).plant = s.plant := rfl
@[simp] theorem State.setCount_line : (s.setCount n c).line = s.line := rfl
@[simp] theorem State.setCount_stored : (s.setCount n c).stored = s.stored := rfl
@[simp] theorem State.setCount_writing : (s.setCount n c).writing = s.writing := rfl
@[simp] theorem State.setCount_restartPending : (s.setCount n c).restartPending = s.restartPending := rfl
@[simp] theorem State.setCount_lineClosed : (s.setCount n c).lineClosed = s.lineClosed := rfl
@[simp] theorem State.setCount_lineWaiting : (s.setCount n c).lineWaiting = s.lineWaiting := rfl
@[simp] theorem State.setCount_pending : (s.setCount n c).pending = s.pending := rfl
@[simp] theorem State.setCount_choices : (s.setCount n c).choices = s.choices := rfl

end setCount

/-! ### countAdmitted -/

section countAdmitted
variable (s : State) (n : Fin 32)

@[simp] theorem State.countAdmitted_identity : (s.countAdmitted n).identity = s.identity := rfl
@[simp] theorem State.countAdmitted_powered : (s.countAdmitted n).powered = s.powered := rfl
@[simp] theorem State.countAdmitted_time : (s.countAdmitted n).time = s.time := rfl
@[simp] theorem State.countAdmitted_timing : (s.countAdmitted n).timing = s.timing := rfl
@[simp] theorem State.countAdmitted_fallback : (s.countAdmitted n).fallback = s.fallback := rfl
@[simp] theorem State.countAdmitted_generation : (s.countAdmitted n).generation = s.generation := rfl
@[simp] theorem State.countAdmitted_active : (s.countAdmitted n).active = s.active := rfl
@[simp] theorem State.countAdmitted_shadow : (s.countAdmitted n).shadow = s.shadow := rfl
@[simp] theorem State.countAdmitted_controllers : (s.countAdmitted n).controllers = s.controllers := rfl
@[simp] theorem State.countAdmitted_device : (s.countAdmitted n).device = s.device := rfl
@[simp] theorem State.countAdmitted_history : (s.countAdmitted n).history = s.history := rfl
@[simp] theorem State.countAdmitted_slots : (s.countAdmitted n).slots = s.slots := rfl
@[simp] theorem State.countAdmitted_waiting : (s.countAdmitted n).waiting = s.waiting := rfl
@[simp] theorem State.countAdmitted_lanes : (s.countAdmitted n).lanes = s.lanes := rfl
@[simp] theorem State.countAdmitted_tagCounter : (s.countAdmitted n).tagCounter = s.tagCounter := rfl
@[simp] theorem State.countAdmitted_round : (s.countAdmitted n).round = s.round := rfl
@[simp] theorem State.countAdmitted_watches : (s.countAdmitted n).watches = s.watches := rfl
@[simp] theorem State.countAdmitted_notices : (s.countAdmitted n).notices = s.notices := rfl
@[simp] theorem State.countAdmitted_dropped : (s.countAdmitted n).dropped = s.dropped := rfl
@[simp] theorem State.countAdmitted_destination : (s.countAdmitted n).destination = s.destination := rfl
@[simp] theorem State.countAdmitted_plant : (s.countAdmitted n).plant = s.plant := rfl
@[simp] theorem State.countAdmitted_line : (s.countAdmitted n).line = s.line := rfl
@[simp] theorem State.countAdmitted_stored : (s.countAdmitted n).stored = s.stored := rfl
@[simp] theorem State.countAdmitted_writing : (s.countAdmitted n).writing = s.writing := rfl
@[simp] theorem State.countAdmitted_restartPending : (s.countAdmitted n).restartPending = s.restartPending := rfl
@[simp] theorem State.countAdmitted_lineClosed : (s.countAdmitted n).lineClosed = s.lineClosed := rfl
@[simp] theorem State.countAdmitted_lineWaiting : (s.countAdmitted n).lineWaiting = s.lineWaiting := rfl
@[simp] theorem State.countAdmitted_pending : (s.countAdmitted n).pending = s.pending := rfl
@[simp] theorem State.countAdmitted_choices : (s.countAdmitted n).choices = s.choices := rfl

end countAdmitted

/-! ### countRefusal -/

section countRefusal
variable (s : State) (n : Fin 32)

@[simp] theorem State.countRefusal_identity : (s.countRefusal n).identity = s.identity := rfl
@[simp] theorem State.countRefusal_powered : (s.countRefusal n).powered = s.powered := rfl
@[simp] theorem State.countRefusal_time : (s.countRefusal n).time = s.time := rfl
@[simp] theorem State.countRefusal_timing : (s.countRefusal n).timing = s.timing := rfl
@[simp] theorem State.countRefusal_fallback : (s.countRefusal n).fallback = s.fallback := rfl
@[simp] theorem State.countRefusal_generation : (s.countRefusal n).generation = s.generation := rfl
@[simp] theorem State.countRefusal_active : (s.countRefusal n).active = s.active := rfl
@[simp] theorem State.countRefusal_shadow : (s.countRefusal n).shadow = s.shadow := rfl
@[simp] theorem State.countRefusal_controllers : (s.countRefusal n).controllers = s.controllers := rfl
@[simp] theorem State.countRefusal_device : (s.countRefusal n).device = s.device := rfl
@[simp] theorem State.countRefusal_history : (s.countRefusal n).history = s.history := rfl
@[simp] theorem State.countRefusal_slots : (s.countRefusal n).slots = s.slots := rfl
@[simp] theorem State.countRefusal_waiting : (s.countRefusal n).waiting = s.waiting := rfl
@[simp] theorem State.countRefusal_lanes : (s.countRefusal n).lanes = s.lanes := rfl
@[simp] theorem State.countRefusal_tagCounter : (s.countRefusal n).tagCounter = s.tagCounter := rfl
@[simp] theorem State.countRefusal_round : (s.countRefusal n).round = s.round := rfl
@[simp] theorem State.countRefusal_watches : (s.countRefusal n).watches = s.watches := rfl
@[simp] theorem State.countRefusal_notices : (s.countRefusal n).notices = s.notices := rfl
@[simp] theorem State.countRefusal_dropped : (s.countRefusal n).dropped = s.dropped := rfl
@[simp] theorem State.countRefusal_destination : (s.countRefusal n).destination = s.destination := rfl
@[simp] theorem State.countRefusal_plant : (s.countRefusal n).plant = s.plant := rfl
@[simp] theorem State.countRefusal_line : (s.countRefusal n).line = s.line := rfl
@[simp] theorem State.countRefusal_stored : (s.countRefusal n).stored = s.stored := rfl
@[simp] theorem State.countRefusal_writing : (s.countRefusal n).writing = s.writing := rfl
@[simp] theorem State.countRefusal_restartPending : (s.countRefusal n).restartPending = s.restartPending := rfl
@[simp] theorem State.countRefusal_lineClosed : (s.countRefusal n).lineClosed = s.lineClosed := rfl
@[simp] theorem State.countRefusal_lineWaiting : (s.countRefusal n).lineWaiting = s.lineWaiting := rfl
@[simp] theorem State.countRefusal_pending : (s.countRefusal n).pending = s.pending := rfl
@[simp] theorem State.countRefusal_choices : (s.countRefusal n).choices = s.choices := rfl

end countRefusal

/-! ### countReleased -/

section countReleased
variable (s : State) (n : Fin 32)

@[simp] theorem State.countReleased_identity : (s.countReleased n).identity = s.identity := rfl
@[simp] theorem State.countReleased_powered : (s.countReleased n).powered = s.powered := rfl
@[simp] theorem State.countReleased_time : (s.countReleased n).time = s.time := rfl
@[simp] theorem State.countReleased_timing : (s.countReleased n).timing = s.timing := rfl
@[simp] theorem State.countReleased_fallback : (s.countReleased n).fallback = s.fallback := rfl
@[simp] theorem State.countReleased_generation : (s.countReleased n).generation = s.generation := rfl
@[simp] theorem State.countReleased_active : (s.countReleased n).active = s.active := rfl
@[simp] theorem State.countReleased_shadow : (s.countReleased n).shadow = s.shadow := rfl
@[simp] theorem State.countReleased_controllers : (s.countReleased n).controllers = s.controllers := rfl
@[simp] theorem State.countReleased_device : (s.countReleased n).device = s.device := rfl
@[simp] theorem State.countReleased_history : (s.countReleased n).history = s.history := rfl
@[simp] theorem State.countReleased_slots : (s.countReleased n).slots = s.slots := rfl
@[simp] theorem State.countReleased_waiting : (s.countReleased n).waiting = s.waiting := rfl
@[simp] theorem State.countReleased_lanes : (s.countReleased n).lanes = s.lanes := rfl
@[simp] theorem State.countReleased_tagCounter : (s.countReleased n).tagCounter = s.tagCounter := rfl
@[simp] theorem State.countReleased_round : (s.countReleased n).round = s.round := rfl
@[simp] theorem State.countReleased_watches : (s.countReleased n).watches = s.watches := rfl
@[simp] theorem State.countReleased_notices : (s.countReleased n).notices = s.notices := rfl
@[simp] theorem State.countReleased_dropped : (s.countReleased n).dropped = s.dropped := rfl
@[simp] theorem State.countReleased_destination : (s.countReleased n).destination = s.destination := rfl
@[simp] theorem State.countReleased_plant : (s.countReleased n).plant = s.plant := rfl
@[simp] theorem State.countReleased_line : (s.countReleased n).line = s.line := rfl
@[simp] theorem State.countReleased_stored : (s.countReleased n).stored = s.stored := rfl
@[simp] theorem State.countReleased_writing : (s.countReleased n).writing = s.writing := rfl
@[simp] theorem State.countReleased_restartPending : (s.countReleased n).restartPending = s.restartPending := rfl
@[simp] theorem State.countReleased_lineClosed : (s.countReleased n).lineClosed = s.lineClosed := rfl
@[simp] theorem State.countReleased_lineWaiting : (s.countReleased n).lineWaiting = s.lineWaiting := rfl
@[simp] theorem State.countReleased_pending : (s.countReleased n).pending = s.pending := rfl
@[simp] theorem State.countReleased_choices : (s.countReleased n).choices = s.choices := rfl

end countReleased

/-! ### countMismatch -/

section countMismatch
variable (s : State) (n : Fin 32)

@[simp] theorem State.countMismatch_identity : (s.countMismatch n).identity = s.identity := rfl
@[simp] theorem State.countMismatch_powered : (s.countMismatch n).powered = s.powered := rfl
@[simp] theorem State.countMismatch_time : (s.countMismatch n).time = s.time := rfl
@[simp] theorem State.countMismatch_timing : (s.countMismatch n).timing = s.timing := rfl
@[simp] theorem State.countMismatch_fallback : (s.countMismatch n).fallback = s.fallback := rfl
@[simp] theorem State.countMismatch_generation : (s.countMismatch n).generation = s.generation := rfl
@[simp] theorem State.countMismatch_active : (s.countMismatch n).active = s.active := rfl
@[simp] theorem State.countMismatch_shadow : (s.countMismatch n).shadow = s.shadow := rfl
@[simp] theorem State.countMismatch_controllers : (s.countMismatch n).controllers = s.controllers := rfl
@[simp] theorem State.countMismatch_device : (s.countMismatch n).device = s.device := rfl
@[simp] theorem State.countMismatch_history : (s.countMismatch n).history = s.history := rfl
@[simp] theorem State.countMismatch_slots : (s.countMismatch n).slots = s.slots := rfl
@[simp] theorem State.countMismatch_waiting : (s.countMismatch n).waiting = s.waiting := rfl
@[simp] theorem State.countMismatch_lanes : (s.countMismatch n).lanes = s.lanes := rfl
@[simp] theorem State.countMismatch_tagCounter : (s.countMismatch n).tagCounter = s.tagCounter := rfl
@[simp] theorem State.countMismatch_round : (s.countMismatch n).round = s.round := rfl
@[simp] theorem State.countMismatch_watches : (s.countMismatch n).watches = s.watches := rfl
@[simp] theorem State.countMismatch_notices : (s.countMismatch n).notices = s.notices := rfl
@[simp] theorem State.countMismatch_dropped : (s.countMismatch n).dropped = s.dropped := rfl
@[simp] theorem State.countMismatch_destination : (s.countMismatch n).destination = s.destination := rfl
@[simp] theorem State.countMismatch_plant : (s.countMismatch n).plant = s.plant := rfl
@[simp] theorem State.countMismatch_line : (s.countMismatch n).line = s.line := rfl
@[simp] theorem State.countMismatch_stored : (s.countMismatch n).stored = s.stored := rfl
@[simp] theorem State.countMismatch_writing : (s.countMismatch n).writing = s.writing := rfl
@[simp] theorem State.countMismatch_restartPending : (s.countMismatch n).restartPending = s.restartPending := rfl
@[simp] theorem State.countMismatch_lineClosed : (s.countMismatch n).lineClosed = s.lineClosed := rfl
@[simp] theorem State.countMismatch_lineWaiting : (s.countMismatch n).lineWaiting = s.lineWaiting := rfl
@[simp] theorem State.countMismatch_pending : (s.countMismatch n).pending = s.pending := rfl
@[simp] theorem State.countMismatch_choices : (s.countMismatch n).choices = s.choices := rfl

end countMismatch

/-! ### countDiscarded -/

section countDiscarded
variable (s : State)

@[simp] theorem State.countDiscarded_identity : (s.countDiscarded).identity = s.identity := rfl
@[simp] theorem State.countDiscarded_powered : (s.countDiscarded).powered = s.powered := rfl
@[simp] theorem State.countDiscarded_time : (s.countDiscarded).time = s.time := rfl
@[simp] theorem State.countDiscarded_timing : (s.countDiscarded).timing = s.timing := rfl
@[simp] theorem State.countDiscarded_fallback : (s.countDiscarded).fallback = s.fallback := rfl
@[simp] theorem State.countDiscarded_generation : (s.countDiscarded).generation = s.generation := rfl
@[simp] theorem State.countDiscarded_active : (s.countDiscarded).active = s.active := rfl
@[simp] theorem State.countDiscarded_shadow : (s.countDiscarded).shadow = s.shadow := rfl
@[simp] theorem State.countDiscarded_controllers : (s.countDiscarded).controllers = s.controllers := rfl
@[simp] theorem State.countDiscarded_counters : (s.countDiscarded).counters = s.counters := rfl
@[simp] theorem State.countDiscarded_history : (s.countDiscarded).history = s.history := rfl
@[simp] theorem State.countDiscarded_slots : (s.countDiscarded).slots = s.slots := rfl
@[simp] theorem State.countDiscarded_waiting : (s.countDiscarded).waiting = s.waiting := rfl
@[simp] theorem State.countDiscarded_lanes : (s.countDiscarded).lanes = s.lanes := rfl
@[simp] theorem State.countDiscarded_tagCounter : (s.countDiscarded).tagCounter = s.tagCounter := rfl
@[simp] theorem State.countDiscarded_round : (s.countDiscarded).round = s.round := rfl
@[simp] theorem State.countDiscarded_watches : (s.countDiscarded).watches = s.watches := rfl
@[simp] theorem State.countDiscarded_notices : (s.countDiscarded).notices = s.notices := rfl
@[simp] theorem State.countDiscarded_dropped : (s.countDiscarded).dropped = s.dropped := rfl
@[simp] theorem State.countDiscarded_destination : (s.countDiscarded).destination = s.destination := rfl
@[simp] theorem State.countDiscarded_plant : (s.countDiscarded).plant = s.plant := rfl
@[simp] theorem State.countDiscarded_line : (s.countDiscarded).line = s.line := rfl
@[simp] theorem State.countDiscarded_stored : (s.countDiscarded).stored = s.stored := rfl
@[simp] theorem State.countDiscarded_writing : (s.countDiscarded).writing = s.writing := rfl
@[simp] theorem State.countDiscarded_restartPending : (s.countDiscarded).restartPending = s.restartPending := rfl
@[simp] theorem State.countDiscarded_lineClosed : (s.countDiscarded).lineClosed = s.lineClosed := rfl
@[simp] theorem State.countDiscarded_lineWaiting : (s.countDiscarded).lineWaiting = s.lineWaiting := rfl
@[simp] theorem State.countDiscarded_pending : (s.countDiscarded).pending = s.pending := rfl
@[simp] theorem State.countDiscarded_choices : (s.countDiscarded).choices = s.choices := rfl

end countDiscarded

/-! ### countMalformed -/

section countMalformed
variable (s : State)

@[simp] theorem State.countMalformed_identity : (s.countMalformed).identity = s.identity := rfl
@[simp] theorem State.countMalformed_powered : (s.countMalformed).powered = s.powered := rfl
@[simp] theorem State.countMalformed_time : (s.countMalformed).time = s.time := rfl
@[simp] theorem State.countMalformed_timing : (s.countMalformed).timing = s.timing := rfl
@[simp] theorem State.countMalformed_fallback : (s.countMalformed).fallback = s.fallback := rfl
@[simp] theorem State.countMalformed_generation : (s.countMalformed).generation = s.generation := rfl
@[simp] theorem State.countMalformed_active : (s.countMalformed).active = s.active := rfl
@[simp] theorem State.countMalformed_shadow : (s.countMalformed).shadow = s.shadow := rfl
@[simp] theorem State.countMalformed_controllers : (s.countMalformed).controllers = s.controllers := rfl
@[simp] theorem State.countMalformed_counters : (s.countMalformed).counters = s.counters := rfl
@[simp] theorem State.countMalformed_history : (s.countMalformed).history = s.history := rfl
@[simp] theorem State.countMalformed_slots : (s.countMalformed).slots = s.slots := rfl
@[simp] theorem State.countMalformed_waiting : (s.countMalformed).waiting = s.waiting := rfl
@[simp] theorem State.countMalformed_lanes : (s.countMalformed).lanes = s.lanes := rfl
@[simp] theorem State.countMalformed_tagCounter : (s.countMalformed).tagCounter = s.tagCounter := rfl
@[simp] theorem State.countMalformed_round : (s.countMalformed).round = s.round := rfl
@[simp] theorem State.countMalformed_watches : (s.countMalformed).watches = s.watches := rfl
@[simp] theorem State.countMalformed_notices : (s.countMalformed).notices = s.notices := rfl
@[simp] theorem State.countMalformed_dropped : (s.countMalformed).dropped = s.dropped := rfl
@[simp] theorem State.countMalformed_destination : (s.countMalformed).destination = s.destination := rfl
@[simp] theorem State.countMalformed_plant : (s.countMalformed).plant = s.plant := rfl
@[simp] theorem State.countMalformed_line : (s.countMalformed).line = s.line := rfl
@[simp] theorem State.countMalformed_stored : (s.countMalformed).stored = s.stored := rfl
@[simp] theorem State.countMalformed_writing : (s.countMalformed).writing = s.writing := rfl
@[simp] theorem State.countMalformed_restartPending : (s.countMalformed).restartPending = s.restartPending := rfl
@[simp] theorem State.countMalformed_lineClosed : (s.countMalformed).lineClosed = s.lineClosed := rfl
@[simp] theorem State.countMalformed_lineWaiting : (s.countMalformed).lineWaiting = s.lineWaiting := rfl
@[simp] theorem State.countMalformed_pending : (s.countMalformed).pending = s.pending := rfl
@[simp] theorem State.countMalformed_choices : (s.countMalformed).choices = s.choices := rfl

end countMalformed

/-! ### countSegmentDrop -/

section countSegmentDrop
variable (s : State)

@[simp] theorem State.countSegmentDrop_identity : (s.countSegmentDrop).identity = s.identity := rfl
@[simp] theorem State.countSegmentDrop_powered : (s.countSegmentDrop).powered = s.powered := rfl
@[simp] theorem State.countSegmentDrop_time : (s.countSegmentDrop).time = s.time := rfl
@[simp] theorem State.countSegmentDrop_timing : (s.countSegmentDrop).timing = s.timing := rfl
@[simp] theorem State.countSegmentDrop_fallback : (s.countSegmentDrop).fallback = s.fallback := rfl
@[simp] theorem State.countSegmentDrop_generation : (s.countSegmentDrop).generation = s.generation := rfl
@[simp] theorem State.countSegmentDrop_active : (s.countSegmentDrop).active = s.active := rfl
@[simp] theorem State.countSegmentDrop_shadow : (s.countSegmentDrop).shadow = s.shadow := rfl
@[simp] theorem State.countSegmentDrop_controllers : (s.countSegmentDrop).controllers = s.controllers := rfl
@[simp] theorem State.countSegmentDrop_counters : (s.countSegmentDrop).counters = s.counters := rfl
@[simp] theorem State.countSegmentDrop_history : (s.countSegmentDrop).history = s.history := rfl
@[simp] theorem State.countSegmentDrop_slots : (s.countSegmentDrop).slots = s.slots := rfl
@[simp] theorem State.countSegmentDrop_waiting : (s.countSegmentDrop).waiting = s.waiting := rfl
@[simp] theorem State.countSegmentDrop_lanes : (s.countSegmentDrop).lanes = s.lanes := rfl
@[simp] theorem State.countSegmentDrop_tagCounter : (s.countSegmentDrop).tagCounter = s.tagCounter := rfl
@[simp] theorem State.countSegmentDrop_round : (s.countSegmentDrop).round = s.round := rfl
@[simp] theorem State.countSegmentDrop_watches : (s.countSegmentDrop).watches = s.watches := rfl
@[simp] theorem State.countSegmentDrop_notices : (s.countSegmentDrop).notices = s.notices := rfl
@[simp] theorem State.countSegmentDrop_dropped : (s.countSegmentDrop).dropped = s.dropped := rfl
@[simp] theorem State.countSegmentDrop_destination : (s.countSegmentDrop).destination = s.destination := rfl
@[simp] theorem State.countSegmentDrop_plant : (s.countSegmentDrop).plant = s.plant := rfl
@[simp] theorem State.countSegmentDrop_line : (s.countSegmentDrop).line = s.line := rfl
@[simp] theorem State.countSegmentDrop_stored : (s.countSegmentDrop).stored = s.stored := rfl
@[simp] theorem State.countSegmentDrop_writing : (s.countSegmentDrop).writing = s.writing := rfl
@[simp] theorem State.countSegmentDrop_restartPending : (s.countSegmentDrop).restartPending = s.restartPending := rfl
@[simp] theorem State.countSegmentDrop_lineClosed : (s.countSegmentDrop).lineClosed = s.lineClosed := rfl
@[simp] theorem State.countSegmentDrop_lineWaiting : (s.countSegmentDrop).lineWaiting = s.lineWaiting := rfl
@[simp] theorem State.countSegmentDrop_pending : (s.countSegmentDrop).pending = s.pending := rfl
@[simp] theorem State.countSegmentDrop_choices : (s.countSegmentDrop).choices = s.choices := rfl

end countSegmentDrop

/-! ### countOverflow -/

section countOverflow
variable (s : State)

@[simp] theorem State.countOverflow_identity : (s.countOverflow).identity = s.identity := rfl
@[simp] theorem State.countOverflow_powered : (s.countOverflow).powered = s.powered := rfl
@[simp] theorem State.countOverflow_time : (s.countOverflow).time = s.time := rfl
@[simp] theorem State.countOverflow_timing : (s.countOverflow).timing = s.timing := rfl
@[simp] theorem State.countOverflow_fallback : (s.countOverflow).fallback = s.fallback := rfl
@[simp] theorem State.countOverflow_generation : (s.countOverflow).generation = s.generation := rfl
@[simp] theorem State.countOverflow_active : (s.countOverflow).active = s.active := rfl
@[simp] theorem State.countOverflow_shadow : (s.countOverflow).shadow = s.shadow := rfl
@[simp] theorem State.countOverflow_controllers : (s.countOverflow).controllers = s.controllers := rfl
@[simp] theorem State.countOverflow_counters : (s.countOverflow).counters = s.counters := rfl
@[simp] theorem State.countOverflow_history : (s.countOverflow).history = s.history := rfl
@[simp] theorem State.countOverflow_slots : (s.countOverflow).slots = s.slots := rfl
@[simp] theorem State.countOverflow_waiting : (s.countOverflow).waiting = s.waiting := rfl
@[simp] theorem State.countOverflow_lanes : (s.countOverflow).lanes = s.lanes := rfl
@[simp] theorem State.countOverflow_tagCounter : (s.countOverflow).tagCounter = s.tagCounter := rfl
@[simp] theorem State.countOverflow_round : (s.countOverflow).round = s.round := rfl
@[simp] theorem State.countOverflow_watches : (s.countOverflow).watches = s.watches := rfl
@[simp] theorem State.countOverflow_notices : (s.countOverflow).notices = s.notices := rfl
@[simp] theorem State.countOverflow_dropped : (s.countOverflow).dropped = s.dropped := rfl
@[simp] theorem State.countOverflow_destination : (s.countOverflow).destination = s.destination := rfl
@[simp] theorem State.countOverflow_plant : (s.countOverflow).plant = s.plant := rfl
@[simp] theorem State.countOverflow_line : (s.countOverflow).line = s.line := rfl
@[simp] theorem State.countOverflow_stored : (s.countOverflow).stored = s.stored := rfl
@[simp] theorem State.countOverflow_writing : (s.countOverflow).writing = s.writing := rfl
@[simp] theorem State.countOverflow_restartPending : (s.countOverflow).restartPending = s.restartPending := rfl
@[simp] theorem State.countOverflow_lineClosed : (s.countOverflow).lineClosed = s.lineClosed := rfl
@[simp] theorem State.countOverflow_lineWaiting : (s.countOverflow).lineWaiting = s.lineWaiting := rfl
@[simp] theorem State.countOverflow_pending : (s.countOverflow).pending = s.pending := rfl
@[simp] theorem State.countOverflow_choices : (s.countOverflow).choices = s.choices := rfl

end countOverflow

/-! ### countNotSent -/

section countNotSent
variable (s : State) (k : Nat)

@[simp] theorem State.countNotSent_identity : (s.countNotSent k).identity = s.identity := rfl
@[simp] theorem State.countNotSent_powered : (s.countNotSent k).powered = s.powered := rfl
@[simp] theorem State.countNotSent_time : (s.countNotSent k).time = s.time := rfl
@[simp] theorem State.countNotSent_timing : (s.countNotSent k).timing = s.timing := rfl
@[simp] theorem State.countNotSent_fallback : (s.countNotSent k).fallback = s.fallback := rfl
@[simp] theorem State.countNotSent_generation : (s.countNotSent k).generation = s.generation := rfl
@[simp] theorem State.countNotSent_active : (s.countNotSent k).active = s.active := rfl
@[simp] theorem State.countNotSent_shadow : (s.countNotSent k).shadow = s.shadow := rfl
@[simp] theorem State.countNotSent_controllers : (s.countNotSent k).controllers = s.controllers := rfl
@[simp] theorem State.countNotSent_counters : (s.countNotSent k).counters = s.counters := rfl
@[simp] theorem State.countNotSent_history : (s.countNotSent k).history = s.history := rfl
@[simp] theorem State.countNotSent_slots : (s.countNotSent k).slots = s.slots := rfl
@[simp] theorem State.countNotSent_waiting : (s.countNotSent k).waiting = s.waiting := rfl
@[simp] theorem State.countNotSent_lanes : (s.countNotSent k).lanes = s.lanes := rfl
@[simp] theorem State.countNotSent_tagCounter : (s.countNotSent k).tagCounter = s.tagCounter := rfl
@[simp] theorem State.countNotSent_round : (s.countNotSent k).round = s.round := rfl
@[simp] theorem State.countNotSent_watches : (s.countNotSent k).watches = s.watches := rfl
@[simp] theorem State.countNotSent_notices : (s.countNotSent k).notices = s.notices := rfl
@[simp] theorem State.countNotSent_dropped : (s.countNotSent k).dropped = s.dropped := rfl
@[simp] theorem State.countNotSent_destination : (s.countNotSent k).destination = s.destination := rfl
@[simp] theorem State.countNotSent_plant : (s.countNotSent k).plant = s.plant := rfl
@[simp] theorem State.countNotSent_line : (s.countNotSent k).line = s.line := rfl
@[simp] theorem State.countNotSent_stored : (s.countNotSent k).stored = s.stored := rfl
@[simp] theorem State.countNotSent_writing : (s.countNotSent k).writing = s.writing := rfl
@[simp] theorem State.countNotSent_restartPending : (s.countNotSent k).restartPending = s.restartPending := rfl
@[simp] theorem State.countNotSent_lineClosed : (s.countNotSent k).lineClosed = s.lineClosed := rfl
@[simp] theorem State.countNotSent_lineWaiting : (s.countNotSent k).lineWaiting = s.lineWaiting := rfl
@[simp] theorem State.countNotSent_pending : (s.countNotSent k).pending = s.pending := rfl
@[simp] theorem State.countNotSent_choices : (s.countNotSent k).choices = s.choices := rfl

end countNotSent

/-! ### countLinkDiscarded -/

section countLinkDiscarded
variable (s : State) (k : Nat)

@[simp] theorem State.countLinkDiscarded_identity : (s.countLinkDiscarded k).identity = s.identity := rfl
@[simp] theorem State.countLinkDiscarded_powered : (s.countLinkDiscarded k).powered = s.powered := rfl
@[simp] theorem State.countLinkDiscarded_time : (s.countLinkDiscarded k).time = s.time := rfl
@[simp] theorem State.countLinkDiscarded_timing : (s.countLinkDiscarded k).timing = s.timing := rfl
@[simp] theorem State.countLinkDiscarded_fallback : (s.countLinkDiscarded k).fallback = s.fallback := rfl
@[simp] theorem State.countLinkDiscarded_generation : (s.countLinkDiscarded k).generation = s.generation := rfl
@[simp] theorem State.countLinkDiscarded_active : (s.countLinkDiscarded k).active = s.active := rfl
@[simp] theorem State.countLinkDiscarded_shadow : (s.countLinkDiscarded k).shadow = s.shadow := rfl
@[simp] theorem State.countLinkDiscarded_controllers : (s.countLinkDiscarded k).controllers = s.controllers := rfl
@[simp] theorem State.countLinkDiscarded_counters : (s.countLinkDiscarded k).counters = s.counters := rfl
@[simp] theorem State.countLinkDiscarded_history : (s.countLinkDiscarded k).history = s.history := rfl
@[simp] theorem State.countLinkDiscarded_slots : (s.countLinkDiscarded k).slots = s.slots := rfl
@[simp] theorem State.countLinkDiscarded_waiting : (s.countLinkDiscarded k).waiting = s.waiting := rfl
@[simp] theorem State.countLinkDiscarded_lanes : (s.countLinkDiscarded k).lanes = s.lanes := rfl
@[simp] theorem State.countLinkDiscarded_tagCounter : (s.countLinkDiscarded k).tagCounter = s.tagCounter := rfl
@[simp] theorem State.countLinkDiscarded_round : (s.countLinkDiscarded k).round = s.round := rfl
@[simp] theorem State.countLinkDiscarded_watches : (s.countLinkDiscarded k).watches = s.watches := rfl
@[simp] theorem State.countLinkDiscarded_notices : (s.countLinkDiscarded k).notices = s.notices := rfl
@[simp] theorem State.countLinkDiscarded_dropped : (s.countLinkDiscarded k).dropped = s.dropped := rfl
@[simp] theorem State.countLinkDiscarded_destination : (s.countLinkDiscarded k).destination = s.destination := rfl
@[simp] theorem State.countLinkDiscarded_plant : (s.countLinkDiscarded k).plant = s.plant := rfl
@[simp] theorem State.countLinkDiscarded_line : (s.countLinkDiscarded k).line = s.line := rfl
@[simp] theorem State.countLinkDiscarded_stored : (s.countLinkDiscarded k).stored = s.stored := rfl
@[simp] theorem State.countLinkDiscarded_writing : (s.countLinkDiscarded k).writing = s.writing := rfl
@[simp] theorem State.countLinkDiscarded_restartPending : (s.countLinkDiscarded k).restartPending = s.restartPending := rfl
@[simp] theorem State.countLinkDiscarded_lineClosed : (s.countLinkDiscarded k).lineClosed = s.lineClosed := rfl
@[simp] theorem State.countLinkDiscarded_lineWaiting : (s.countLinkDiscarded k).lineWaiting = s.lineWaiting := rfl
@[simp] theorem State.countLinkDiscarded_pending : (s.countLinkDiscarded k).pending = s.pending := rfl
@[simp] theorem State.countLinkDiscarded_choices : (s.countLinkDiscarded k).choices = s.choices := rfl

end countLinkDiscarded

/-! ### Waiting entries -/

section removeSegments
variable (s : State) (k : Fin 8)

@[simp] theorem State.removeSegments_identity : (s.removeSegments k).identity = s.identity := rfl
@[simp] theorem State.removeSegments_powered : (s.removeSegments k).powered = s.powered := rfl
@[simp] theorem State.removeSegments_time : (s.removeSegments k).time = s.time := rfl
@[simp] theorem State.removeSegments_timing : (s.removeSegments k).timing = s.timing := rfl
@[simp] theorem State.removeSegments_fallback : (s.removeSegments k).fallback = s.fallback := rfl
@[simp] theorem State.removeSegments_generation : (s.removeSegments k).generation = s.generation := rfl
@[simp] theorem State.removeSegments_active : (s.removeSegments k).active = s.active := rfl
@[simp] theorem State.removeSegments_shadow : (s.removeSegments k).shadow = s.shadow := rfl
@[simp] theorem State.removeSegments_controllers : (s.removeSegments k).controllers = s.controllers := rfl
@[simp] theorem State.removeSegments_counters : (s.removeSegments k).counters = s.counters := rfl
@[simp] theorem State.removeSegments_device : (s.removeSegments k).device = s.device := rfl
@[simp] theorem State.removeSegments_history : (s.removeSegments k).history = s.history := rfl
@[simp] theorem State.removeSegments_slots : (s.removeSegments k).slots = s.slots := rfl
@[simp] theorem State.removeSegments_lanes : (s.removeSegments k).lanes = s.lanes := rfl
@[simp] theorem State.removeSegments_tagCounter : (s.removeSegments k).tagCounter = s.tagCounter := rfl
@[simp] theorem State.removeSegments_round : (s.removeSegments k).round = s.round := rfl
@[simp] theorem State.removeSegments_watches : (s.removeSegments k).watches = s.watches := rfl
@[simp] theorem State.removeSegments_notices : (s.removeSegments k).notices = s.notices := rfl
@[simp] theorem State.removeSegments_dropped : (s.removeSegments k).dropped = s.dropped := rfl
@[simp] theorem State.removeSegments_destination : (s.removeSegments k).destination = s.destination := rfl
@[simp] theorem State.removeSegments_plant : (s.removeSegments k).plant = s.plant := rfl
@[simp] theorem State.removeSegments_line : (s.removeSegments k).line = s.line := rfl
@[simp] theorem State.removeSegments_stored : (s.removeSegments k).stored = s.stored := rfl
@[simp] theorem State.removeSegments_writing : (s.removeSegments k).writing = s.writing := rfl
@[simp] theorem State.removeSegments_restartPending : (s.removeSegments k).restartPending = s.restartPending := rfl
@[simp] theorem State.removeSegments_lineClosed : (s.removeSegments k).lineClosed = s.lineClosed := rfl
@[simp] theorem State.removeSegments_lineWaiting : (s.removeSegments k).lineWaiting = s.lineWaiting := rfl
@[simp] theorem State.removeSegments_pending : (s.removeSegments k).pending = s.pending := rfl
@[simp] theorem State.removeSegments_choices : (s.removeSegments k).choices = s.choices := rfl

end removeSegments

/-! ### A lane takes an entry -/

section load
variable (s : State) (l : Fin 2) (e : SegmentEntry)

@[simp] theorem State.load_identity : (s.load l e).identity = s.identity := rfl
@[simp] theorem State.load_powered : (s.load l e).powered = s.powered := rfl
@[simp] theorem State.load_time : (s.load l e).time = s.time := rfl
@[simp] theorem State.load_timing : (s.load l e).timing = s.timing := rfl
@[simp] theorem State.load_fallback : (s.load l e).fallback = s.fallback := rfl
@[simp] theorem State.load_generation : (s.load l e).generation = s.generation := rfl
@[simp] theorem State.load_active : (s.load l e).active = s.active := rfl
@[simp] theorem State.load_shadow : (s.load l e).shadow = s.shadow := rfl
@[simp] theorem State.load_controllers : (s.load l e).controllers = s.controllers := rfl
@[simp] theorem State.load_counters : (s.load l e).counters = s.counters := rfl
@[simp] theorem State.load_device : (s.load l e).device = s.device := rfl
@[simp] theorem State.load_history : (s.load l e).history = s.history := rfl
@[simp] theorem State.load_slots : (s.load l e).slots = s.slots := rfl
@[simp] theorem State.load_waiting : (s.load l e).waiting = s.waiting := rfl
@[simp] theorem State.load_tagCounter : (s.load l e).tagCounter = s.tagCounter := rfl
@[simp] theorem State.load_round : (s.load l e).round = s.round := rfl
@[simp] theorem State.load_watches : (s.load l e).watches = s.watches := rfl
@[simp] theorem State.load_notices : (s.load l e).notices = s.notices := rfl
@[simp] theorem State.load_dropped : (s.load l e).dropped = s.dropped := rfl
@[simp] theorem State.load_destination : (s.load l e).destination = s.destination := rfl
@[simp] theorem State.load_plant : (s.load l e).plant = s.plant := rfl
@[simp] theorem State.load_line : (s.load l e).line = s.line := rfl
@[simp] theorem State.load_stored : (s.load l e).stored = s.stored := rfl
@[simp] theorem State.load_writing : (s.load l e).writing = s.writing := rfl
@[simp] theorem State.load_restartPending : (s.load l e).restartPending = s.restartPending := rfl
@[simp] theorem State.load_lineClosed : (s.load l e).lineClosed = s.lineClosed := rfl
@[simp] theorem State.load_lineWaiting : (s.load l e).lineWaiting = s.lineWaiting := rfl
@[simp] theorem State.load_pending : (s.load l e).pending = s.pending := rfl
@[simp] theorem State.load_choices : (s.load l e).choices = s.choices := rfl

end load

/-! ### A position of the active Image Table -/

section setImage
variable (s : State) (i : Nat) (r : Option ImageRecord)

@[simp] theorem State.setImage_identity : (s.setImage i r).identity = s.identity := rfl
@[simp] theorem State.setImage_powered : (s.setImage i r).powered = s.powered := rfl
@[simp] theorem State.setImage_time : (s.setImage i r).time = s.time := rfl
@[simp] theorem State.setImage_timing : (s.setImage i r).timing = s.timing := rfl
@[simp] theorem State.setImage_fallback : (s.setImage i r).fallback = s.fallback := rfl
@[simp] theorem State.setImage_generation : (s.setImage i r).generation = s.generation := rfl
@[simp] theorem State.setImage_shadow : (s.setImage i r).shadow = s.shadow := rfl
@[simp] theorem State.setImage_controllers : (s.setImage i r).controllers = s.controllers := rfl
@[simp] theorem State.setImage_counters : (s.setImage i r).counters = s.counters := rfl
@[simp] theorem State.setImage_device : (s.setImage i r).device = s.device := rfl
@[simp] theorem State.setImage_history : (s.setImage i r).history = s.history := rfl
@[simp] theorem State.setImage_slots : (s.setImage i r).slots = s.slots := rfl
@[simp] theorem State.setImage_waiting : (s.setImage i r).waiting = s.waiting := rfl
@[simp] theorem State.setImage_lanes : (s.setImage i r).lanes = s.lanes := rfl
@[simp] theorem State.setImage_tagCounter : (s.setImage i r).tagCounter = s.tagCounter := rfl
@[simp] theorem State.setImage_round : (s.setImage i r).round = s.round := rfl
@[simp] theorem State.setImage_watches : (s.setImage i r).watches = s.watches := rfl
@[simp] theorem State.setImage_notices : (s.setImage i r).notices = s.notices := rfl
@[simp] theorem State.setImage_dropped : (s.setImage i r).dropped = s.dropped := rfl
@[simp] theorem State.setImage_destination : (s.setImage i r).destination = s.destination := rfl
@[simp] theorem State.setImage_plant : (s.setImage i r).plant = s.plant := rfl
@[simp] theorem State.setImage_line : (s.setImage i r).line = s.line := rfl
@[simp] theorem State.setImage_stored : (s.setImage i r).stored = s.stored := rfl
@[simp] theorem State.setImage_writing : (s.setImage i r).writing = s.writing := rfl
@[simp] theorem State.setImage_restartPending : (s.setImage i r).restartPending = s.restartPending := rfl
@[simp] theorem State.setImage_lineClosed : (s.setImage i r).lineClosed = s.lineClosed := rfl
@[simp] theorem State.setImage_lineWaiting : (s.setImage i r).lineWaiting = s.lineWaiting := rfl
@[simp] theorem State.setImage_pending : (s.setImage i r).pending = s.pending := rfl
@[simp] theorem State.setImage_choices : (s.setImage i r).choices = s.choices := rfl

end setImage

/-! ### An accepted opening's entry -/

section recordOpening
variable (s : State)

@[simp] theorem State.recordOpening_identity : (s.recordOpening).identity = s.identity := rfl
@[simp] theorem State.recordOpening_powered : (s.recordOpening).powered = s.powered := rfl
@[simp] theorem State.recordOpening_time : (s.recordOpening).time = s.time := rfl
@[simp] theorem State.recordOpening_timing : (s.recordOpening).timing = s.timing := rfl
@[simp] theorem State.recordOpening_fallback : (s.recordOpening).fallback = s.fallback := rfl
@[simp] theorem State.recordOpening_generation : (s.recordOpening).generation = s.generation := rfl
@[simp] theorem State.recordOpening_active : (s.recordOpening).active = s.active := rfl
@[simp] theorem State.recordOpening_shadow : (s.recordOpening).shadow = s.shadow := rfl
@[simp] theorem State.recordOpening_controllers : (s.recordOpening).controllers = s.controllers := rfl
@[simp] theorem State.recordOpening_counters : (s.recordOpening).counters = s.counters := rfl
@[simp] theorem State.recordOpening_device : (s.recordOpening).device = s.device := rfl
@[simp] theorem State.recordOpening_slots : (s.recordOpening).slots = s.slots := rfl
@[simp] theorem State.recordOpening_waiting : (s.recordOpening).waiting = s.waiting := rfl
@[simp] theorem State.recordOpening_lanes : (s.recordOpening).lanes = s.lanes := rfl
@[simp] theorem State.recordOpening_tagCounter : (s.recordOpening).tagCounter = s.tagCounter := rfl
@[simp] theorem State.recordOpening_round : (s.recordOpening).round = s.round := rfl
@[simp] theorem State.recordOpening_watches : (s.recordOpening).watches = s.watches := rfl
@[simp] theorem State.recordOpening_notices : (s.recordOpening).notices = s.notices := rfl
@[simp] theorem State.recordOpening_dropped : (s.recordOpening).dropped = s.dropped := rfl
@[simp] theorem State.recordOpening_destination : (s.recordOpening).destination = s.destination := rfl
@[simp] theorem State.recordOpening_plant : (s.recordOpening).plant = s.plant := rfl
@[simp] theorem State.recordOpening_line : (s.recordOpening).line = s.line := rfl
@[simp] theorem State.recordOpening_stored : (s.recordOpening).stored = s.stored := rfl
@[simp] theorem State.recordOpening_writing : (s.recordOpening).writing = s.writing := rfl
@[simp] theorem State.recordOpening_restartPending : (s.recordOpening).restartPending = s.restartPending := rfl
@[simp] theorem State.recordOpening_lineClosed : (s.recordOpening).lineClosed = s.lineClosed := rfl
@[simp] theorem State.recordOpening_lineWaiting : (s.recordOpening).lineWaiting = s.lineWaiting := rfl
@[simp] theorem State.recordOpening_pending : (s.recordOpening).pending = s.pending := rfl
@[simp] theorem State.recordOpening_choices : (s.recordOpening).choices = s.choices := rfl

end recordOpening

/-! ### A store write begins -/

section beginWrite
variable (s : State)

@[simp] theorem State.beginWrite_identity : (s.beginWrite).identity = s.identity := rfl
@[simp] theorem State.beginWrite_powered : (s.beginWrite).powered = s.powered := rfl
@[simp] theorem State.beginWrite_time : (s.beginWrite).time = s.time := rfl
@[simp] theorem State.beginWrite_timing : (s.beginWrite).timing = s.timing := rfl
@[simp] theorem State.beginWrite_fallback : (s.beginWrite).fallback = s.fallback := rfl
@[simp] theorem State.beginWrite_generation : (s.beginWrite).generation = s.generation := rfl
@[simp] theorem State.beginWrite_active : (s.beginWrite).active = s.active := rfl
@[simp] theorem State.beginWrite_shadow : (s.beginWrite).shadow = s.shadow := rfl
@[simp] theorem State.beginWrite_controllers : (s.beginWrite).controllers = s.controllers := rfl
@[simp] theorem State.beginWrite_counters : (s.beginWrite).counters = s.counters := rfl
@[simp] theorem State.beginWrite_device : (s.beginWrite).device = s.device := rfl
@[simp] theorem State.beginWrite_history : (s.beginWrite).history = s.history := rfl
@[simp] theorem State.beginWrite_slots : (s.beginWrite).slots = s.slots := rfl
@[simp] theorem State.beginWrite_waiting : (s.beginWrite).waiting = s.waiting := rfl
@[simp] theorem State.beginWrite_lanes : (s.beginWrite).lanes = s.lanes := rfl
@[simp] theorem State.beginWrite_tagCounter : (s.beginWrite).tagCounter = s.tagCounter := rfl
@[simp] theorem State.beginWrite_round : (s.beginWrite).round = s.round := rfl
@[simp] theorem State.beginWrite_watches : (s.beginWrite).watches = s.watches := rfl
@[simp] theorem State.beginWrite_notices : (s.beginWrite).notices = s.notices := rfl
@[simp] theorem State.beginWrite_dropped : (s.beginWrite).dropped = s.dropped := rfl
@[simp] theorem State.beginWrite_destination : (s.beginWrite).destination = s.destination := rfl
@[simp] theorem State.beginWrite_plant : (s.beginWrite).plant = s.plant := rfl
@[simp] theorem State.beginWrite_line : (s.beginWrite).line = s.line := rfl
@[simp] theorem State.beginWrite_stored : (s.beginWrite).stored = s.stored := rfl
@[simp] theorem State.beginWrite_restartPending : (s.beginWrite).restartPending = s.restartPending := rfl
@[simp] theorem State.beginWrite_lineClosed : (s.beginWrite).lineClosed = s.lineClosed := rfl
@[simp] theorem State.beginWrite_lineWaiting : (s.beginWrite).lineWaiting = s.lineWaiting := rfl
@[simp] theorem State.beginWrite_pending : (s.beginWrite).pending = s.pending := rfl
@[simp] theorem State.beginWrite_choices : (s.beginWrite).choices = s.choices := rfl

end beginWrite

/-! ### A defined controller -/

section updateController
variable (s : State) (n : Fin 32) (f : Controller → Controller)

@[simp] theorem State.updateController_identity : (s.updateController n f).identity = s.identity := by
  unfold State.updateController; split <;> rfl
@[simp] theorem State.updateController_powered : (s.updateController n f).powered = s.powered := by
  unfold State.updateController; split <;> rfl
@[simp] theorem State.updateController_time : (s.updateController n f).time = s.time := by
  unfold State.updateController; split <;> rfl
@[simp] theorem State.updateController_timing : (s.updateController n f).timing = s.timing := by
  unfold State.updateController; split <;> rfl
@[simp] theorem State.updateController_fallback : (s.updateController n f).fallback = s.fallback := by
  unfold State.updateController; split <;> rfl
@[simp] theorem State.updateController_generation : (s.updateController n f).generation = s.generation := by
  unfold State.updateController; split <;> rfl
@[simp] theorem State.updateController_active : (s.updateController n f).active = s.active := by
  unfold State.updateController; split <;> rfl
@[simp] theorem State.updateController_shadow : (s.updateController n f).shadow = s.shadow := by
  unfold State.updateController; split <;> rfl
@[simp] theorem State.updateController_counters : (s.updateController n f).counters = s.counters := by
  unfold State.updateController; split <;> rfl
@[simp] theorem State.updateController_device : (s.updateController n f).device = s.device := by
  unfold State.updateController; split <;> rfl
@[simp] theorem State.updateController_history : (s.updateController n f).history = s.history := by
  unfold State.updateController; split <;> rfl
@[simp] theorem State.updateController_slots : (s.updateController n f).slots = s.slots := by
  unfold State.updateController; split <;> rfl
@[simp] theorem State.updateController_waiting : (s.updateController n f).waiting = s.waiting := by
  unfold State.updateController; split <;> rfl
@[simp] theorem State.updateController_lanes : (s.updateController n f).lanes = s.lanes := by
  unfold State.updateController; split <;> rfl
@[simp] theorem State.updateController_tagCounter : (s.updateController n f).tagCounter = s.tagCounter := by
  unfold State.updateController; split <;> rfl
@[simp] theorem State.updateController_round : (s.updateController n f).round = s.round := by
  unfold State.updateController; split <;> rfl
@[simp] theorem State.updateController_watches : (s.updateController n f).watches = s.watches := by
  unfold State.updateController; split <;> rfl
@[simp] theorem State.updateController_notices : (s.updateController n f).notices = s.notices := by
  unfold State.updateController; split <;> rfl
@[simp] theorem State.updateController_dropped : (s.updateController n f).dropped = s.dropped := by
  unfold State.updateController; split <;> rfl
@[simp] theorem State.updateController_destination : (s.updateController n f).destination = s.destination := by
  unfold State.updateController; split <;> rfl
@[simp] theorem State.updateController_plant : (s.updateController n f).plant = s.plant := by
  unfold State.updateController; split <;> rfl
@[simp] theorem State.updateController_line : (s.updateController n f).line = s.line := by
  unfold State.updateController; split <;> rfl
@[simp] theorem State.updateController_stored : (s.updateController n f).stored = s.stored := by
  unfold State.updateController; split <;> rfl
@[simp] theorem State.updateController_writing : (s.updateController n f).writing = s.writing := by
  unfold State.updateController; split <;> rfl
@[simp] theorem State.updateController_restartPending : (s.updateController n f).restartPending = s.restartPending := by
  unfold State.updateController; split <;> rfl
@[simp] theorem State.updateController_lineClosed : (s.updateController n f).lineClosed = s.lineClosed := by
  unfold State.updateController; split <;> rfl
@[simp] theorem State.updateController_lineWaiting : (s.updateController n f).lineWaiting = s.lineWaiting := by
  unfold State.updateController; split <;> rfl
@[simp] theorem State.updateController_pending : (s.updateController n f).pending = s.pending := by
  unfold State.updateController; split <;> rfl
@[simp] theorem State.updateController_choices : (s.updateController n f).choices = s.choices := by
  unfold State.updateController; split <;> rfl

end updateController

/-! ### setWindow -/

section setWindow
variable (s : State) (n : Fin 32) (w : Window)

@[simp] theorem State.setWindow_identity : (s.setWindow n w).identity = s.identity := by simp [State.setWindow]
@[simp] theorem State.setWindow_powered : (s.setWindow n w).powered = s.powered := by simp [State.setWindow]
@[simp] theorem State.setWindow_time : (s.setWindow n w).time = s.time := by simp [State.setWindow]
@[simp] theorem State.setWindow_timing : (s.setWindow n w).timing = s.timing := by simp [State.setWindow]
@[simp] theorem State.setWindow_fallback : (s.setWindow n w).fallback = s.fallback := by simp [State.setWindow]
@[simp] theorem State.setWindow_generation : (s.setWindow n w).generation = s.generation := by simp [State.setWindow]
@[simp] theorem State.setWindow_active : (s.setWindow n w).active = s.active := by simp [State.setWindow]
@[simp] theorem State.setWindow_shadow : (s.setWindow n w).shadow = s.shadow := by simp [State.setWindow]
@[simp] theorem State.setWindow_counters : (s.setWindow n w).counters = s.counters := by simp [State.setWindow]
@[simp] theorem State.setWindow_device : (s.setWindow n w).device = s.device := by simp [State.setWindow]
@[simp] theorem State.setWindow_history : (s.setWindow n w).history = s.history := by simp [State.setWindow]
@[simp] theorem State.setWindow_slots : (s.setWindow n w).slots = s.slots := by simp [State.setWindow]
@[simp] theorem State.setWindow_waiting : (s.setWindow n w).waiting = s.waiting := by simp [State.setWindow]
@[simp] theorem State.setWindow_lanes : (s.setWindow n w).lanes = s.lanes := by simp [State.setWindow]
@[simp] theorem State.setWindow_tagCounter : (s.setWindow n w).tagCounter = s.tagCounter := by simp [State.setWindow]
@[simp] theorem State.setWindow_round : (s.setWindow n w).round = s.round := by simp [State.setWindow]
@[simp] theorem State.setWindow_watches : (s.setWindow n w).watches = s.watches := by simp [State.setWindow]
@[simp] theorem State.setWindow_notices : (s.setWindow n w).notices = s.notices := by simp [State.setWindow]
@[simp] theorem State.setWindow_dropped : (s.setWindow n w).dropped = s.dropped := by simp [State.setWindow]
@[simp] theorem State.setWindow_destination : (s.setWindow n w).destination = s.destination := by simp [State.setWindow]
@[simp] theorem State.setWindow_plant : (s.setWindow n w).plant = s.plant := by simp [State.setWindow]
@[simp] theorem State.setWindow_line : (s.setWindow n w).line = s.line := by simp [State.setWindow]
@[simp] theorem State.setWindow_stored : (s.setWindow n w).stored = s.stored := by simp [State.setWindow]
@[simp] theorem State.setWindow_writing : (s.setWindow n w).writing = s.writing := by simp [State.setWindow]
@[simp] theorem State.setWindow_restartPending : (s.setWindow n w).restartPending = s.restartPending := by simp [State.setWindow]
@[simp] theorem State.setWindow_lineClosed : (s.setWindow n w).lineClosed = s.lineClosed := by simp [State.setWindow]
@[simp] theorem State.setWindow_lineWaiting : (s.setWindow n w).lineWaiting = s.lineWaiting := by simp [State.setWindow]
@[simp] theorem State.setWindow_pending : (s.setWindow n w).pending = s.pending := by simp [State.setWindow]
@[simp] theorem State.setWindow_choices : (s.setWindow n w).choices = s.choices := by simp [State.setWindow]

end setWindow

/-! ### setQuiet -/

section setQuiet
variable (s : State) (n : Fin 32) (q : Option QuietRun)

@[simp] theorem State.setQuiet_identity : (s.setQuiet n q).identity = s.identity := by simp [State.setQuiet]
@[simp] theorem State.setQuiet_powered : (s.setQuiet n q).powered = s.powered := by simp [State.setQuiet]
@[simp] theorem State.setQuiet_time : (s.setQuiet n q).time = s.time := by simp [State.setQuiet]
@[simp] theorem State.setQuiet_timing : (s.setQuiet n q).timing = s.timing := by simp [State.setQuiet]
@[simp] theorem State.setQuiet_fallback : (s.setQuiet n q).fallback = s.fallback := by simp [State.setQuiet]
@[simp] theorem State.setQuiet_generation : (s.setQuiet n q).generation = s.generation := by simp [State.setQuiet]
@[simp] theorem State.setQuiet_active : (s.setQuiet n q).active = s.active := by simp [State.setQuiet]
@[simp] theorem State.setQuiet_shadow : (s.setQuiet n q).shadow = s.shadow := by simp [State.setQuiet]
@[simp] theorem State.setQuiet_counters : (s.setQuiet n q).counters = s.counters := by simp [State.setQuiet]
@[simp] theorem State.setQuiet_device : (s.setQuiet n q).device = s.device := by simp [State.setQuiet]
@[simp] theorem State.setQuiet_history : (s.setQuiet n q).history = s.history := by simp [State.setQuiet]
@[simp] theorem State.setQuiet_slots : (s.setQuiet n q).slots = s.slots := by simp [State.setQuiet]
@[simp] theorem State.setQuiet_waiting : (s.setQuiet n q).waiting = s.waiting := by simp [State.setQuiet]
@[simp] theorem State.setQuiet_lanes : (s.setQuiet n q).lanes = s.lanes := by simp [State.setQuiet]
@[simp] theorem State.setQuiet_tagCounter : (s.setQuiet n q).tagCounter = s.tagCounter := by simp [State.setQuiet]
@[simp] theorem State.setQuiet_round : (s.setQuiet n q).round = s.round := by simp [State.setQuiet]
@[simp] theorem State.setQuiet_watches : (s.setQuiet n q).watches = s.watches := by simp [State.setQuiet]
@[simp] theorem State.setQuiet_notices : (s.setQuiet n q).notices = s.notices := by simp [State.setQuiet]
@[simp] theorem State.setQuiet_dropped : (s.setQuiet n q).dropped = s.dropped := by simp [State.setQuiet]
@[simp] theorem State.setQuiet_destination : (s.setQuiet n q).destination = s.destination := by simp [State.setQuiet]
@[simp] theorem State.setQuiet_plant : (s.setQuiet n q).plant = s.plant := by simp [State.setQuiet]
@[simp] theorem State.setQuiet_line : (s.setQuiet n q).line = s.line := by simp [State.setQuiet]
@[simp] theorem State.setQuiet_stored : (s.setQuiet n q).stored = s.stored := by simp [State.setQuiet]
@[simp] theorem State.setQuiet_writing : (s.setQuiet n q).writing = s.writing := by simp [State.setQuiet]
@[simp] theorem State.setQuiet_restartPending : (s.setQuiet n q).restartPending = s.restartPending := by simp [State.setQuiet]
@[simp] theorem State.setQuiet_lineClosed : (s.setQuiet n q).lineClosed = s.lineClosed := by simp [State.setQuiet]
@[simp] theorem State.setQuiet_lineWaiting : (s.setQuiet n q).lineWaiting = s.lineWaiting := by simp [State.setQuiet]
@[simp] theorem State.setQuiet_pending : (s.setQuiet n q).pending = s.pending := by simp [State.setQuiet]
@[simp] theorem State.setQuiet_choices : (s.setQuiet n q).choices = s.choices := by simp [State.setQuiet]

end setQuiet

/-! ### updateSchedule -/

section updateSchedule
variable (s : State) (n : Fin 32) (f : Schedule → Schedule)

@[simp] theorem State.updateSchedule_identity : (s.updateSchedule n f).identity = s.identity := by simp [State.updateSchedule]
@[simp] theorem State.updateSchedule_powered : (s.updateSchedule n f).powered = s.powered := by simp [State.updateSchedule]
@[simp] theorem State.updateSchedule_time : (s.updateSchedule n f).time = s.time := by simp [State.updateSchedule]
@[simp] theorem State.updateSchedule_timing : (s.updateSchedule n f).timing = s.timing := by simp [State.updateSchedule]
@[simp] theorem State.updateSchedule_fallback : (s.updateSchedule n f).fallback = s.fallback := by simp [State.updateSchedule]
@[simp] theorem State.updateSchedule_generation : (s.updateSchedule n f).generation = s.generation := by simp [State.updateSchedule]
@[simp] theorem State.updateSchedule_active : (s.updateSchedule n f).active = s.active := by simp [State.updateSchedule]
@[simp] theorem State.updateSchedule_shadow : (s.updateSchedule n f).shadow = s.shadow := by simp [State.updateSchedule]
@[simp] theorem State.updateSchedule_counters : (s.updateSchedule n f).counters = s.counters := by simp [State.updateSchedule]
@[simp] theorem State.updateSchedule_device : (s.updateSchedule n f).device = s.device := by simp [State.updateSchedule]
@[simp] theorem State.updateSchedule_history : (s.updateSchedule n f).history = s.history := by simp [State.updateSchedule]
@[simp] theorem State.updateSchedule_slots : (s.updateSchedule n f).slots = s.slots := by simp [State.updateSchedule]
@[simp] theorem State.updateSchedule_waiting : (s.updateSchedule n f).waiting = s.waiting := by simp [State.updateSchedule]
@[simp] theorem State.updateSchedule_lanes : (s.updateSchedule n f).lanes = s.lanes := by simp [State.updateSchedule]
@[simp] theorem State.updateSchedule_tagCounter : (s.updateSchedule n f).tagCounter = s.tagCounter := by simp [State.updateSchedule]
@[simp] theorem State.updateSchedule_round : (s.updateSchedule n f).round = s.round := by simp [State.updateSchedule]
@[simp] theorem State.updateSchedule_watches : (s.updateSchedule n f).watches = s.watches := by simp [State.updateSchedule]
@[simp] theorem State.updateSchedule_notices : (s.updateSchedule n f).notices = s.notices := by simp [State.updateSchedule]
@[simp] theorem State.updateSchedule_dropped : (s.updateSchedule n f).dropped = s.dropped := by simp [State.updateSchedule]
@[simp] theorem State.updateSchedule_destination : (s.updateSchedule n f).destination = s.destination := by simp [State.updateSchedule]
@[simp] theorem State.updateSchedule_plant : (s.updateSchedule n f).plant = s.plant := by simp [State.updateSchedule]
@[simp] theorem State.updateSchedule_line : (s.updateSchedule n f).line = s.line := by simp [State.updateSchedule]
@[simp] theorem State.updateSchedule_stored : (s.updateSchedule n f).stored = s.stored := by simp [State.updateSchedule]
@[simp] theorem State.updateSchedule_writing : (s.updateSchedule n f).writing = s.writing := by simp [State.updateSchedule]
@[simp] theorem State.updateSchedule_restartPending : (s.updateSchedule n f).restartPending = s.restartPending := by simp [State.updateSchedule]
@[simp] theorem State.updateSchedule_lineClosed : (s.updateSchedule n f).lineClosed = s.lineClosed := by simp [State.updateSchedule]
@[simp] theorem State.updateSchedule_lineWaiting : (s.updateSchedule n f).lineWaiting = s.lineWaiting := by simp [State.updateSchedule]
@[simp] theorem State.updateSchedule_pending : (s.updateSchedule n f).pending = s.pending := by simp [State.updateSchedule]
@[simp] theorem State.updateSchedule_choices : (s.updateSchedule n f).choices = s.choices := by simp [State.updateSchedule]

end updateSchedule

/-! ### A frame forwarded -/

section forward
variable (s : State) (p : Port) (f : Frame)

@[simp] theorem State.forward_identity : (s.forward p f).identity = s.identity := by
  simp only [State.forward]; repeat' split
  all_goals simp
@[simp] theorem State.forward_powered : (s.forward p f).powered = s.powered := by
  simp only [State.forward]; repeat' split
  all_goals simp
@[simp] theorem State.forward_time : (s.forward p f).time = s.time := by
  simp only [State.forward]; repeat' split
  all_goals simp
@[simp] theorem State.forward_timing : (s.forward p f).timing = s.timing := by
  simp only [State.forward]; repeat' split
  all_goals simp
@[simp] theorem State.forward_fallback : (s.forward p f).fallback = s.fallback := by
  simp only [State.forward]; repeat' split
  all_goals simp
@[simp] theorem State.forward_generation : (s.forward p f).generation = s.generation := by
  simp only [State.forward]; repeat' split
  all_goals simp
@[simp] theorem State.forward_active : (s.forward p f).active = s.active := by
  simp only [State.forward]; repeat' split
  all_goals simp
@[simp] theorem State.forward_shadow : (s.forward p f).shadow = s.shadow := by
  simp only [State.forward]; repeat' split
  all_goals simp
@[simp] theorem State.forward_controllers : (s.forward p f).controllers = s.controllers := by
  simp only [State.forward]; repeat' split
  all_goals simp
@[simp] theorem State.forward_counters : (s.forward p f).counters = s.counters := by
  simp only [State.forward]; repeat' split
  all_goals simp
@[simp] theorem State.forward_history : (s.forward p f).history = s.history := by
  simp only [State.forward]; repeat' split
  all_goals simp
@[simp] theorem State.forward_slots : (s.forward p f).slots = s.slots := by
  simp only [State.forward]; repeat' split
  all_goals simp
@[simp] theorem State.forward_waiting : (s.forward p f).waiting = s.waiting := by
  simp only [State.forward]; repeat' split
  all_goals simp
@[simp] theorem State.forward_lanes : (s.forward p f).lanes = s.lanes := by
  simp only [State.forward]; repeat' split
  all_goals simp
@[simp] theorem State.forward_tagCounter : (s.forward p f).tagCounter = s.tagCounter := by
  simp only [State.forward]; repeat' split
  all_goals simp
@[simp] theorem State.forward_round : (s.forward p f).round = s.round := by
  simp only [State.forward]; repeat' split
  all_goals simp
@[simp] theorem State.forward_watches : (s.forward p f).watches = s.watches := by
  simp only [State.forward]; repeat' split
  all_goals simp
@[simp] theorem State.forward_notices : (s.forward p f).notices = s.notices := by
  simp only [State.forward]; repeat' split
  all_goals simp
@[simp] theorem State.forward_dropped : (s.forward p f).dropped = s.dropped := by
  simp only [State.forward]; repeat' split
  all_goals simp
@[simp] theorem State.forward_destination : (s.forward p f).destination = s.destination := by
  simp only [State.forward]; repeat' split
  all_goals simp
@[simp] theorem State.forward_stored : (s.forward p f).stored = s.stored := by
  simp only [State.forward]; repeat' split
  all_goals simp
@[simp] theorem State.forward_writing : (s.forward p f).writing = s.writing := by
  simp only [State.forward]; repeat' split
  all_goals simp
@[simp] theorem State.forward_restartPending : (s.forward p f).restartPending = s.restartPending := by
  simp only [State.forward]; repeat' split
  all_goals simp
@[simp] theorem State.forward_lineClosed : (s.forward p f).lineClosed = s.lineClosed := by
  simp only [State.forward]; repeat' split
  all_goals simp
@[simp] theorem State.forward_lineWaiting : (s.forward p f).lineWaiting = s.lineWaiting := by
  simp only [State.forward]; repeat' split
  all_goals simp
@[simp] theorem State.forward_pending : (s.forward p f).pending = s.pending := by
  simp only [State.forward]; repeat' split
  all_goals simp
@[simp] theorem State.forward_choices : (s.forward p f).choices = s.choices := by
  simp only [State.forward]; repeat' split
  all_goals simp

end forward

/-! ### A frame originated -/

section originate
variable (s : State) (p : Port) (o : OrigFrame)

@[simp] theorem State.originate_identity : (s.originate p o).identity = s.identity := by
  simp only [State.originate]; split <;> simp
@[simp] theorem State.originate_powered : (s.originate p o).powered = s.powered := by
  simp only [State.originate]; split <;> simp
@[simp] theorem State.originate_time : (s.originate p o).time = s.time := by
  simp only [State.originate]; split <;> simp
@[simp] theorem State.originate_timing : (s.originate p o).timing = s.timing := by
  simp only [State.originate]; split <;> simp
@[simp] theorem State.originate_fallback : (s.originate p o).fallback = s.fallback := by
  simp only [State.originate]; split <;> simp
@[simp] theorem State.originate_generation : (s.originate p o).generation = s.generation := by
  simp only [State.originate]; split <;> simp
@[simp] theorem State.originate_active : (s.originate p o).active = s.active := by
  simp only [State.originate]; split <;> simp
@[simp] theorem State.originate_shadow : (s.originate p o).shadow = s.shadow := by
  simp only [State.originate]; split <;> simp
@[simp] theorem State.originate_controllers : (s.originate p o).controllers = s.controllers := by
  simp only [State.originate]; split <;> simp
@[simp] theorem State.originate_counters : (s.originate p o).counters = s.counters := by
  simp only [State.originate]; split <;> simp
@[simp] theorem State.originate_history : (s.originate p o).history = s.history := by
  simp only [State.originate]; split <;> simp
@[simp] theorem State.originate_slots : (s.originate p o).slots = s.slots := by
  simp only [State.originate]; split <;> simp
@[simp] theorem State.originate_waiting : (s.originate p o).waiting = s.waiting := by
  simp only [State.originate]; split <;> simp
@[simp] theorem State.originate_lanes : (s.originate p o).lanes = s.lanes := by
  simp only [State.originate]; split <;> simp
@[simp] theorem State.originate_tagCounter : (s.originate p o).tagCounter = s.tagCounter := by
  simp only [State.originate]; split <;> simp
@[simp] theorem State.originate_round : (s.originate p o).round = s.round := by
  simp only [State.originate]; split <;> simp
@[simp] theorem State.originate_watches : (s.originate p o).watches = s.watches := by
  simp only [State.originate]; split <;> simp
@[simp] theorem State.originate_notices : (s.originate p o).notices = s.notices := by
  simp only [State.originate]; split <;> simp
@[simp] theorem State.originate_dropped : (s.originate p o).dropped = s.dropped := by
  simp only [State.originate]; split <;> simp
@[simp] theorem State.originate_destination : (s.originate p o).destination = s.destination := by
  simp only [State.originate]; split <;> simp
@[simp] theorem State.originate_stored : (s.originate p o).stored = s.stored := by
  simp only [State.originate]; split <;> simp
@[simp] theorem State.originate_writing : (s.originate p o).writing = s.writing := by
  simp only [State.originate]; split <;> simp
@[simp] theorem State.originate_restartPending : (s.originate p o).restartPending = s.restartPending := by
  simp only [State.originate]; split <;> simp
@[simp] theorem State.originate_lineClosed : (s.originate p o).lineClosed = s.lineClosed := by
  simp only [State.originate]; split <;> simp
@[simp] theorem State.originate_lineWaiting : (s.originate p o).lineWaiting = s.lineWaiting := by
  simp only [State.originate]; split <;> simp
@[simp] theorem State.originate_pending : (s.originate p o).pending = s.pending := by
  simp only [State.originate]; split <;> simp
@[simp] theorem State.originate_choices : (s.originate p o).choices = s.choices := by
  simp only [State.originate]; split <;> simp

end originate

/-! ### Notices that move, and a notice posted -/

/-- A move changes the Notice Queue, the dropped count and the Plant port alone. -/
theorem State.moveNotice_shape (s : State) :
    ∃ q d x, s.moveNotice = { s with notices := q, dropped := d, plant := x } := by
  unfold State.moveNotice; split <;> exact ⟨_, _, _, rfl⟩

theorem State.moveNotices_shape (k : Nat) (s : State) :
    ∃ q d x, s.moveNotices k = { s with notices := q, dropped := d, plant := x } := by
  induction k generalizing s with
  | zero => exact ⟨_, _, _, rfl⟩
  | succ k ih =>
    unfold State.moveNotices; split
    · obtain ⟨_, _, _, h⟩ := s.moveNotice_shape
      obtain ⟨_, _, _, hs⟩ := ih s.moveNotice
      rw [hs, h]; exact ⟨_, _, _, rfl⟩
    · exact ⟨_, _, _, rfl⟩

/-- The moves that are due change the Notice Queue, the dropped count and the Plant port alone. -/
theorem State.settleNotices_shape (s : State) :
    ∃ q d x, s.settleNotices = { s with notices := q, dropped := d, plant := x } := s.moveNotices_shape _

/-- A notice taken into the Notice Queue changes that queue and the dropped count alone. -/
theorem State.queueNotice_shape (s : State) (n : Notice) :
    ∃ q d, s.queueNotice n = { s with notices := q, dropped := d } := by
  unfold State.queueNotice; repeat' split
  all_goals exact ⟨_, _, rfl⟩

/-- A posted notice changes the Notice Queue, the dropped count and, by the moves that follow, the Plant port. -/
theorem State.post_shape (s : State) (n : Notice) :
    ∃ q d x, s.post n = { s with notices := q, dropped := d, plant := x } := by
  unfold State.post; split
  · exact ⟨_, _, _, rfl⟩
  · obtain ⟨_, _, h⟩ := s.queueNotice_shape n
    obtain ⟨_, _, _, hs⟩ := (s.queueNotice n).settleNotices_shape
    rw [hs, h]; exact ⟨_, _, _, rfl⟩

section settleNotices
variable (s : State)

@[simp] theorem State.settleNotices_identity : (s.settleNotices).identity = s.identity := by
  obtain ⟨_, _, _, h⟩ := s.settleNotices_shape; rw [h]
@[simp] theorem State.settleNotices_powered : (s.settleNotices).powered = s.powered := by
  obtain ⟨_, _, _, h⟩ := s.settleNotices_shape; rw [h]
@[simp] theorem State.settleNotices_time : (s.settleNotices).time = s.time := by
  obtain ⟨_, _, _, h⟩ := s.settleNotices_shape; rw [h]
@[simp] theorem State.settleNotices_timing : (s.settleNotices).timing = s.timing := by
  obtain ⟨_, _, _, h⟩ := s.settleNotices_shape; rw [h]
@[simp] theorem State.settleNotices_fallback : (s.settleNotices).fallback = s.fallback := by
  obtain ⟨_, _, _, h⟩ := s.settleNotices_shape; rw [h]
@[simp] theorem State.settleNotices_generation : (s.settleNotices).generation = s.generation := by
  obtain ⟨_, _, _, h⟩ := s.settleNotices_shape; rw [h]
@[simp] theorem State.settleNotices_active : (s.settleNotices).active = s.active := by
  obtain ⟨_, _, _, h⟩ := s.settleNotices_shape; rw [h]
@[simp] theorem State.settleNotices_shadow : (s.settleNotices).shadow = s.shadow := by
  obtain ⟨_, _, _, h⟩ := s.settleNotices_shape; rw [h]
@[simp] theorem State.settleNotices_controllers : (s.settleNotices).controllers = s.controllers := by
  obtain ⟨_, _, _, h⟩ := s.settleNotices_shape; rw [h]
@[simp] theorem State.settleNotices_counters : (s.settleNotices).counters = s.counters := by
  obtain ⟨_, _, _, h⟩ := s.settleNotices_shape; rw [h]
@[simp] theorem State.settleNotices_device : (s.settleNotices).device = s.device := by
  obtain ⟨_, _, _, h⟩ := s.settleNotices_shape; rw [h]
@[simp] theorem State.settleNotices_history : (s.settleNotices).history = s.history := by
  obtain ⟨_, _, _, h⟩ := s.settleNotices_shape; rw [h]
@[simp] theorem State.settleNotices_slots : (s.settleNotices).slots = s.slots := by
  obtain ⟨_, _, _, h⟩ := s.settleNotices_shape; rw [h]
@[simp] theorem State.settleNotices_waiting : (s.settleNotices).waiting = s.waiting := by
  obtain ⟨_, _, _, h⟩ := s.settleNotices_shape; rw [h]
@[simp] theorem State.settleNotices_lanes : (s.settleNotices).lanes = s.lanes := by
  obtain ⟨_, _, _, h⟩ := s.settleNotices_shape; rw [h]
@[simp] theorem State.settleNotices_tagCounter : (s.settleNotices).tagCounter = s.tagCounter := by
  obtain ⟨_, _, _, h⟩ := s.settleNotices_shape; rw [h]
@[simp] theorem State.settleNotices_round : (s.settleNotices).round = s.round := by
  obtain ⟨_, _, _, h⟩ := s.settleNotices_shape; rw [h]
@[simp] theorem State.settleNotices_watches : (s.settleNotices).watches = s.watches := by
  obtain ⟨_, _, _, h⟩ := s.settleNotices_shape; rw [h]
@[simp] theorem State.settleNotices_destination : (s.settleNotices).destination = s.destination := by
  obtain ⟨_, _, _, h⟩ := s.settleNotices_shape; rw [h]
@[simp] theorem State.settleNotices_line : (s.settleNotices).line = s.line := by
  obtain ⟨_, _, _, h⟩ := s.settleNotices_shape; rw [h]
@[simp] theorem State.settleNotices_stored : (s.settleNotices).stored = s.stored := by
  obtain ⟨_, _, _, h⟩ := s.settleNotices_shape; rw [h]
@[simp] theorem State.settleNotices_writing : (s.settleNotices).writing = s.writing := by
  obtain ⟨_, _, _, h⟩ := s.settleNotices_shape; rw [h]
@[simp] theorem State.settleNotices_restartPending : (s.settleNotices).restartPending = s.restartPending := by
  obtain ⟨_, _, _, h⟩ := s.settleNotices_shape; rw [h]
@[simp] theorem State.settleNotices_lineClosed : (s.settleNotices).lineClosed = s.lineClosed := by
  obtain ⟨_, _, _, h⟩ := s.settleNotices_shape; rw [h]
@[simp] theorem State.settleNotices_lineWaiting : (s.settleNotices).lineWaiting = s.lineWaiting := by
  obtain ⟨_, _, _, h⟩ := s.settleNotices_shape; rw [h]
@[simp] theorem State.settleNotices_pending : (s.settleNotices).pending = s.pending := by
  obtain ⟨_, _, _, h⟩ := s.settleNotices_shape; rw [h]
@[simp] theorem State.settleNotices_choices : (s.settleNotices).choices = s.choices := by
  obtain ⟨_, _, _, h⟩ := s.settleNotices_shape; rw [h]

end settleNotices

section post
variable (s : State) (n : Notice)

@[simp] theorem State.post_identity : (s.post n).identity = s.identity := by
  obtain ⟨_, _, _, h⟩ := s.post_shape n; rw [h]
@[simp] theorem State.post_powered : (s.post n).powered = s.powered := by
  obtain ⟨_, _, _, h⟩ := s.post_shape n; rw [h]
@[simp] theorem State.post_time : (s.post n).time = s.time := by
  obtain ⟨_, _, _, h⟩ := s.post_shape n; rw [h]
@[simp] theorem State.post_timing : (s.post n).timing = s.timing := by
  obtain ⟨_, _, _, h⟩ := s.post_shape n; rw [h]
@[simp] theorem State.post_fallback : (s.post n).fallback = s.fallback := by
  obtain ⟨_, _, _, h⟩ := s.post_shape n; rw [h]
@[simp] theorem State.post_generation : (s.post n).generation = s.generation := by
  obtain ⟨_, _, _, h⟩ := s.post_shape n; rw [h]
@[simp] theorem State.post_active : (s.post n).active = s.active := by
  obtain ⟨_, _, _, h⟩ := s.post_shape n; rw [h]
@[simp] theorem State.post_shadow : (s.post n).shadow = s.shadow := by
  obtain ⟨_, _, _, h⟩ := s.post_shape n; rw [h]
@[simp] theorem State.post_controllers : (s.post n).controllers = s.controllers := by
  obtain ⟨_, _, _, h⟩ := s.post_shape n; rw [h]
@[simp] theorem State.post_counters : (s.post n).counters = s.counters := by
  obtain ⟨_, _, _, h⟩ := s.post_shape n; rw [h]
@[simp] theorem State.post_device : (s.post n).device = s.device := by
  obtain ⟨_, _, _, h⟩ := s.post_shape n; rw [h]
@[simp] theorem State.post_history : (s.post n).history = s.history := by
  obtain ⟨_, _, _, h⟩ := s.post_shape n; rw [h]
@[simp] theorem State.post_slots : (s.post n).slots = s.slots := by
  obtain ⟨_, _, _, h⟩ := s.post_shape n; rw [h]
@[simp] theorem State.post_waiting : (s.post n).waiting = s.waiting := by
  obtain ⟨_, _, _, h⟩ := s.post_shape n; rw [h]
@[simp] theorem State.post_lanes : (s.post n).lanes = s.lanes := by
  obtain ⟨_, _, _, h⟩ := s.post_shape n; rw [h]
@[simp] theorem State.post_tagCounter : (s.post n).tagCounter = s.tagCounter := by
  obtain ⟨_, _, _, h⟩ := s.post_shape n; rw [h]
@[simp] theorem State.post_round : (s.post n).round = s.round := by
  obtain ⟨_, _, _, h⟩ := s.post_shape n; rw [h]
@[simp] theorem State.post_watches : (s.post n).watches = s.watches := by
  obtain ⟨_, _, _, h⟩ := s.post_shape n; rw [h]
@[simp] theorem State.post_destination : (s.post n).destination = s.destination := by
  obtain ⟨_, _, _, h⟩ := s.post_shape n; rw [h]
@[simp] theorem State.post_line : (s.post n).line = s.line := by
  obtain ⟨_, _, _, h⟩ := s.post_shape n; rw [h]
@[simp] theorem State.post_stored : (s.post n).stored = s.stored := by
  obtain ⟨_, _, _, h⟩ := s.post_shape n; rw [h]
@[simp] theorem State.post_writing : (s.post n).writing = s.writing := by
  obtain ⟨_, _, _, h⟩ := s.post_shape n; rw [h]
@[simp] theorem State.post_restartPending : (s.post n).restartPending = s.restartPending := by
  obtain ⟨_, _, _, h⟩ := s.post_shape n; rw [h]
@[simp] theorem State.post_lineClosed : (s.post n).lineClosed = s.lineClosed := by
  obtain ⟨_, _, _, h⟩ := s.post_shape n; rw [h]
@[simp] theorem State.post_lineWaiting : (s.post n).lineWaiting = s.lineWaiting := by
  obtain ⟨_, _, _, h⟩ := s.post_shape n; rw [h]
@[simp] theorem State.post_pending : (s.post n).pending = s.pending := by
  obtain ⟨_, _, _, h⟩ := s.post_shape n; rw [h]
@[simp] theorem State.post_choices : (s.post n).choices = s.choices := by
  obtain ⟨_, _, _, h⟩ := s.post_shape n; rw [h]

end post

/-! ### A window notice -/

section postWindow
variable (s : State) (k : NoticeKind) (n : Fin 32) (c : WindowCause)

@[simp] theorem State.postWindow_identity : (s.postWindow k n c).identity = s.identity := by simp [State.postWindow]
@[simp] theorem State.postWindow_powered : (s.postWindow k n c).powered = s.powered := by simp [State.postWindow]
@[simp] theorem State.postWindow_time : (s.postWindow k n c).time = s.time := by simp [State.postWindow]
@[simp] theorem State.postWindow_timing : (s.postWindow k n c).timing = s.timing := by simp [State.postWindow]
@[simp] theorem State.postWindow_fallback : (s.postWindow k n c).fallback = s.fallback := by simp [State.postWindow]
@[simp] theorem State.postWindow_generation : (s.postWindow k n c).generation = s.generation := by simp [State.postWindow]
@[simp] theorem State.postWindow_active : (s.postWindow k n c).active = s.active := by simp [State.postWindow]
@[simp] theorem State.postWindow_shadow : (s.postWindow k n c).shadow = s.shadow := by simp [State.postWindow]
@[simp] theorem State.postWindow_controllers : (s.postWindow k n c).controllers = s.controllers := by simp [State.postWindow]
@[simp] theorem State.postWindow_counters : (s.postWindow k n c).counters = s.counters := by simp [State.postWindow]
@[simp] theorem State.postWindow_device : (s.postWindow k n c).device = s.device := by simp [State.postWindow]
@[simp] theorem State.postWindow_history : (s.postWindow k n c).history = s.history := by simp [State.postWindow]
@[simp] theorem State.postWindow_slots : (s.postWindow k n c).slots = s.slots := by simp [State.postWindow]
@[simp] theorem State.postWindow_waiting : (s.postWindow k n c).waiting = s.waiting := by simp [State.postWindow]
@[simp] theorem State.postWindow_lanes : (s.postWindow k n c).lanes = s.lanes := by simp [State.postWindow]
@[simp] theorem State.postWindow_tagCounter : (s.postWindow k n c).tagCounter = s.tagCounter := by simp [State.postWindow]
@[simp] theorem State.postWindow_round : (s.postWindow k n c).round = s.round := by simp [State.postWindow]
@[simp] theorem State.postWindow_watches : (s.postWindow k n c).watches = s.watches := by simp [State.postWindow]
@[simp] theorem State.postWindow_destination : (s.postWindow k n c).destination = s.destination := by simp [State.postWindow]
@[simp] theorem State.postWindow_line : (s.postWindow k n c).line = s.line := by simp [State.postWindow]
@[simp] theorem State.postWindow_stored : (s.postWindow k n c).stored = s.stored := by simp [State.postWindow]
@[simp] theorem State.postWindow_writing : (s.postWindow k n c).writing = s.writing := by simp [State.postWindow]
@[simp] theorem State.postWindow_restartPending : (s.postWindow k n c).restartPending = s.restartPending := by simp [State.postWindow]
@[simp] theorem State.postWindow_lineClosed : (s.postWindow k n c).lineClosed = s.lineClosed := by simp [State.postWindow]
@[simp] theorem State.postWindow_lineWaiting : (s.postWindow k n c).lineWaiting = s.lineWaiting := by simp [State.postWindow]
@[simp] theorem State.postWindow_pending : (s.postWindow k n c).pending = s.pending := by simp [State.postWindow]
@[simp] theorem State.postWindow_choices : (s.postWindow k n c).choices = s.choices := by simp [State.postWindow]

end postWindow

/-! ### What was written is read back -/

section readBack
variable (s : State)

@[simp] theorem State.controller_setController (n m : Fin 32) (c : Option Controller) :
    (s.setController n c).controller m = if n = m then c else s.controller m := by
  simp only [State.controller, State.setController, Fin.getElem_fin, Vector.getElem_set, Fin.ext_iff]

@[simp] theorem State.slot_setSlot (k j : Fin 8) (x : Slot) :
    (s.setSlot k x).slot j = if k = j then x else s.slot j := by
  simp only [State.slot, State.setSlot, Fin.getElem_fin, Vector.getElem_set, Fin.ext_iff]

@[simp] theorem State.lane_setLane (l m : Fin 2) (w : Option LaneWork) :
    (s.setLane l w).lane m = if l = m then w else s.lane m := by
  simp only [State.lane, State.setLane, Fin.getElem_fin, Vector.getElem_set, Fin.ext_iff]

@[simp] theorem State.watch_setWatch (w v : Fin 8) (x : Option Watch) :
    (s.setWatch w x).watch v = if w = v then x else s.watch v := by
  simp only [State.watch, State.setWatch, Fin.getElem_fin, Vector.getElem_set, Fin.ext_iff]

@[simp] theorem State.count_setCount (n m : Fin 32) (c : ControllerCounters) :
    (s.setCount n c).count m = if n = m then c else s.count m := by
  simp only [State.count, State.setCount, Fin.getElem_fin, Vector.getElem_set, Fin.ext_iff]

@[simp] theorem State.port_setPort (p q : Port) (x : PortState) :
    (s.setPort p x).port q = if p = q then x else s.port q := by
  cases p <;> cases q <;> rfl

@[simp] theorem State.setPort_plant_plant (x : PortState) : (s.setPort .plant x).plant = x := rfl
@[simp] theorem State.setPort_plant_line (x : PortState) : (s.setPort .plant x).line = s.line := rfl
@[simp] theorem State.setPort_line_line (x : PortState) : (s.setPort .line x).line = x := rfl
@[simp] theorem State.setPort_line_plant (x : PortState) : (s.setPort .line x).plant = s.plant := rfl
@[simp] theorem State.port_plant : s.port .plant = s.plant := rfl
@[simp] theorem State.port_line : s.port .line = s.line := rfl

theorem State.controller_updateController (n m : Fin 32) (f : Controller → Controller) :
    (s.updateController n f).controller m = if n = m then (s.controller m).map f else s.controller m := by
  unfold State.updateController
  split <;> rename_i h
  · simp only [State.controller_setController]; split <;> simp_all
  · split <;> simp_all

end readBack

end Sys2Proof.Machine
end

