-- ==== Sys2Proof/Laws/Frames.lean ====
section
/-! SUPPORT. What each shared operation leaves as it was: one lemma for each field it does not reach. -/

namespace Sys2Proof.Machine

/-- A fold over steps that keep a value keeps it. -/
theorem foldl_keeps {α β : Type} (g : State → β) (f : State → α → State) (h : ∀ s a, g (f s a) = g s) :
    ∀ (l : List α) (s : State), g (l.foldl f s) = g s
  | [], _ => rfl
  | a :: l, s => by rw [List.foldl_cons, foldl_keeps g f h l, h]

@[simp] theorem State.forward_line_plant (s : State) (f : Frame) : (s.forward .line f).plant = s.plant := by
  simp only [State.forward]; repeat' split
  all_goals simp

@[simp] theorem State.forward_plant_line (s : State) (f : Frame) : (s.forward .plant f).line = s.line := by
  simp only [State.forward]; repeat' split
  all_goals simp

@[simp] theorem State.originate_line_plant (s : State) (o : OrigFrame) : (s.originate .line o).plant = s.plant := by
  simp only [State.originate]; split <;> simp

@[simp] theorem State.originate_plant_line (s : State) (o : OrigFrame) : (s.originate .plant o).line = s.line := by
  simp only [State.originate]; split <;> simp


section offerTo
variable (s : State) (n : Fin 32) (o : Operation) (f : Frame) (e : Ending) (w : Fin 8)

@[simp] theorem State.offerTo_identity : (State.offerTo n o f e s w).identity = s.identity := by
  simp only [State.offerTo]; repeat' split
  all_goals simp
@[simp] theorem State.offerTo_powered : (State.offerTo n o f e s w).powered = s.powered := by
  simp only [State.offerTo]; repeat' split
  all_goals simp
@[simp] theorem State.offerTo_time : (State.offerTo n o f e s w).time = s.time := by
  simp only [State.offerTo]; repeat' split
  all_goals simp
@[simp] theorem State.offerTo_timing : (State.offerTo n o f e s w).timing = s.timing := by
  simp only [State.offerTo]; repeat' split
  all_goals simp
@[simp] theorem State.offerTo_fallback : (State.offerTo n o f e s w).fallback = s.fallback := by
  simp only [State.offerTo]; repeat' split
  all_goals simp
@[simp] theorem State.offerTo_generation : (State.offerTo n o f e s w).generation = s.generation := by
  simp only [State.offerTo]; repeat' split
  all_goals simp
@[simp] theorem State.offerTo_active : (State.offerTo n o f e s w).active = s.active := by
  simp only [State.offerTo]; repeat' split
  all_goals simp
@[simp] theorem State.offerTo_shadow : (State.offerTo n o f e s w).shadow = s.shadow := by
  simp only [State.offerTo]; repeat' split
  all_goals simp
@[simp] theorem State.offerTo_controllers : (State.offerTo n o f e s w).controllers = s.controllers := by
  simp only [State.offerTo]; repeat' split
  all_goals simp
@[simp] theorem State.offerTo_counters : (State.offerTo n o f e s w).counters = s.counters := by
  simp only [State.offerTo]; repeat' split
  all_goals simp
@[simp] theorem State.offerTo_device : (State.offerTo n o f e s w).device = s.device := by
  simp only [State.offerTo]; repeat' split
  all_goals simp
@[simp] theorem State.offerTo_history : (State.offerTo n o f e s w).history = s.history := by
  simp only [State.offerTo]; repeat' split
  all_goals simp
@[simp] theorem State.offerTo_slots : (State.offerTo n o f e s w).slots = s.slots := by
  simp only [State.offerTo]; repeat' split
  all_goals simp
@[simp] theorem State.offerTo_waiting : (State.offerTo n o f e s w).waiting = s.waiting := by
  simp only [State.offerTo]; repeat' split
  all_goals simp
@[simp] theorem State.offerTo_lanes : (State.offerTo n o f e s w).lanes = s.lanes := by
  simp only [State.offerTo]; repeat' split
  all_goals simp
@[simp] theorem State.offerTo_tagCounter : (State.offerTo n o f e s w).tagCounter = s.tagCounter := by
  simp only [State.offerTo]; repeat' split
  all_goals simp
@[simp] theorem State.offerTo_round : (State.offerTo n o f e s w).round = s.round := by
  simp only [State.offerTo]; repeat' split
  all_goals simp
@[simp] theorem State.offerTo_destination : (State.offerTo n o f e s w).destination = s.destination := by
  simp only [State.offerTo]; repeat' split
  all_goals simp
@[simp] theorem State.offerTo_line : (State.offerTo n o f e s w).line = s.line := by
  simp only [State.offerTo]; repeat' split
  all_goals simp
@[simp] theorem State.offerTo_stored : (State.offerTo n o f e s w).stored = s.stored := by
  simp only [State.offerTo]; repeat' split
  all_goals simp
@[simp] theorem State.offerTo_writing : (State.offerTo n o f e s w).writing = s.writing := by
  simp only [State.offerTo]; repeat' split
  all_goals simp
@[simp] theorem State.offerTo_restartPending : (State.offerTo n o f e s w).restartPending = s.restartPending := by
  simp only [State.offerTo]; repeat' split
  all_goals simp
@[simp] theorem State.offerTo_lineClosed : (State.offerTo n o f e s w).lineClosed = s.lineClosed := by
  simp only [State.offerTo]; repeat' split
  all_goals simp
@[simp] theorem State.offerTo_lineWaiting : (State.offerTo n o f e s w).lineWaiting = s.lineWaiting := by
  simp only [State.offerTo]; repeat' split
  all_goals simp
@[simp] theorem State.offerTo_pending : (State.offerTo n o f e s w).pending = s.pending := by
  simp only [State.offerTo]; repeat' split
  all_goals simp
@[simp] theorem State.offerTo_choices : (State.offerTo n o f e s w).choices = s.choices := by
  simp only [State.offerTo]; repeat' split
  all_goals simp

end offerTo

section offer
variable (s : State) (n : Fin 32) (o : Operation) (f : Frame) (e : Ending)

@[simp] theorem State.offer_identity : (s.offer n o f e).identity = s.identity := 
  foldl_keeps State.identity _ (fun s w => State.offerTo_identity s n o f e w) _ s
@[simp] theorem State.offer_powered : (s.offer n o f e).powered = s.powered := 
  foldl_keeps State.powered _ (fun s w => State.offerTo_powered s n o f e w) _ s
@[simp] theorem State.offer_time : (s.offer n o f e).time = s.time := 
  foldl_keeps State.time _ (fun s w => State.offerTo_time s n o f e w) _ s
@[simp] theorem State.offer_timing : (s.offer n o f e).timing = s.timing := 
  foldl_keeps State.timing _ (fun s w => State.offerTo_timing s n o f e w) _ s
@[simp] theorem State.offer_fallback : (s.offer n o f e).fallback = s.fallback := 
  foldl_keeps State.fallback _ (fun s w => State.offerTo_fallback s n o f e w) _ s
@[simp] theorem State.offer_generation : (s.offer n o f e).generation = s.generation := 
  foldl_keeps State.generation _ (fun s w => State.offerTo_generation s n o f e w) _ s
@[simp] theorem State.offer_active : (s.offer n o f e).active = s.active := 
  foldl_keeps State.active _ (fun s w => State.offerTo_active s n o f e w) _ s
@[simp] theorem State.offer_shadow : (s.offer n o f e).shadow = s.shadow := 
  foldl_keeps State.shadow _ (fun s w => State.offerTo_shadow s n o f e w) _ s
@[simp] theorem State.offer_controllers : (s.offer n o f e).controllers = s.controllers := 
  foldl_keeps State.controllers _ (fun s w => State.offerTo_controllers s n o f e w) _ s
@[simp] theorem State.offer_counters : (s.offer n o f e).counters = s.counters := 
  foldl_keeps State.counters _ (fun s w => State.offerTo_counters s n o f e w) _ s
@[simp] theorem State.offer_device : (s.offer n o f e).device = s.device := 
  foldl_keeps State.device _ (fun s w => State.offerTo_device s n o f e w) _ s
@[simp] theorem State.offer_history : (s.offer n o f e).history = s.history := 
  foldl_keeps State.history _ (fun s w => State.offerTo_history s n o f e w) _ s
@[simp] theorem State.offer_slots : (s.offer n o f e).slots = s.slots := 
  foldl_keeps State.slots _ (fun s w => State.offerTo_slots s n o f e w) _ s
@[simp] theorem State.offer_waiting : (s.offer n o f e).waiting = s.waiting := 
  foldl_keeps State.waiting _ (fun s w => State.offerTo_waiting s n o f e w) _ s
@[simp] theorem State.offer_lanes : (s.offer n o f e).lanes = s.lanes := 
  foldl_keeps State.lanes _ (fun s w => State.offerTo_lanes s n o f e w) _ s
@[simp] theorem State.offer_tagCounter : (s.offer n o f e).tagCounter = s.tagCounter := 
  foldl_keeps State.tagCounter _ (fun s w => State.offerTo_tagCounter s n o f e w) _ s
@[simp] theorem State.offer_round : (s.offer n o f e).round = s.round := 
  foldl_keeps State.round _ (fun s w => State.offerTo_round s n o f e w) _ s
@[simp] theorem State.offer_destination : (s.offer n o f e).destination = s.destination := 
  foldl_keeps State.destination _ (fun s w => State.offerTo_destination s n o f e w) _ s
@[simp] theorem State.offer_line : (s.offer n o f e).line = s.line := 
  foldl_keeps State.line _ (fun s w => State.offerTo_line s n o f e w) _ s
@[simp] theorem State.offer_stored : (s.offer n o f e).stored = s.stored := 
  foldl_keeps State.stored _ (fun s w => State.offerTo_stored s n o f e w) _ s
@[simp] theorem State.offer_writing : (s.offer n o f e).writing = s.writing := 
  foldl_keeps State.writing _ (fun s w => State.offerTo_writing s n o f e w) _ s
@[simp] theorem State.offer_restartPending : (s.offer n o f e).restartPending = s.restartPending := 
  foldl_keeps State.restartPending _ (fun s w => State.offerTo_restartPending s n o f e w) _ s
@[simp] theorem State.offer_lineClosed : (s.offer n o f e).lineClosed = s.lineClosed := 
  foldl_keeps State.lineClosed _ (fun s w => State.offerTo_lineClosed s n o f e w) _ s
@[simp] theorem State.offer_lineWaiting : (s.offer n o f e).lineWaiting = s.lineWaiting := 
  foldl_keeps State.lineWaiting _ (fun s w => State.offerTo_lineWaiting s n o f e w) _ s
@[simp] theorem State.offer_pending : (s.offer n o f e).pending = s.pending := 
  foldl_keeps State.pending _ (fun s w => State.offerTo_pending s n o f e w) _ s
@[simp] theorem State.offer_choices : (s.offer n o f e).choices = s.choices := 
  foldl_keeps State.choices _ (fun s w => State.offerTo_choices s n o f e w) _ s

end offer

section refuse
variable (s : State) (n : Option (Fin 32)) (o : Operation) (f : Frame) (r : Reason)

@[simp] theorem State.refuse_identity : (s.refuse n o f r).identity = s.identity := by
  simp only [State.refuse]; repeat' split
  all_goals simp
@[simp] theorem State.refuse_powered : (s.refuse n o f r).powered = s.powered := by
  simp only [State.refuse]; repeat' split
  all_goals simp
@[simp] theorem State.refuse_time : (s.refuse n o f r).time = s.time := by
  simp only [State.refuse]; repeat' split
  all_goals simp
@[simp] theorem State.refuse_timing : (s.refuse n o f r).timing = s.timing := by
  simp only [State.refuse]; repeat' split
  all_goals simp
@[simp] theorem State.refuse_fallback : (s.refuse n o f r).fallback = s.fallback := by
  simp only [State.refuse]; repeat' split
  all_goals simp
@[simp] theorem State.refuse_generation : (s.refuse n o f r).generation = s.generation := by
  simp only [State.refuse]; repeat' split
  all_goals simp
@[simp] theorem State.refuse_active : (s.refuse n o f r).active = s.active := by
  simp only [State.refuse]; repeat' split
  all_goals simp
@[simp] theorem State.refuse_shadow : (s.refuse n o f r).shadow = s.shadow := by
  simp only [State.refuse]; repeat' split
  all_goals simp
@[simp] theorem State.refuse_controllers : (s.refuse n o f r).controllers = s.controllers := by
  simp only [State.refuse]; repeat' split
  all_goals simp
@[simp] theorem State.refuse_history : (s.refuse n o f r).history = s.history := by
  simp only [State.refuse]; repeat' split
  all_goals simp
@[simp] theorem State.refuse_slots : (s.refuse n o f r).slots = s.slots := by
  simp only [State.refuse]; repeat' split
  all_goals simp
@[simp] theorem State.refuse_waiting : (s.refuse n o f r).waiting = s.waiting := by
  simp only [State.refuse]; repeat' split
  all_goals simp
@[simp] theorem State.refuse_lanes : (s.refuse n o f r).lanes = s.lanes := by
  simp only [State.refuse]; repeat' split
  all_goals simp
@[simp] theorem State.refuse_tagCounter : (s.refuse n o f r).tagCounter = s.tagCounter := by
  simp only [State.refuse]; repeat' split
  all_goals simp
@[simp] theorem State.refuse_round : (s.refuse n o f r).round = s.round := by
  simp only [State.refuse]; repeat' split
  all_goals simp
@[simp] theorem State.refuse_watches : (s.refuse n o f r).watches = s.watches := by
  simp only [State.refuse]; repeat' split
  all_goals simp
@[simp] theorem State.refuse_destination : (s.refuse n o f r).destination = s.destination := by
  simp only [State.refuse]; repeat' split
  all_goals simp
@[simp] theorem State.refuse_line : (s.refuse n o f r).line = s.line := by
  simp only [State.refuse]; repeat' split
  all_goals simp
@[simp] theorem State.refuse_stored : (s.refuse n o f r).stored = s.stored := by
  simp only [State.refuse]; repeat' split
  all_goals simp
@[simp] theorem State.refuse_writing : (s.refuse n o f r).writing = s.writing := by
  simp only [State.refuse]; repeat' split
  all_goals simp
@[simp] theorem State.refuse_restartPending : (s.refuse n o f r).restartPending = s.restartPending := by
  simp only [State.refuse]; repeat' split
  all_goals simp
@[simp] theorem State.refuse_lineClosed : (s.refuse n o f r).lineClosed = s.lineClosed := by
  simp only [State.refuse]; repeat' split
  all_goals simp
@[simp] theorem State.refuse_lineWaiting : (s.refuse n o f r).lineWaiting = s.lineWaiting := by
  simp only [State.refuse]; repeat' split
  all_goals simp
@[simp] theorem State.refuse_pending : (s.refuse n o f r).pending = s.pending := by
  simp only [State.refuse]; repeat' split
  all_goals simp
@[simp] theorem State.refuse_choices : (s.refuse n o f r).choices = s.choices := by
  simp only [State.refuse]; repeat' split
  all_goals simp

end refuse

section appendSegment
variable (s : State) (e : SegmentEntry)

@[simp] theorem State.appendSegment_identity : (s.appendSegment e).identity = s.identity := by
  simp only [State.appendSegment]; repeat' split
  all_goals simp
@[simp] theorem State.appendSegment_powered : (s.appendSegment e).powered = s.powered := by
  simp only [State.appendSegment]; repeat' split
  all_goals simp
@[simp] theorem State.appendSegment_time : (s.appendSegment e).time = s.time := by
  simp only [State.appendSegment]; repeat' split
  all_goals simp
@[simp] theorem State.appendSegment_timing : (s.appendSegment e).timing = s.timing := by
  simp only [State.appendSegment]; repeat' split
  all_goals simp
@[simp] theorem State.appendSegment_fallback : (s.appendSegment e).fallback = s.fallback := by
  simp only [State.appendSegment]; repeat' split
  all_goals simp
@[simp] theorem State.appendSegment_generation : (s.appendSegment e).generation = s.generation := by
  simp only [State.appendSegment]; repeat' split
  all_goals simp
@[simp] theorem State.appendSegment_active : (s.appendSegment e).active = s.active := by
  simp only [State.appendSegment]; repeat' split
  all_goals simp
@[simp] theorem State.appendSegment_shadow : (s.appendSegment e).shadow = s.shadow := by
  simp only [State.appendSegment]; repeat' split
  all_goals simp
@[simp] theorem State.appendSegment_controllers : (s.appendSegment e).controllers = s.controllers := by
  simp only [State.appendSegment]; repeat' split
  all_goals simp
@[simp] theorem State.appendSegment_counters : (s.appendSegment e).counters = s.counters := by
  simp only [State.appendSegment]; repeat' split
  all_goals simp
@[simp] theorem State.appendSegment_device : (s.appendSegment e).device = s.device := by
  simp only [State.appendSegment]; repeat' split
  all_goals simp
@[simp] theorem State.appendSegment_history : (s.appendSegment e).history = s.history := by
  simp only [State.appendSegment]; repeat' split
  all_goals simp
@[simp] theorem State.appendSegment_slots : (s.appendSegment e).slots = s.slots := by
  simp only [State.appendSegment]; repeat' split
  all_goals simp
@[simp] theorem State.appendSegment_tagCounter : (s.appendSegment e).tagCounter = s.tagCounter := by
  simp only [State.appendSegment]; repeat' split
  all_goals simp
@[simp] theorem State.appendSegment_round : (s.appendSegment e).round = s.round := by
  simp only [State.appendSegment]; repeat' split
  all_goals simp
@[simp] theorem State.appendSegment_watches : (s.appendSegment e).watches = s.watches := by
  simp only [State.appendSegment]; repeat' split
  all_goals simp
@[simp] theorem State.appendSegment_notices : (s.appendSegment e).notices = s.notices := by
  simp only [State.appendSegment]; repeat' split
  all_goals simp
@[simp] theorem State.appendSegment_dropped : (s.appendSegment e).dropped = s.dropped := by
  simp only [State.appendSegment]; repeat' split
  all_goals simp
@[simp] theorem State.appendSegment_destination : (s.appendSegment e).destination = s.destination := by
  simp only [State.appendSegment]; repeat' split
  all_goals simp
@[simp] theorem State.appendSegment_plant : (s.appendSegment e).plant = s.plant := by
  simp only [State.appendSegment]; repeat' split
  all_goals simp
@[simp] theorem State.appendSegment_line : (s.appendSegment e).line = s.line := by
  simp only [State.appendSegment]; repeat' split
  all_goals simp
@[simp] theorem State.appendSegment_stored : (s.appendSegment e).stored = s.stored := by
  simp only [State.appendSegment]; repeat' split
  all_goals simp
@[simp] theorem State.appendSegment_writing : (s.appendSegment e).writing = s.writing := by
  simp only [State.appendSegment]; repeat' split
  all_goals simp
@[simp] theorem State.appendSegment_restartPending : (s.appendSegment e).restartPending = s.restartPending := by
  simp only [State.appendSegment]; repeat' split
  all_goals simp
@[simp] theorem State.appendSegment_lineClosed : (s.appendSegment e).lineClosed = s.lineClosed := by
  simp only [State.appendSegment]; repeat' split
  all_goals simp
@[simp] theorem State.appendSegment_lineWaiting : (s.appendSegment e).lineWaiting = s.lineWaiting := by
  simp only [State.appendSegment]; repeat' split
  all_goals simp
@[simp] theorem State.appendSegment_pending : (s.appendSegment e).pending = s.pending := by
  simp only [State.appendSegment]; repeat' split
  all_goals simp
@[simp] theorem State.appendSegment_choices : (s.appendSegment e).choices = s.choices := by
  simp only [State.appendSegment]; repeat' split
  all_goals simp

end appendSegment

section giveNext
variable (s : State) (l : Fin 2)

@[simp] theorem State.giveNext_identity : (s.giveNext l).identity = s.identity := by
  simp only [State.giveNext]; repeat' split
  all_goals simp
@[simp] theorem State.giveNext_powered : (s.giveNext l).powered = s.powered := by
  simp only [State.giveNext]; repeat' split
  all_goals simp
@[simp] theorem State.giveNext_time : (s.giveNext l).time = s.time := by
  simp only [State.giveNext]; repeat' split
  all_goals simp
@[simp] theorem State.giveNext_timing : (s.giveNext l).timing = s.timing := by
  simp only [State.giveNext]; repeat' split
  all_goals simp
@[simp] theorem State.giveNext_fallback : (s.giveNext l).fallback = s.fallback := by
  simp only [State.giveNext]; repeat' split
  all_goals simp
@[simp] theorem State.giveNext_generation : (s.giveNext l).generation = s.generation := by
  simp only [State.giveNext]; repeat' split
  all_goals simp
@[simp] theorem State.giveNext_active : (s.giveNext l).active = s.active := by
  simp only [State.giveNext]; repeat' split
  all_goals simp
@[simp] theorem State.giveNext_shadow : (s.giveNext l).shadow = s.shadow := by
  simp only [State.giveNext]; repeat' split
  all_goals simp
@[simp] theorem State.giveNext_controllers : (s.giveNext l).controllers = s.controllers := by
  simp only [State.giveNext]; repeat' split
  all_goals simp
@[simp] theorem State.giveNext_counters : (s.giveNext l).counters = s.counters := by
  simp only [State.giveNext]; repeat' split
  all_goals simp
@[simp] theorem State.giveNext_device : (s.giveNext l).device = s.device := by
  simp only [State.giveNext]; repeat' split
  all_goals simp
@[simp] theorem State.giveNext_history : (s.giveNext l).history = s.history := by
  simp only [State.giveNext]; repeat' split
  all_goals simp
@[simp] theorem State.giveNext_slots : (s.giveNext l).slots = s.slots := by
  simp only [State.giveNext]; repeat' split
  all_goals simp
@[simp] theorem State.giveNext_tagCounter : (s.giveNext l).tagCounter = s.tagCounter := by
  simp only [State.giveNext]; repeat' split
  all_goals simp
@[simp] theorem State.giveNext_round : (s.giveNext l).round = s.round := by
  simp only [State.giveNext]; repeat' split
  all_goals simp
@[simp] theorem State.giveNext_watches : (s.giveNext l).watches = s.watches := by
  simp only [State.giveNext]; repeat' split
  all_goals simp
@[simp] theorem State.giveNext_notices : (s.giveNext l).notices = s.notices := by
  simp only [State.giveNext]; repeat' split
  all_goals simp
@[simp] theorem State.giveNext_dropped : (s.giveNext l).dropped = s.dropped := by
  simp only [State.giveNext]; repeat' split
  all_goals simp
@[simp] theorem State.giveNext_destination : (s.giveNext l).destination = s.destination := by
  simp only [State.giveNext]; repeat' split
  all_goals simp
@[simp] theorem State.giveNext_plant : (s.giveNext l).plant = s.plant := by
  simp only [State.giveNext]; repeat' split
  all_goals simp
@[simp] theorem State.giveNext_line : (s.giveNext l).line = s.line := by
  simp only [State.giveNext]; repeat' split
  all_goals simp
@[simp] theorem State.giveNext_stored : (s.giveNext l).stored = s.stored := by
  simp only [State.giveNext]; repeat' split
  all_goals simp
@[simp] theorem State.giveNext_writing : (s.giveNext l).writing = s.writing := by
  simp only [State.giveNext]; repeat' split
  all_goals simp
@[simp] theorem State.giveNext_restartPending : (s.giveNext l).restartPending = s.restartPending := by
  simp only [State.giveNext]; repeat' split
  all_goals simp
@[simp] theorem State.giveNext_lineClosed : (s.giveNext l).lineClosed = s.lineClosed := by
  simp only [State.giveNext]; repeat' split
  all_goals simp
@[simp] theorem State.giveNext_lineWaiting : (s.giveNext l).lineWaiting = s.lineWaiting := by
  simp only [State.giveNext]; repeat' split
  all_goals simp
@[simp] theorem State.giveNext_pending : (s.giveNext l).pending = s.pending := by
  simp only [State.giveNext]; repeat' split
  all_goals simp
@[simp] theorem State.giveNext_choices : (s.giveNext l).choices = s.choices := by
  simp only [State.giveNext]; repeat' split
  all_goals simp

end giveNext

section endSlot
variable (s : State) (k : Fin 8)

@[simp] theorem State.endSlot_identity : (s.endSlot k).identity = s.identity := by
  simp only [State.endSlot]; repeat' split
  all_goals simp
@[simp] theorem State.endSlot_powered : (s.endSlot k).powered = s.powered := by
  simp only [State.endSlot]; repeat' split
  all_goals simp
@[simp] theorem State.endSlot_time : (s.endSlot k).time = s.time := by
  simp only [State.endSlot]; repeat' split
  all_goals simp
@[simp] theorem State.endSlot_timing : (s.endSlot k).timing = s.timing := by
  simp only [State.endSlot]; repeat' split
  all_goals simp
@[simp] theorem State.endSlot_fallback : (s.endSlot k).fallback = s.fallback := by
  simp only [State.endSlot]; repeat' split
  all_goals simp
@[simp] theorem State.endSlot_generation : (s.endSlot k).generation = s.generation := by
  simp only [State.endSlot]; repeat' split
  all_goals simp
@[simp] theorem State.endSlot_active : (s.endSlot k).active = s.active := by
  simp only [State.endSlot]; repeat' split
  all_goals simp
@[simp] theorem State.endSlot_shadow : (s.endSlot k).shadow = s.shadow := by
  simp only [State.endSlot]; repeat' split
  all_goals simp
@[simp] theorem State.endSlot_controllers : (s.endSlot k).controllers = s.controllers := by
  simp only [State.endSlot]; repeat' split
  all_goals simp
@[simp] theorem State.endSlot_counters : (s.endSlot k).counters = s.counters := by
  simp only [State.endSlot]; repeat' split
  all_goals simp
@[simp] theorem State.endSlot_device : (s.endSlot k).device = s.device := by
  simp only [State.endSlot]; repeat' split
  all_goals simp
@[simp] theorem State.endSlot_history : (s.endSlot k).history = s.history := by
  simp only [State.endSlot]; repeat' split
  all_goals simp
@[simp] theorem State.endSlot_lanes : (s.endSlot k).lanes = s.lanes := by
  simp only [State.endSlot]; repeat' split
  all_goals simp
@[simp] theorem State.endSlot_tagCounter : (s.endSlot k).tagCounter = s.tagCounter := by
  simp only [State.endSlot]; repeat' split
  all_goals simp
@[simp] theorem State.endSlot_round : (s.endSlot k).round = s.round := by
  simp only [State.endSlot]; repeat' split
  all_goals simp
@[simp] theorem State.endSlot_watches : (s.endSlot k).watches = s.watches := by
  simp only [State.endSlot]; repeat' split
  all_goals simp
@[simp] theorem State.endSlot_notices : (s.endSlot k).notices = s.notices := by
  simp only [State.endSlot]; repeat' split
  all_goals simp
@[simp] theorem State.endSlot_dropped : (s.endSlot k).dropped = s.dropped := by
  simp only [State.endSlot]; repeat' split
  all_goals simp
@[simp] theorem State.endSlot_destination : (s.endSlot k).destination = s.destination := by
  simp only [State.endSlot]; repeat' split
  all_goals simp
@[simp] theorem State.endSlot_plant : (s.endSlot k).plant = s.plant := by
  simp only [State.endSlot]; repeat' split
  all_goals simp
@[simp] theorem State.endSlot_line : (s.endSlot k).line = s.line := by
  simp only [State.endSlot]; repeat' split
  all_goals simp
@[simp] theorem State.endSlot_stored : (s.endSlot k).stored = s.stored := by
  simp only [State.endSlot]; repeat' split
  all_goals simp
@[simp] theorem State.endSlot_writing : (s.endSlot k).writing = s.writing := by
  simp only [State.endSlot]; repeat' split
  all_goals simp
@[simp] theorem State.endSlot_restartPending : (s.endSlot k).restartPending = s.restartPending := by
  simp only [State.endSlot]; repeat' split
  all_goals simp
@[simp] theorem State.endSlot_lineClosed : (s.endSlot k).lineClosed = s.lineClosed := by
  simp only [State.endSlot]; repeat' split
  all_goals simp
@[simp] theorem State.endSlot_lineWaiting : (s.endSlot k).lineWaiting = s.lineWaiting := by
  simp only [State.endSlot]; repeat' split
  all_goals simp
@[simp] theorem State.endSlot_pending : (s.endSlot k).pending = s.pending := by
  simp only [State.endSlot]; repeat' split
  all_goals simp
@[simp] theorem State.endSlot_choices : (s.endSlot k).choices = s.choices := by
  simp only [State.endSlot]; repeat' split
  all_goals simp

end endSlot

section abort
variable (s : State) (k : Fin 8) (w : Bool) (r : Option Reason) (v : Option Quad)

@[simp] theorem State.abort_identity : (s.abort k w r v).identity = s.identity := by
  simp only [State.abort]; repeat' split
  all_goals simp
@[simp] theorem State.abort_powered : (s.abort k w r v).powered = s.powered := by
  simp only [State.abort]; repeat' split
  all_goals simp
@[simp] theorem State.abort_time : (s.abort k w r v).time = s.time := by
  simp only [State.abort]; repeat' split
  all_goals simp
@[simp] theorem State.abort_timing : (s.abort k w r v).timing = s.timing := by
  simp only [State.abort]; repeat' split
  all_goals simp
@[simp] theorem State.abort_fallback : (s.abort k w r v).fallback = s.fallback := by
  simp only [State.abort]; repeat' split
  all_goals simp
@[simp] theorem State.abort_generation : (s.abort k w r v).generation = s.generation := by
  simp only [State.abort]; repeat' split
  all_goals simp
@[simp] theorem State.abort_active : (s.abort k w r v).active = s.active := by
  simp only [State.abort]; repeat' split
  all_goals simp
@[simp] theorem State.abort_shadow : (s.abort k w r v).shadow = s.shadow := by
  simp only [State.abort]; repeat' split
  all_goals simp
@[simp] theorem State.abort_controllers : (s.abort k w r v).controllers = s.controllers := by
  simp only [State.abort]; repeat' split
  all_goals simp
@[simp] theorem State.abort_counters : (s.abort k w r v).counters = s.counters := by
  simp only [State.abort]; repeat' split
  all_goals simp
@[simp] theorem State.abort_history : (s.abort k w r v).history = s.history := by
  simp only [State.abort]; repeat' split
  all_goals simp
@[simp] theorem State.abort_lanes : (s.abort k w r v).lanes = s.lanes := by
  simp only [State.abort]; repeat' split
  all_goals simp
@[simp] theorem State.abort_tagCounter : (s.abort k w r v).tagCounter = s.tagCounter := by
  simp only [State.abort]; repeat' split
  all_goals simp
@[simp] theorem State.abort_round : (s.abort k w r v).round = s.round := by
  simp only [State.abort]; repeat' split
  all_goals simp
@[simp] theorem State.abort_watches : (s.abort k w r v).watches = s.watches := by
  simp only [State.abort]; repeat' split
  all_goals simp
@[simp] theorem State.abort_destination : (s.abort k w r v).destination = s.destination := by
  simp only [State.abort]; repeat' split
  all_goals simp
@[simp] theorem State.abort_stored : (s.abort k w r v).stored = s.stored := by
  simp only [State.abort]; repeat' split
  all_goals simp
@[simp] theorem State.abort_writing : (s.abort k w r v).writing = s.writing := by
  simp only [State.abort]; repeat' split
  all_goals simp
@[simp] theorem State.abort_restartPending : (s.abort k w r v).restartPending = s.restartPending := by
  simp only [State.abort]; repeat' split
  all_goals simp
@[simp] theorem State.abort_lineClosed : (s.abort k w r v).lineClosed = s.lineClosed := by
  simp only [State.abort]; repeat' split
  all_goals simp
@[simp] theorem State.abort_lineWaiting : (s.abort k w r v).lineWaiting = s.lineWaiting := by
  simp only [State.abort]; repeat' split
  all_goals simp
@[simp] theorem State.abort_pending : (s.abort k w r v).pending = s.pending := by
  simp only [State.abort]; repeat' split
  all_goals simp
@[simp] theorem State.abort_choices : (s.abort k w r v).choices = s.choices := by
  simp only [State.abort]; repeat' split
  all_goals simp

end abort

section abortOwned
variable (s : State) (w : Window) (r : Reason)

@[simp] theorem State.abortOwned_identity : (s.abortOwned w r).identity = s.identity := by
  simp only [State.abortOwned]; repeat' split
  all_goals simp
@[simp] theorem State.abortOwned_powered : (s.abortOwned w r).powered = s.powered := by
  simp only [State.abortOwned]; repeat' split
  all_goals simp
@[simp] theorem State.abortOwned_time : (s.abortOwned w r).time = s.time := by
  simp only [State.abortOwned]; repeat' split
  all_goals simp
@[simp] theorem State.abortOwned_timing : (s.abortOwned w r).timing = s.timing := by
  simp only [State.abortOwned]; repeat' split
  all_goals simp
@[simp] theorem State.abortOwned_fallback : (s.abortOwned w r).fallback = s.fallback := by
  simp only [State.abortOwned]; repeat' split
  all_goals simp
@[simp] theorem State.abortOwned_generation : (s.abortOwned w r).generation = s.generation := by
  simp only [State.abortOwned]; repeat' split
  all_goals simp
@[simp] theorem State.abortOwned_active : (s.abortOwned w r).active = s.active := by
  simp only [State.abortOwned]; repeat' split
  all_goals simp
@[simp] theorem State.abortOwned_shadow : (s.abortOwned w r).shadow = s.shadow := by
  simp only [State.abortOwned]; repeat' split
  all_goals simp
@[simp] theorem State.abortOwned_controllers : (s.abortOwned w r).controllers = s.controllers := by
  simp only [State.abortOwned]; repeat' split
  all_goals simp
@[simp] theorem State.abortOwned_counters : (s.abortOwned w r).counters = s.counters := by
  simp only [State.abortOwned]; repeat' split
  all_goals simp
@[simp] theorem State.abortOwned_history : (s.abortOwned w r).history = s.history := by
  simp only [State.abortOwned]; repeat' split
  all_goals simp
@[simp] theorem State.abortOwned_lanes : (s.abortOwned w r).lanes = s.lanes := by
  simp only [State.abortOwned]; repeat' split
  all_goals simp
@[simp] theorem State.abortOwned_tagCounter : (s.abortOwned w r).tagCounter = s.tagCounter := by
  simp only [State.abortOwned]; repeat' split
  all_goals simp
@[simp] theorem State.abortOwned_round : (s.abortOwned w r).round = s.round := by
  simp only [State.abortOwned]; repeat' split
  all_goals simp
@[simp] theorem State.abortOwned_watches : (s.abortOwned w r).watches = s.watches := by
  simp only [State.abortOwned]; repeat' split
  all_goals simp
@[simp] theorem State.abortOwned_destination : (s.abortOwned w r).destination = s.destination := by
  simp only [State.abortOwned]; repeat' split
  all_goals simp
@[simp] theorem State.abortOwned_stored : (s.abortOwned w r).stored = s.stored := by
  simp only [State.abortOwned]; repeat' split
  all_goals simp
@[simp] theorem State.abortOwned_writing : (s.abortOwned w r).writing = s.writing := by
  simp only [State.abortOwned]; repeat' split
  all_goals simp
@[simp] theorem State.abortOwned_restartPending : (s.abortOwned w r).restartPending = s.restartPending := by
  simp only [State.abortOwned]; repeat' split
  all_goals simp
@[simp] theorem State.abortOwned_lineClosed : (s.abortOwned w r).lineClosed = s.lineClosed := by
  simp only [State.abortOwned]; repeat' split
  all_goals simp
@[simp] theorem State.abortOwned_lineWaiting : (s.abortOwned w r).lineWaiting = s.lineWaiting := by
  simp only [State.abortOwned]; repeat' split
  all_goals simp
@[simp] theorem State.abortOwned_pending : (s.abortOwned w r).pending = s.pending := by
  simp only [State.abortOwned]; repeat' split
  all_goals simp
@[simp] theorem State.abortOwned_choices : (s.abortOwned w r).choices = s.choices := by
  simp only [State.abortOwned]; repeat' split
  all_goals simp

end abortOwned

section closeNow
variable (s : State) (n : Fin 32) (w : Window) (c : WindowCause)

@[simp] theorem State.closeNow_identity : (s.closeNow n w c).identity = s.identity := by
  simp only [State.closeNow]
  simp
@[simp] theorem State.closeNow_powered : (s.closeNow n w c).powered = s.powered := by
  simp only [State.closeNow]
  simp
@[simp] theorem State.closeNow_time : (s.closeNow n w c).time = s.time := by
  simp only [State.closeNow]
  simp
@[simp] theorem State.closeNow_timing : (s.closeNow n w c).timing = s.timing := by
  simp only [State.closeNow]
  simp
@[simp] theorem State.closeNow_fallback : (s.closeNow n w c).fallback = s.fallback := by
  simp only [State.closeNow]
  simp
@[simp] theorem State.closeNow_generation : (s.closeNow n w c).generation = s.generation := by
  simp only [State.closeNow]
  simp
@[simp] theorem State.closeNow_active : (s.closeNow n w c).active = s.active := by
  simp only [State.closeNow]
  simp
@[simp] theorem State.closeNow_shadow : (s.closeNow n w c).shadow = s.shadow := by
  simp only [State.closeNow]
  simp
@[simp] theorem State.closeNow_counters : (s.closeNow n w c).counters = s.counters := by
  simp only [State.closeNow]
  simp
@[simp] theorem State.closeNow_history : (s.closeNow n w c).history = s.history := by
  simp only [State.closeNow]
  simp
@[simp] theorem State.closeNow_lanes : (s.closeNow n w c).lanes = s.lanes := by
  simp only [State.closeNow]
  simp
@[simp] theorem State.closeNow_tagCounter : (s.closeNow n w c).tagCounter = s.tagCounter := by
  simp only [State.closeNow]
  simp
@[simp] theorem State.closeNow_round : (s.closeNow n w c).round = s.round := by
  simp only [State.closeNow]
  simp
@[simp] theorem State.closeNow_watches : (s.closeNow n w c).watches = s.watches := by
  simp only [State.closeNow]
  simp
@[simp] theorem State.closeNow_destination : (s.closeNow n w c).destination = s.destination := by
  simp only [State.closeNow]
  simp
@[simp] theorem State.closeNow_stored : (s.closeNow n w c).stored = s.stored := by
  simp only [State.closeNow]
  simp
@[simp] theorem State.closeNow_writing : (s.closeNow n w c).writing = s.writing := by
  simp only [State.closeNow]
  simp
@[simp] theorem State.closeNow_restartPending : (s.closeNow n w c).restartPending = s.restartPending := by
  simp only [State.closeNow]
  simp
@[simp] theorem State.closeNow_lineClosed : (s.closeNow n w c).lineClosed = s.lineClosed := by
  simp only [State.closeNow]
  simp
@[simp] theorem State.closeNow_lineWaiting : (s.closeNow n w c).lineWaiting = s.lineWaiting := by
  simp only [State.closeNow]
  simp
@[simp] theorem State.closeNow_pending : (s.closeNow n w c).pending = s.pending := by
  simp only [State.closeNow]
  simp
@[simp] theorem State.closeNow_choices : (s.closeNow n w c).choices = s.choices := by
  simp only [State.closeNow]
  simp

end closeNow

section acceptOpening
variable (s : State) (n : Fin 32) (m : WindowMode) (a : Nat)

@[simp] theorem State.acceptOpening_identity : (s.acceptOpening n m a).identity = s.identity := by
  simp only [State.acceptOpening]
  simp
@[simp] theorem State.acceptOpening_powered : (s.acceptOpening n m a).powered = s.powered := by
  simp only [State.acceptOpening]
  simp
@[simp] theorem State.acceptOpening_time : (s.acceptOpening n m a).time = s.time := by
  simp only [State.acceptOpening]
  simp
@[simp] theorem State.acceptOpening_timing : (s.acceptOpening n m a).timing = s.timing := by
  simp only [State.acceptOpening]
  simp
@[simp] theorem State.acceptOpening_fallback : (s.acceptOpening n m a).fallback = s.fallback := by
  simp only [State.acceptOpening]
  simp
@[simp] theorem State.acceptOpening_generation : (s.acceptOpening n m a).generation = s.generation := by
  simp only [State.acceptOpening]
  simp
@[simp] theorem State.acceptOpening_active : (s.acceptOpening n m a).active = s.active := by
  simp only [State.acceptOpening]
  simp
@[simp] theorem State.acceptOpening_shadow : (s.acceptOpening n m a).shadow = s.shadow := by
  simp only [State.acceptOpening]
  simp
@[simp] theorem State.acceptOpening_counters : (s.acceptOpening n m a).counters = s.counters := by
  simp only [State.acceptOpening]
  simp
@[simp] theorem State.acceptOpening_device : (s.acceptOpening n m a).device = s.device := by
  simp only [State.acceptOpening]
  simp
@[simp] theorem State.acceptOpening_slots : (s.acceptOpening n m a).slots = s.slots := by
  simp only [State.acceptOpening]
  simp
@[simp] theorem State.acceptOpening_waiting : (s.acceptOpening n m a).waiting = s.waiting := by
  simp only [State.acceptOpening]
  simp
@[simp] theorem State.acceptOpening_lanes : (s.acceptOpening n m a).lanes = s.lanes := by
  simp only [State.acceptOpening]
  simp
@[simp] theorem State.acceptOpening_tagCounter : (s.acceptOpening n m a).tagCounter = s.tagCounter := by
  simp only [State.acceptOpening]
  simp
@[simp] theorem State.acceptOpening_round : (s.acceptOpening n m a).round = s.round := by
  simp only [State.acceptOpening]
  simp
@[simp] theorem State.acceptOpening_watches : (s.acceptOpening n m a).watches = s.watches := by
  simp only [State.acceptOpening]
  simp
@[simp] theorem State.acceptOpening_notices : (s.acceptOpening n m a).notices = s.notices := by
  simp only [State.acceptOpening]
  simp
@[simp] theorem State.acceptOpening_dropped : (s.acceptOpening n m a).dropped = s.dropped := by
  simp only [State.acceptOpening]
  simp
@[simp] theorem State.acceptOpening_destination : (s.acceptOpening n m a).destination = s.destination := by
  simp only [State.acceptOpening]
  simp
@[simp] theorem State.acceptOpening_plant : (s.acceptOpening n m a).plant = s.plant := by
  simp only [State.acceptOpening]
  simp
@[simp] theorem State.acceptOpening_line : (s.acceptOpening n m a).line = s.line := by
  simp only [State.acceptOpening]
  simp
@[simp] theorem State.acceptOpening_stored : (s.acceptOpening n m a).stored = s.stored := by
  simp only [State.acceptOpening]
  simp
@[simp] theorem State.acceptOpening_writing : (s.acceptOpening n m a).writing = s.writing := by
  simp only [State.acceptOpening]
  simp
@[simp] theorem State.acceptOpening_restartPending : (s.acceptOpening n m a).restartPending = s.restartPending := by
  simp only [State.acceptOpening]
  simp
@[simp] theorem State.acceptOpening_lineClosed : (s.acceptOpening n m a).lineClosed = s.lineClosed := by
  simp only [State.acceptOpening]
  simp
@[simp] theorem State.acceptOpening_lineWaiting : (s.acceptOpening n m a).lineWaiting = s.lineWaiting := by
  simp only [State.acceptOpening]
  simp
@[simp] theorem State.acceptOpening_pending : (s.acceptOpening n m a).pending = s.pending := by
  simp only [State.acceptOpening]
  simp
@[simp] theorem State.acceptOpening_choices : (s.acceptOpening n m a).choices = s.choices := by
  simp only [State.acceptOpening]
  simp

end acceptOpening

section settle
variable (s : State) (n : Fin 32) (m : WindowMode) (l : Nat)

@[simp] theorem State.settle_identity : (s.settle n m l).identity = s.identity := by
  simp only [State.settle]
  simp
@[simp] theorem State.settle_powered : (s.settle n m l).powered = s.powered := by
  simp only [State.settle]
  simp
@[simp] theorem State.settle_time : (s.settle n m l).time = s.time := by
  simp only [State.settle]
  simp
@[simp] theorem State.settle_timing : (s.settle n m l).timing = s.timing := by
  simp only [State.settle]
  simp
@[simp] theorem State.settle_fallback : (s.settle n m l).fallback = s.fallback := by
  simp only [State.settle]
  simp
@[simp] theorem State.settle_generation : (s.settle n m l).generation = s.generation := by
  simp only [State.settle]
  simp
@[simp] theorem State.settle_active : (s.settle n m l).active = s.active := by
  simp only [State.settle]
  simp
@[simp] theorem State.settle_shadow : (s.settle n m l).shadow = s.shadow := by
  simp only [State.settle]
  simp
@[simp] theorem State.settle_counters : (s.settle n m l).counters = s.counters := by
  simp only [State.settle]
  simp
@[simp] theorem State.settle_device : (s.settle n m l).device = s.device := by
  simp only [State.settle]
  simp
@[simp] theorem State.settle_history : (s.settle n m l).history = s.history := by
  simp only [State.settle]
  simp
@[simp] theorem State.settle_slots : (s.settle n m l).slots = s.slots := by
  simp only [State.settle]
  simp
@[simp] theorem State.settle_waiting : (s.settle n m l).waiting = s.waiting := by
  simp only [State.settle]
  simp
@[simp] theorem State.settle_lanes : (s.settle n m l).lanes = s.lanes := by
  simp only [State.settle]
  simp
@[simp] theorem State.settle_tagCounter : (s.settle n m l).tagCounter = s.tagCounter := by
  simp only [State.settle]
  simp
@[simp] theorem State.settle_round : (s.settle n m l).round = s.round := by
  simp only [State.settle]
  simp
@[simp] theorem State.settle_watches : (s.settle n m l).watches = s.watches := by
  simp only [State.settle]
  simp
@[simp] theorem State.settle_destination : (s.settle n m l).destination = s.destination := by
  simp only [State.settle]
  simp
@[simp] theorem State.settle_line : (s.settle n m l).line = s.line := by
  simp only [State.settle]
  simp
@[simp] theorem State.settle_stored : (s.settle n m l).stored = s.stored := by
  simp only [State.settle]
  simp
@[simp] theorem State.settle_writing : (s.settle n m l).writing = s.writing := by
  simp only [State.settle]
  simp
@[simp] theorem State.settle_restartPending : (s.settle n m l).restartPending = s.restartPending := by
  simp only [State.settle]
  simp
@[simp] theorem State.settle_lineClosed : (s.settle n m l).lineClosed = s.lineClosed := by
  simp only [State.settle]
  simp
@[simp] theorem State.settle_lineWaiting : (s.settle n m l).lineWaiting = s.lineWaiting := by
  simp only [State.settle]
  simp
@[simp] theorem State.settle_pending : (s.settle n m l).pending = s.pending := by
  simp only [State.settle]
  simp
@[simp] theorem State.settle_choices : (s.settle n m l).choices = s.choices := by
  simp only [State.settle]
  simp

end settle

section observeQuiet
variable (s : State) (n : Fin 32) (m : WindowMode) (l : Nat)

@[simp] theorem State.observeQuiet_identity : (s.observeQuiet n m l).identity = s.identity := by
  simp only [State.observeQuiet]; repeat' split
  all_goals simp
@[simp] theorem State.observeQuiet_powered : (s.observeQuiet n m l).powered = s.powered := by
  simp only [State.observeQuiet]; repeat' split
  all_goals simp
@[simp] theorem State.observeQuiet_time : (s.observeQuiet n m l).time = s.time := by
  simp only [State.observeQuiet]; repeat' split
  all_goals simp
@[simp] theorem State.observeQuiet_timing : (s.observeQuiet n m l).timing = s.timing := by
  simp only [State.observeQuiet]; repeat' split
  all_goals simp
@[simp] theorem State.observeQuiet_fallback : (s.observeQuiet n m l).fallback = s.fallback := by
  simp only [State.observeQuiet]; repeat' split
  all_goals simp
@[simp] theorem State.observeQuiet_generation : (s.observeQuiet n m l).generation = s.generation := by
  simp only [State.observeQuiet]; repeat' split
  all_goals simp
@[simp] theorem State.observeQuiet_active : (s.observeQuiet n m l).active = s.active := by
  simp only [State.observeQuiet]; repeat' split
  all_goals simp
@[simp] theorem State.observeQuiet_shadow : (s.observeQuiet n m l).shadow = s.shadow := by
  simp only [State.observeQuiet]; repeat' split
  all_goals simp
@[simp] theorem State.observeQuiet_counters : (s.observeQuiet n m l).counters = s.counters := by
  simp only [State.observeQuiet]; repeat' split
  all_goals simp
@[simp] theorem State.observeQuiet_device : (s.observeQuiet n m l).device = s.device := by
  simp only [State.observeQuiet]; repeat' split
  all_goals simp
@[simp] theorem State.observeQuiet_history : (s.observeQuiet n m l).history = s.history := by
  simp only [State.observeQuiet]; repeat' split
  all_goals simp
@[simp] theorem State.observeQuiet_slots : (s.observeQuiet n m l).slots = s.slots := by
  simp only [State.observeQuiet]; repeat' split
  all_goals simp
@[simp] theorem State.observeQuiet_waiting : (s.observeQuiet n m l).waiting = s.waiting := by
  simp only [State.observeQuiet]; repeat' split
  all_goals simp
@[simp] theorem State.observeQuiet_lanes : (s.observeQuiet n m l).lanes = s.lanes := by
  simp only [State.observeQuiet]; repeat' split
  all_goals simp
@[simp] theorem State.observeQuiet_tagCounter : (s.observeQuiet n m l).tagCounter = s.tagCounter := by
  simp only [State.observeQuiet]; repeat' split
  all_goals simp
@[simp] theorem State.observeQuiet_round : (s.observeQuiet n m l).round = s.round := by
  simp only [State.observeQuiet]; repeat' split
  all_goals simp
@[simp] theorem State.observeQuiet_watches : (s.observeQuiet n m l).watches = s.watches := by
  simp only [State.observeQuiet]; repeat' split
  all_goals simp
@[simp] theorem State.observeQuiet_destination : (s.observeQuiet n m l).destination = s.destination := by
  simp only [State.observeQuiet]; repeat' split
  all_goals simp
@[simp] theorem State.observeQuiet_line : (s.observeQuiet n m l).line = s.line := by
  simp only [State.observeQuiet]; repeat' split
  all_goals simp
@[simp] theorem State.observeQuiet_stored : (s.observeQuiet n m l).stored = s.stored := by
  simp only [State.observeQuiet]; repeat' split
  all_goals simp
@[simp] theorem State.observeQuiet_writing : (s.observeQuiet n m l).writing = s.writing := by
  simp only [State.observeQuiet]; repeat' split
  all_goals simp
@[simp] theorem State.observeQuiet_restartPending : (s.observeQuiet n m l).restartPending = s.restartPending := by
  simp only [State.observeQuiet]; repeat' split
  all_goals simp
@[simp] theorem State.observeQuiet_lineClosed : (s.observeQuiet n m l).lineClosed = s.lineClosed := by
  simp only [State.observeQuiet]; repeat' split
  all_goals simp
@[simp] theorem State.observeQuiet_lineWaiting : (s.observeQuiet n m l).lineWaiting = s.lineWaiting := by
  simp only [State.observeQuiet]; repeat' split
  all_goals simp
@[simp] theorem State.observeQuiet_pending : (s.observeQuiet n m l).pending = s.pending := by
  simp only [State.observeQuiet]; repeat' split
  all_goals simp
@[simp] theorem State.observeQuiet_choices : (s.observeQuiet n m l).choices = s.choices := by
  simp only [State.observeQuiet]; repeat' split
  all_goals simp

end observeQuiet

section runAfterCommit
variable (s : State) (n : Fin 32) (m : WindowMode) (d : Option Nat) (k : Fin 8) (c : Option CloseCause)

@[simp] theorem State.runAfterCommit_identity : (s.runAfterCommit n m d k c).identity = s.identity := by
  simp only [State.runAfterCommit]; repeat' split
  all_goals simp
@[simp] theorem State.runAfterCommit_powered : (s.runAfterCommit n m d k c).powered = s.powered := by
  simp only [State.runAfterCommit]; repeat' split
  all_goals simp
@[simp] theorem State.runAfterCommit_time : (s.runAfterCommit n m d k c).time = s.time := by
  simp only [State.runAfterCommit]; repeat' split
  all_goals simp
@[simp] theorem State.runAfterCommit_timing : (s.runAfterCommit n m d k c).timing = s.timing := by
  simp only [State.runAfterCommit]; repeat' split
  all_goals simp
@[simp] theorem State.runAfterCommit_fallback : (s.runAfterCommit n m d k c).fallback = s.fallback := by
  simp only [State.runAfterCommit]; repeat' split
  all_goals simp
@[simp] theorem State.runAfterCommit_generation : (s.runAfterCommit n m d k c).generation = s.generation := by
  simp only [State.runAfterCommit]; repeat' split
  all_goals simp
@[simp] theorem State.runAfterCommit_active : (s.runAfterCommit n m d k c).active = s.active := by
  simp only [State.runAfterCommit]; repeat' split
  all_goals simp
@[simp] theorem State.runAfterCommit_shadow : (s.runAfterCommit n m d k c).shadow = s.shadow := by
  simp only [State.runAfterCommit]; repeat' split
  all_goals simp
@[simp] theorem State.runAfterCommit_counters : (s.runAfterCommit n m d k c).counters = s.counters := by
  simp only [State.runAfterCommit]; repeat' split
  all_goals simp
@[simp] theorem State.runAfterCommit_device : (s.runAfterCommit n m d k c).device = s.device := by
  simp only [State.runAfterCommit]; repeat' split
  all_goals simp
@[simp] theorem State.runAfterCommit_history : (s.runAfterCommit n m d k c).history = s.history := by
  simp only [State.runAfterCommit]; repeat' split
  all_goals simp
@[simp] theorem State.runAfterCommit_slots : (s.runAfterCommit n m d k c).slots = s.slots := by
  simp only [State.runAfterCommit]; repeat' split
  all_goals simp
@[simp] theorem State.runAfterCommit_waiting : (s.runAfterCommit n m d k c).waiting = s.waiting := by
  simp only [State.runAfterCommit]; repeat' split
  all_goals simp
@[simp] theorem State.runAfterCommit_lanes : (s.runAfterCommit n m d k c).lanes = s.lanes := by
  simp only [State.runAfterCommit]; repeat' split
  all_goals simp
@[simp] theorem State.runAfterCommit_tagCounter : (s.runAfterCommit n m d k c).tagCounter = s.tagCounter := by
  simp only [State.runAfterCommit]; repeat' split
  all_goals simp
@[simp] theorem State.runAfterCommit_round : (s.runAfterCommit n m d k c).round = s.round := by
  simp only [State.runAfterCommit]; repeat' split
  all_goals simp
@[simp] theorem State.runAfterCommit_watches : (s.runAfterCommit n m d k c).watches = s.watches := by
  simp only [State.runAfterCommit]; repeat' split
  all_goals simp
@[simp] theorem State.runAfterCommit_destination : (s.runAfterCommit n m d k c).destination = s.destination := by
  simp only [State.runAfterCommit]; repeat' split
  all_goals simp
@[simp] theorem State.runAfterCommit_line : (s.runAfterCommit n m d k c).line = s.line := by
  simp only [State.runAfterCommit]; repeat' split
  all_goals simp
@[simp] theorem State.runAfterCommit_stored : (s.runAfterCommit n m d k c).stored = s.stored := by
  simp only [State.runAfterCommit]; repeat' split
  all_goals simp
@[simp] theorem State.runAfterCommit_writing : (s.runAfterCommit n m d k c).writing = s.writing := by
  simp only [State.runAfterCommit]; repeat' split
  all_goals simp
@[simp] theorem State.runAfterCommit_restartPending : (s.runAfterCommit n m d k c).restartPending = s.restartPending := by
  simp only [State.runAfterCommit]; repeat' split
  all_goals simp
@[simp] theorem State.runAfterCommit_lineClosed : (s.runAfterCommit n m d k c).lineClosed = s.lineClosed := by
  simp only [State.runAfterCommit]; repeat' split
  all_goals simp
@[simp] theorem State.runAfterCommit_lineWaiting : (s.runAfterCommit n m d k c).lineWaiting = s.lineWaiting := by
  simp only [State.runAfterCommit]; repeat' split
  all_goals simp
@[simp] theorem State.runAfterCommit_pending : (s.runAfterCommit n m d k c).pending = s.pending := by
  simp only [State.runAfterCommit]; repeat' split
  all_goals simp
@[simp] theorem State.runAfterCommit_choices : (s.runAfterCommit n m d k c).choices = s.choices := by
  simp only [State.runAfterCommit]; repeat' split
  all_goals simp

end runAfterCommit

section observe
variable (s : State) (n : Fin 32) (o : Observation)

@[simp] theorem State.observe_identity : (s.observe n o).identity = s.identity := by
  simp only [State.observe]; repeat' split
  all_goals simp
@[simp] theorem State.observe_powered : (s.observe n o).powered = s.powered := by
  simp only [State.observe]; repeat' split
  all_goals simp
@[simp] theorem State.observe_time : (s.observe n o).time = s.time := by
  simp only [State.observe]; repeat' split
  all_goals simp
@[simp] theorem State.observe_timing : (s.observe n o).timing = s.timing := by
  simp only [State.observe]; repeat' split
  all_goals simp
@[simp] theorem State.observe_fallback : (s.observe n o).fallback = s.fallback := by
  simp only [State.observe]; repeat' split
  all_goals simp
@[simp] theorem State.observe_generation : (s.observe n o).generation = s.generation := by
  simp only [State.observe]; repeat' split
  all_goals simp
@[simp] theorem State.observe_active : (s.observe n o).active = s.active := by
  simp only [State.observe]; repeat' split
  all_goals simp
@[simp] theorem State.observe_shadow : (s.observe n o).shadow = s.shadow := by
  simp only [State.observe]; repeat' split
  all_goals simp
@[simp] theorem State.observe_counters : (s.observe n o).counters = s.counters := by
  simp only [State.observe]; repeat' split
  all_goals simp
@[simp] theorem State.observe_history : (s.observe n o).history = s.history := by
  simp only [State.observe]; repeat' split
  all_goals simp
@[simp] theorem State.observe_lanes : (s.observe n o).lanes = s.lanes := by
  simp only [State.observe]; repeat' split
  all_goals simp
@[simp] theorem State.observe_tagCounter : (s.observe n o).tagCounter = s.tagCounter := by
  simp only [State.observe]; repeat' split
  all_goals simp
@[simp] theorem State.observe_round : (s.observe n o).round = s.round := by
  simp only [State.observe]; repeat' split
  all_goals simp
@[simp] theorem State.observe_watches : (s.observe n o).watches = s.watches := by
  simp only [State.observe]; repeat' split
  all_goals simp
@[simp] theorem State.observe_destination : (s.observe n o).destination = s.destination := by
  simp only [State.observe]; repeat' split
  all_goals simp
@[simp] theorem State.observe_stored : (s.observe n o).stored = s.stored := by
  simp only [State.observe]; repeat' split
  all_goals simp
@[simp] theorem State.observe_writing : (s.observe n o).writing = s.writing := by
  simp only [State.observe]; repeat' split
  all_goals simp
@[simp] theorem State.observe_restartPending : (s.observe n o).restartPending = s.restartPending := by
  simp only [State.observe]; repeat' split
  all_goals simp
@[simp] theorem State.observe_lineClosed : (s.observe n o).lineClosed = s.lineClosed := by
  simp only [State.observe]; repeat' split
  all_goals simp
@[simp] theorem State.observe_lineWaiting : (s.observe n o).lineWaiting = s.lineWaiting := by
  simp only [State.observe]; repeat' split
  all_goals simp
@[simp] theorem State.observe_pending : (s.observe n o).pending = s.pending := by
  simp only [State.observe]; repeat' split
  all_goals simp
@[simp] theorem State.observe_choices : (s.observe n o).choices = s.choices := by
  simp only [State.observe]; repeat' split
  all_goals simp

end observe

section monitorObserves
variable (s : State) (n : Fin 32) (o : Observation) (b : Bool)

@[simp] theorem State.monitorObserves_identity : (s.monitorObserves n o b).identity = s.identity := by
  simp only [State.monitorObserves]; repeat' split
  all_goals simp
@[simp] theorem State.monitorObserves_powered : (s.monitorObserves n o b).powered = s.powered := by
  simp only [State.monitorObserves]; repeat' split
  all_goals simp
@[simp] theorem State.monitorObserves_time : (s.monitorObserves n o b).time = s.time := by
  simp only [State.monitorObserves]; repeat' split
  all_goals simp
@[simp] theorem State.monitorObserves_timing : (s.monitorObserves n o b).timing = s.timing := by
  simp only [State.monitorObserves]; repeat' split
  all_goals simp
@[simp] theorem State.monitorObserves_fallback : (s.monitorObserves n o b).fallback = s.fallback := by
  simp only [State.monitorObserves]; repeat' split
  all_goals simp
@[simp] theorem State.monitorObserves_generation : (s.monitorObserves n o b).generation = s.generation := by
  simp only [State.monitorObserves]; repeat' split
  all_goals simp
@[simp] theorem State.monitorObserves_active : (s.monitorObserves n o b).active = s.active := by
  simp only [State.monitorObserves]; repeat' split
  all_goals simp
@[simp] theorem State.monitorObserves_shadow : (s.monitorObserves n o b).shadow = s.shadow := by
  simp only [State.monitorObserves]; repeat' split
  all_goals simp
@[simp] theorem State.monitorObserves_counters : (s.monitorObserves n o b).counters = s.counters := by
  simp only [State.monitorObserves]; repeat' split
  all_goals simp
@[simp] theorem State.monitorObserves_history : (s.monitorObserves n o b).history = s.history := by
  simp only [State.monitorObserves]; repeat' split
  all_goals simp
@[simp] theorem State.monitorObserves_lanes : (s.monitorObserves n o b).lanes = s.lanes := by
  simp only [State.monitorObserves]; repeat' split
  all_goals simp
@[simp] theorem State.monitorObserves_tagCounter : (s.monitorObserves n o b).tagCounter = s.tagCounter := by
  simp only [State.monitorObserves]; repeat' split
  all_goals simp
@[simp] theorem State.monitorObserves_round : (s.monitorObserves n o b).round = s.round := by
  simp only [State.monitorObserves]; repeat' split
  all_goals simp
@[simp] theorem State.monitorObserves_watches : (s.monitorObserves n o b).watches = s.watches := by
  simp only [State.monitorObserves]; repeat' split
  all_goals simp
@[simp] theorem State.monitorObserves_destination : (s.monitorObserves n o b).destination = s.destination := by
  simp only [State.monitorObserves]; repeat' split
  all_goals simp
@[simp] theorem State.monitorObserves_stored : (s.monitorObserves n o b).stored = s.stored := by
  simp only [State.monitorObserves]; repeat' split
  all_goals simp
@[simp] theorem State.monitorObserves_writing : (s.monitorObserves n o b).writing = s.writing := by
  simp only [State.monitorObserves]; repeat' split
  all_goals simp
@[simp] theorem State.monitorObserves_restartPending : (s.monitorObserves n o b).restartPending = s.restartPending := by
  simp only [State.monitorObserves]; repeat' split
  all_goals simp
@[simp] theorem State.monitorObserves_lineClosed : (s.monitorObserves n o b).lineClosed = s.lineClosed := by
  simp only [State.monitorObserves]; repeat' split
  all_goals simp
@[simp] theorem State.monitorObserves_lineWaiting : (s.monitorObserves n o b).lineWaiting = s.lineWaiting := by
  simp only [State.monitorObserves]; repeat' split
  all_goals simp
@[simp] theorem State.monitorObserves_pending : (s.monitorObserves n o b).pending = s.pending := by
  simp only [State.monitorObserves]; repeat' split
  all_goals simp
@[simp] theorem State.monitorObserves_choices : (s.monitorObserves n o b).choices = s.choices := by
  simp only [State.monitorObserves]; repeat' split
  all_goals simp

end monitorObserves

section transferStarted
variable (s : State) (n : Fin 32) (k : Fin 8)

@[simp] theorem State.transferStarted_identity : (s.transferStarted n k).identity = s.identity := by
  simp only [State.transferStarted]; repeat' split
  all_goals simp
@[simp] theorem State.transferStarted_powered : (s.transferStarted n k).powered = s.powered := by
  simp only [State.transferStarted]; repeat' split
  all_goals simp
@[simp] theorem State.transferStarted_time : (s.transferStarted n k).time = s.time := by
  simp only [State.transferStarted]; repeat' split
  all_goals simp
@[simp] theorem State.transferStarted_timing : (s.transferStarted n k).timing = s.timing := by
  simp only [State.transferStarted]; repeat' split
  all_goals simp
@[simp] theorem State.transferStarted_fallback : (s.transferStarted n k).fallback = s.fallback := by
  simp only [State.transferStarted]; repeat' split
  all_goals simp
@[simp] theorem State.transferStarted_generation : (s.transferStarted n k).generation = s.generation := by
  simp only [State.transferStarted]; repeat' split
  all_goals simp
@[simp] theorem State.transferStarted_active : (s.transferStarted n k).active = s.active := by
  simp only [State.transferStarted]; repeat' split
  all_goals simp
@[simp] theorem State.transferStarted_shadow : (s.transferStarted n k).shadow = s.shadow := by
  simp only [State.transferStarted]; repeat' split
  all_goals simp
@[simp] theorem State.transferStarted_counters : (s.transferStarted n k).counters = s.counters := by
  simp only [State.transferStarted]; repeat' split
  all_goals simp
@[simp] theorem State.transferStarted_device : (s.transferStarted n k).device = s.device := by
  simp only [State.transferStarted]; repeat' split
  all_goals simp
@[simp] theorem State.transferStarted_history : (s.transferStarted n k).history = s.history := by
  simp only [State.transferStarted]; repeat' split
  all_goals simp
@[simp] theorem State.transferStarted_slots : (s.transferStarted n k).slots = s.slots := by
  simp only [State.transferStarted]; repeat' split
  all_goals simp
@[simp] theorem State.transferStarted_waiting : (s.transferStarted n k).waiting = s.waiting := by
  simp only [State.transferStarted]; repeat' split
  all_goals simp
@[simp] theorem State.transferStarted_lanes : (s.transferStarted n k).lanes = s.lanes := by
  simp only [State.transferStarted]; repeat' split
  all_goals simp
@[simp] theorem State.transferStarted_tagCounter : (s.transferStarted n k).tagCounter = s.tagCounter := by
  simp only [State.transferStarted]; repeat' split
  all_goals simp
@[simp] theorem State.transferStarted_round : (s.transferStarted n k).round = s.round := by
  simp only [State.transferStarted]; repeat' split
  all_goals simp
@[simp] theorem State.transferStarted_watches : (s.transferStarted n k).watches = s.watches := by
  simp only [State.transferStarted]; repeat' split
  all_goals simp
@[simp] theorem State.transferStarted_notices : (s.transferStarted n k).notices = s.notices := by
  simp only [State.transferStarted]; repeat' split
  all_goals simp
@[simp] theorem State.transferStarted_dropped : (s.transferStarted n k).dropped = s.dropped := by
  simp only [State.transferStarted]; repeat' split
  all_goals simp
@[simp] theorem State.transferStarted_destination : (s.transferStarted n k).destination = s.destination := by
  simp only [State.transferStarted]; repeat' split
  all_goals simp
@[simp] theorem State.transferStarted_plant : (s.transferStarted n k).plant = s.plant := by
  simp only [State.transferStarted]; repeat' split
  all_goals simp
@[simp] theorem State.transferStarted_line : (s.transferStarted n k).line = s.line := by
  simp only [State.transferStarted]; repeat' split
  all_goals simp
@[simp] theorem State.transferStarted_stored : (s.transferStarted n k).stored = s.stored := by
  simp only [State.transferStarted]; repeat' split
  all_goals simp
@[simp] theorem State.transferStarted_writing : (s.transferStarted n k).writing = s.writing := by
  simp only [State.transferStarted]; repeat' split
  all_goals simp
@[simp] theorem State.transferStarted_restartPending : (s.transferStarted n k).restartPending = s.restartPending := by
  simp only [State.transferStarted]; repeat' split
  all_goals simp
@[simp] theorem State.transferStarted_lineClosed : (s.transferStarted n k).lineClosed = s.lineClosed := by
  simp only [State.transferStarted]; repeat' split
  all_goals simp
@[simp] theorem State.transferStarted_lineWaiting : (s.transferStarted n k).lineWaiting = s.lineWaiting := by
  simp only [State.transferStarted]; repeat' split
  all_goals simp
@[simp] theorem State.transferStarted_pending : (s.transferStarted n k).pending = s.pending := by
  simp only [State.transferStarted]; repeat' split
  all_goals simp
@[simp] theorem State.transferStarted_choices : (s.transferStarted n k).choices = s.choices := by
  simp only [State.transferStarted]; repeat' split
  all_goals simp

end transferStarted

section commitHeld
variable (s : State) (n : Fin 32)

@[simp] theorem State.commitHeld_identity : (s.commitHeld n).identity = s.identity := by
  simp only [State.commitHeld]; repeat' split
  all_goals simp
@[simp] theorem State.commitHeld_powered : (s.commitHeld n).powered = s.powered := by
  simp only [State.commitHeld]; repeat' split
  all_goals simp
@[simp] theorem State.commitHeld_time : (s.commitHeld n).time = s.time := by
  simp only [State.commitHeld]; repeat' split
  all_goals simp
@[simp] theorem State.commitHeld_timing : (s.commitHeld n).timing = s.timing := by
  simp only [State.commitHeld]; repeat' split
  all_goals simp
@[simp] theorem State.commitHeld_fallback : (s.commitHeld n).fallback = s.fallback := by
  simp only [State.commitHeld]; repeat' split
  all_goals simp
@[simp] theorem State.commitHeld_generation : (s.commitHeld n).generation = s.generation := by
  simp only [State.commitHeld]; repeat' split
  all_goals simp
@[simp] theorem State.commitHeld_active : (s.commitHeld n).active = s.active := by
  simp only [State.commitHeld]; repeat' split
  all_goals simp
@[simp] theorem State.commitHeld_shadow : (s.commitHeld n).shadow = s.shadow := by
  simp only [State.commitHeld]; repeat' split
  all_goals simp
@[simp] theorem State.commitHeld_counters : (s.commitHeld n).counters = s.counters := by
  simp only [State.commitHeld]; repeat' split
  all_goals simp
@[simp] theorem State.commitHeld_device : (s.commitHeld n).device = s.device := by
  simp only [State.commitHeld]; repeat' split
  all_goals simp
@[simp] theorem State.commitHeld_history : (s.commitHeld n).history = s.history := by
  simp only [State.commitHeld]; repeat' split
  all_goals simp
@[simp] theorem State.commitHeld_slots : (s.commitHeld n).slots = s.slots := by
  simp only [State.commitHeld]; repeat' split
  all_goals simp
@[simp] theorem State.commitHeld_waiting : (s.commitHeld n).waiting = s.waiting := by
  simp only [State.commitHeld]; repeat' split
  all_goals simp
@[simp] theorem State.commitHeld_lanes : (s.commitHeld n).lanes = s.lanes := by
  simp only [State.commitHeld]; repeat' split
  all_goals simp
@[simp] theorem State.commitHeld_tagCounter : (s.commitHeld n).tagCounter = s.tagCounter := by
  simp only [State.commitHeld]; repeat' split
  all_goals simp
@[simp] theorem State.commitHeld_round : (s.commitHeld n).round = s.round := by
  simp only [State.commitHeld]; repeat' split
  all_goals simp
@[simp] theorem State.commitHeld_watches : (s.commitHeld n).watches = s.watches := by
  simp only [State.commitHeld]; repeat' split
  all_goals simp
@[simp] theorem State.commitHeld_notices : (s.commitHeld n).notices = s.notices := by
  simp only [State.commitHeld]; repeat' split
  all_goals simp
@[simp] theorem State.commitHeld_dropped : (s.commitHeld n).dropped = s.dropped := by
  simp only [State.commitHeld]; repeat' split
  all_goals simp
@[simp] theorem State.commitHeld_destination : (s.commitHeld n).destination = s.destination := by
  simp only [State.commitHeld]; repeat' split
  all_goals simp
@[simp] theorem State.commitHeld_plant : (s.commitHeld n).plant = s.plant := by
  simp only [State.commitHeld]; repeat' split
  all_goals simp
@[simp] theorem State.commitHeld_line : (s.commitHeld n).line = s.line := by
  simp only [State.commitHeld]; repeat' split
  all_goals simp
@[simp] theorem State.commitHeld_stored : (s.commitHeld n).stored = s.stored := by
  simp only [State.commitHeld]; repeat' split
  all_goals simp
@[simp] theorem State.commitHeld_writing : (s.commitHeld n).writing = s.writing := by
  simp only [State.commitHeld]; repeat' split
  all_goals simp
@[simp] theorem State.commitHeld_restartPending : (s.commitHeld n).restartPending = s.restartPending := by
  simp only [State.commitHeld]; repeat' split
  all_goals simp
@[simp] theorem State.commitHeld_lineClosed : (s.commitHeld n).lineClosed = s.lineClosed := by
  simp only [State.commitHeld]; repeat' split
  all_goals simp
@[simp] theorem State.commitHeld_lineWaiting : (s.commitHeld n).lineWaiting = s.lineWaiting := by
  simp only [State.commitHeld]; repeat' split
  all_goals simp
@[simp] theorem State.commitHeld_pending : (s.commitHeld n).pending = s.pending := by
  simp only [State.commitHeld]; repeat' split
  all_goals simp
@[simp] theorem State.commitHeld_choices : (s.commitHeld n).choices = s.choices := by
  simp only [State.commitHeld]; repeat' split
  all_goals simp

end commitHeld

section commitReleased
variable (s : State) (n : Fin 32)

@[simp] theorem State.commitReleased_identity : (s.commitReleased n).identity = s.identity := by
  simp only [State.commitReleased]; repeat' split
  all_goals simp
@[simp] theorem State.commitReleased_powered : (s.commitReleased n).powered = s.powered := by
  simp only [State.commitReleased]; repeat' split
  all_goals simp
@[simp] theorem State.commitReleased_time : (s.commitReleased n).time = s.time := by
  simp only [State.commitReleased]; repeat' split
  all_goals simp
@[simp] theorem State.commitReleased_timing : (s.commitReleased n).timing = s.timing := by
  simp only [State.commitReleased]; repeat' split
  all_goals simp
@[simp] theorem State.commitReleased_fallback : (s.commitReleased n).fallback = s.fallback := by
  simp only [State.commitReleased]; repeat' split
  all_goals simp
@[simp] theorem State.commitReleased_generation : (s.commitReleased n).generation = s.generation := by
  simp only [State.commitReleased]; repeat' split
  all_goals simp
@[simp] theorem State.commitReleased_active : (s.commitReleased n).active = s.active := by
  simp only [State.commitReleased]; repeat' split
  all_goals simp
@[simp] theorem State.commitReleased_shadow : (s.commitReleased n).shadow = s.shadow := by
  simp only [State.commitReleased]; repeat' split
  all_goals simp
@[simp] theorem State.commitReleased_counters : (s.commitReleased n).counters = s.counters := by
  simp only [State.commitReleased]; repeat' split
  all_goals simp
@[simp] theorem State.commitReleased_device : (s.commitReleased n).device = s.device := by
  simp only [State.commitReleased]; repeat' split
  all_goals simp
@[simp] theorem State.commitReleased_history : (s.commitReleased n).history = s.history := by
  simp only [State.commitReleased]; repeat' split
  all_goals simp
@[simp] theorem State.commitReleased_slots : (s.commitReleased n).slots = s.slots := by
  simp only [State.commitReleased]; repeat' split
  all_goals simp
@[simp] theorem State.commitReleased_waiting : (s.commitReleased n).waiting = s.waiting := by
  simp only [State.commitReleased]; repeat' split
  all_goals simp
@[simp] theorem State.commitReleased_lanes : (s.commitReleased n).lanes = s.lanes := by
  simp only [State.commitReleased]; repeat' split
  all_goals simp
@[simp] theorem State.commitReleased_tagCounter : (s.commitReleased n).tagCounter = s.tagCounter := by
  simp only [State.commitReleased]; repeat' split
  all_goals simp
@[simp] theorem State.commitReleased_round : (s.commitReleased n).round = s.round := by
  simp only [State.commitReleased]; repeat' split
  all_goals simp
@[simp] theorem State.commitReleased_watches : (s.commitReleased n).watches = s.watches := by
  simp only [State.commitReleased]; repeat' split
  all_goals simp
@[simp] theorem State.commitReleased_notices : (s.commitReleased n).notices = s.notices := by
  simp only [State.commitReleased]; repeat' split
  all_goals simp
@[simp] theorem State.commitReleased_dropped : (s.commitReleased n).dropped = s.dropped := by
  simp only [State.commitReleased]; repeat' split
  all_goals simp
@[simp] theorem State.commitReleased_destination : (s.commitReleased n).destination = s.destination := by
  simp only [State.commitReleased]; repeat' split
  all_goals simp
@[simp] theorem State.commitReleased_plant : (s.commitReleased n).plant = s.plant := by
  simp only [State.commitReleased]; repeat' split
  all_goals simp
@[simp] theorem State.commitReleased_line : (s.commitReleased n).line = s.line := by
  simp only [State.commitReleased]; repeat' split
  all_goals simp
@[simp] theorem State.commitReleased_stored : (s.commitReleased n).stored = s.stored := by
  simp only [State.commitReleased]; repeat' split
  all_goals simp
@[simp] theorem State.commitReleased_writing : (s.commitReleased n).writing = s.writing := by
  simp only [State.commitReleased]; repeat' split
  all_goals simp
@[simp] theorem State.commitReleased_restartPending : (s.commitReleased n).restartPending = s.restartPending := by
  simp only [State.commitReleased]; repeat' split
  all_goals simp
@[simp] theorem State.commitReleased_lineClosed : (s.commitReleased n).lineClosed = s.lineClosed := by
  simp only [State.commitReleased]; repeat' split
  all_goals simp
@[simp] theorem State.commitReleased_lineWaiting : (s.commitReleased n).lineWaiting = s.lineWaiting := by
  simp only [State.commitReleased]; repeat' split
  all_goals simp
@[simp] theorem State.commitReleased_pending : (s.commitReleased n).pending = s.pending := by
  simp only [State.commitReleased]; repeat' split
  all_goals simp
@[simp] theorem State.commitReleased_choices : (s.commitReleased n).choices = s.choices := by
  simp only [State.commitReleased]; repeat' split
  all_goals simp

end commitReleased

section endTransfer
variable (s : State) (n : Fin 32) (m : WindowMode) (d : Option Nat) (c : Option CloseCause) (b : Bool)

@[simp] theorem State.endTransfer_identity : (s.endTransfer n m d c b).identity = s.identity := by
  simp only [State.endTransfer]; repeat' split
  all_goals simp
@[simp] theorem State.endTransfer_powered : (s.endTransfer n m d c b).powered = s.powered := by
  simp only [State.endTransfer]; repeat' split
  all_goals simp
@[simp] theorem State.endTransfer_time : (s.endTransfer n m d c b).time = s.time := by
  simp only [State.endTransfer]; repeat' split
  all_goals simp
@[simp] theorem State.endTransfer_timing : (s.endTransfer n m d c b).timing = s.timing := by
  simp only [State.endTransfer]; repeat' split
  all_goals simp
@[simp] theorem State.endTransfer_fallback : (s.endTransfer n m d c b).fallback = s.fallback := by
  simp only [State.endTransfer]; repeat' split
  all_goals simp
@[simp] theorem State.endTransfer_generation : (s.endTransfer n m d c b).generation = s.generation := by
  simp only [State.endTransfer]; repeat' split
  all_goals simp
@[simp] theorem State.endTransfer_active : (s.endTransfer n m d c b).active = s.active := by
  simp only [State.endTransfer]; repeat' split
  all_goals simp
@[simp] theorem State.endTransfer_shadow : (s.endTransfer n m d c b).shadow = s.shadow := by
  simp only [State.endTransfer]; repeat' split
  all_goals simp
@[simp] theorem State.endTransfer_counters : (s.endTransfer n m d c b).counters = s.counters := by
  simp only [State.endTransfer]; repeat' split
  all_goals simp
@[simp] theorem State.endTransfer_device : (s.endTransfer n m d c b).device = s.device := by
  simp only [State.endTransfer]; repeat' split
  all_goals simp
@[simp] theorem State.endTransfer_history : (s.endTransfer n m d c b).history = s.history := by
  simp only [State.endTransfer]; repeat' split
  all_goals simp
@[simp] theorem State.endTransfer_slots : (s.endTransfer n m d c b).slots = s.slots := by
  simp only [State.endTransfer]; repeat' split
  all_goals simp
@[simp] theorem State.endTransfer_waiting : (s.endTransfer n m d c b).waiting = s.waiting := by
  simp only [State.endTransfer]; repeat' split
  all_goals simp
@[simp] theorem State.endTransfer_lanes : (s.endTransfer n m d c b).lanes = s.lanes := by
  simp only [State.endTransfer]; repeat' split
  all_goals simp
@[simp] theorem State.endTransfer_tagCounter : (s.endTransfer n m d c b).tagCounter = s.tagCounter := by
  simp only [State.endTransfer]; repeat' split
  all_goals simp
@[simp] theorem State.endTransfer_round : (s.endTransfer n m d c b).round = s.round := by
  simp only [State.endTransfer]; repeat' split
  all_goals simp
@[simp] theorem State.endTransfer_watches : (s.endTransfer n m d c b).watches = s.watches := by
  simp only [State.endTransfer]; repeat' split
  all_goals simp
@[simp] theorem State.endTransfer_destination : (s.endTransfer n m d c b).destination = s.destination := by
  simp only [State.endTransfer]; repeat' split
  all_goals simp
@[simp] theorem State.endTransfer_line : (s.endTransfer n m d c b).line = s.line := by
  simp only [State.endTransfer]; repeat' split
  all_goals simp
@[simp] theorem State.endTransfer_stored : (s.endTransfer n m d c b).stored = s.stored := by
  simp only [State.endTransfer]; repeat' split
  all_goals simp
@[simp] theorem State.endTransfer_writing : (s.endTransfer n m d c b).writing = s.writing := by
  simp only [State.endTransfer]; repeat' split
  all_goals simp
@[simp] theorem State.endTransfer_restartPending : (s.endTransfer n m d c b).restartPending = s.restartPending := by
  simp only [State.endTransfer]; repeat' split
  all_goals simp
@[simp] theorem State.endTransfer_lineClosed : (s.endTransfer n m d c b).lineClosed = s.lineClosed := by
  simp only [State.endTransfer]; repeat' split
  all_goals simp
@[simp] theorem State.endTransfer_lineWaiting : (s.endTransfer n m d c b).lineWaiting = s.lineWaiting := by
  simp only [State.endTransfer]; repeat' split
  all_goals simp
@[simp] theorem State.endTransfer_pending : (s.endTransfer n m d c b).pending = s.pending := by
  simp only [State.endTransfer]; repeat' split
  all_goals simp
@[simp] theorem State.endTransfer_choices : (s.endTransfer n m d c b).choices = s.choices := by
  simp only [State.endTransfer]; repeat' split
  all_goals simp

end endTransfer

section transferEnded
variable (s : State) (n : Fin 32) (b : Bool)

@[simp] theorem State.transferEnded_identity : (s.transferEnded n b).identity = s.identity := by
  simp only [State.transferEnded]; repeat' split
  all_goals simp
@[simp] theorem State.transferEnded_powered : (s.transferEnded n b).powered = s.powered := by
  simp only [State.transferEnded]; repeat' split
  all_goals simp
@[simp] theorem State.transferEnded_time : (s.transferEnded n b).time = s.time := by
  simp only [State.transferEnded]; repeat' split
  all_goals simp
@[simp] theorem State.transferEnded_timing : (s.transferEnded n b).timing = s.timing := by
  simp only [State.transferEnded]; repeat' split
  all_goals simp
@[simp] theorem State.transferEnded_fallback : (s.transferEnded n b).fallback = s.fallback := by
  simp only [State.transferEnded]; repeat' split
  all_goals simp
@[simp] theorem State.transferEnded_generation : (s.transferEnded n b).generation = s.generation := by
  simp only [State.transferEnded]; repeat' split
  all_goals simp
@[simp] theorem State.transferEnded_active : (s.transferEnded n b).active = s.active := by
  simp only [State.transferEnded]; repeat' split
  all_goals simp
@[simp] theorem State.transferEnded_shadow : (s.transferEnded n b).shadow = s.shadow := by
  simp only [State.transferEnded]; repeat' split
  all_goals simp
@[simp] theorem State.transferEnded_counters : (s.transferEnded n b).counters = s.counters := by
  simp only [State.transferEnded]; repeat' split
  all_goals simp
@[simp] theorem State.transferEnded_device : (s.transferEnded n b).device = s.device := by
  simp only [State.transferEnded]; repeat' split
  all_goals simp
@[simp] theorem State.transferEnded_history : (s.transferEnded n b).history = s.history := by
  simp only [State.transferEnded]; repeat' split
  all_goals simp
@[simp] theorem State.transferEnded_slots : (s.transferEnded n b).slots = s.slots := by
  simp only [State.transferEnded]; repeat' split
  all_goals simp
@[simp] theorem State.transferEnded_waiting : (s.transferEnded n b).waiting = s.waiting := by
  simp only [State.transferEnded]; repeat' split
  all_goals simp
@[simp] theorem State.transferEnded_lanes : (s.transferEnded n b).lanes = s.lanes := by
  simp only [State.transferEnded]; repeat' split
  all_goals simp
@[simp] theorem State.transferEnded_tagCounter : (s.transferEnded n b).tagCounter = s.tagCounter := by
  simp only [State.transferEnded]; repeat' split
  all_goals simp
@[simp] theorem State.transferEnded_round : (s.transferEnded n b).round = s.round := by
  simp only [State.transferEnded]; repeat' split
  all_goals simp
@[simp] theorem State.transferEnded_watches : (s.transferEnded n b).watches = s.watches := by
  simp only [State.transferEnded]; repeat' split
  all_goals simp
@[simp] theorem State.transferEnded_destination : (s.transferEnded n b).destination = s.destination := by
  simp only [State.transferEnded]; repeat' split
  all_goals simp
@[simp] theorem State.transferEnded_line : (s.transferEnded n b).line = s.line := by
  simp only [State.transferEnded]; repeat' split
  all_goals simp
@[simp] theorem State.transferEnded_stored : (s.transferEnded n b).stored = s.stored := by
  simp only [State.transferEnded]; repeat' split
  all_goals simp
@[simp] theorem State.transferEnded_writing : (s.transferEnded n b).writing = s.writing := by
  simp only [State.transferEnded]; repeat' split
  all_goals simp
@[simp] theorem State.transferEnded_restartPending : (s.transferEnded n b).restartPending = s.restartPending := by
  simp only [State.transferEnded]; repeat' split
  all_goals simp
@[simp] theorem State.transferEnded_lineClosed : (s.transferEnded n b).lineClosed = s.lineClosed := by
  simp only [State.transferEnded]; repeat' split
  all_goals simp
@[simp] theorem State.transferEnded_lineWaiting : (s.transferEnded n b).lineWaiting = s.lineWaiting := by
  simp only [State.transferEnded]; repeat' split
  all_goals simp
@[simp] theorem State.transferEnded_pending : (s.transferEnded n b).pending = s.pending := by
  simp only [State.transferEnded]; repeat' split
  all_goals simp
@[simp] theorem State.transferEnded_choices : (s.transferEnded n b).choices = s.choices := by
  simp only [State.transferEnded]; repeat' split
  all_goals simp

end transferEnded

section enterQuarantine
variable (s : State) (n : Fin 32) (c : QuarantineCause)

@[simp] theorem State.enterQuarantine_identity : (s.enterQuarantine n c).identity = s.identity := by
  simp only [State.enterQuarantine]; repeat' split
  all_goals simp
@[simp] theorem State.enterQuarantine_powered : (s.enterQuarantine n c).powered = s.powered := by
  simp only [State.enterQuarantine]; repeat' split
  all_goals simp
@[simp] theorem State.enterQuarantine_time : (s.enterQuarantine n c).time = s.time := by
  simp only [State.enterQuarantine]; repeat' split
  all_goals simp
@[simp] theorem State.enterQuarantine_timing : (s.enterQuarantine n c).timing = s.timing := by
  simp only [State.enterQuarantine]; repeat' split
  all_goals simp
@[simp] theorem State.enterQuarantine_fallback : (s.enterQuarantine n c).fallback = s.fallback := by
  simp only [State.enterQuarantine]; repeat' split
  all_goals simp
@[simp] theorem State.enterQuarantine_generation : (s.enterQuarantine n c).generation = s.generation := by
  simp only [State.enterQuarantine]; repeat' split
  all_goals simp
@[simp] theorem State.enterQuarantine_active : (s.enterQuarantine n c).active = s.active := by
  simp only [State.enterQuarantine]; repeat' split
  all_goals simp
@[simp] theorem State.enterQuarantine_shadow : (s.enterQuarantine n c).shadow = s.shadow := by
  simp only [State.enterQuarantine]; repeat' split
  all_goals simp
@[simp] theorem State.enterQuarantine_counters : (s.enterQuarantine n c).counters = s.counters := by
  simp only [State.enterQuarantine]; repeat' split
  all_goals simp
@[simp] theorem State.enterQuarantine_history : (s.enterQuarantine n c).history = s.history := by
  simp only [State.enterQuarantine]; repeat' split
  all_goals simp
@[simp] theorem State.enterQuarantine_lanes : (s.enterQuarantine n c).lanes = s.lanes := by
  simp only [State.enterQuarantine]; repeat' split
  all_goals simp
@[simp] theorem State.enterQuarantine_tagCounter : (s.enterQuarantine n c).tagCounter = s.tagCounter := by
  simp only [State.enterQuarantine]; repeat' split
  all_goals simp
@[simp] theorem State.enterQuarantine_round : (s.enterQuarantine n c).round = s.round := by
  simp only [State.enterQuarantine]; repeat' split
  all_goals simp
@[simp] theorem State.enterQuarantine_watches : (s.enterQuarantine n c).watches = s.watches := by
  simp only [State.enterQuarantine]; repeat' split
  all_goals simp
@[simp] theorem State.enterQuarantine_destination : (s.enterQuarantine n c).destination = s.destination := by
  simp only [State.enterQuarantine]; repeat' split
  all_goals simp
@[simp] theorem State.enterQuarantine_stored : (s.enterQuarantine n c).stored = s.stored := by
  simp only [State.enterQuarantine]; repeat' split
  all_goals simp
@[simp] theorem State.enterQuarantine_writing : (s.enterQuarantine n c).writing = s.writing := by
  simp only [State.enterQuarantine]; repeat' split
  all_goals simp
@[simp] theorem State.enterQuarantine_restartPending : (s.enterQuarantine n c).restartPending = s.restartPending := by
  simp only [State.enterQuarantine]; repeat' split
  all_goals simp
@[simp] theorem State.enterQuarantine_lineClosed : (s.enterQuarantine n c).lineClosed = s.lineClosed := by
  simp only [State.enterQuarantine]; repeat' split
  all_goals simp
@[simp] theorem State.enterQuarantine_lineWaiting : (s.enterQuarantine n c).lineWaiting = s.lineWaiting := by
  simp only [State.enterQuarantine]; repeat' split
  all_goals simp
@[simp] theorem State.enterQuarantine_pending : (s.enterQuarantine n c).pending = s.pending := by
  simp only [State.enterQuarantine]; repeat' split
  all_goals simp
@[simp] theorem State.enterQuarantine_choices : (s.enterQuarantine n c).choices = s.choices := by
  simp only [State.enterQuarantine]; repeat' split
  all_goals simp

end enterQuarantine

section reportMismatch
variable (s : State) (n : Fin 32)

@[simp] theorem State.reportMismatch_identity : (s.reportMismatch n).identity = s.identity := by
  simp only [State.reportMismatch]; repeat' split
  all_goals simp
@[simp] theorem State.reportMismatch_powered : (s.reportMismatch n).powered = s.powered := by
  simp only [State.reportMismatch]; repeat' split
  all_goals simp
@[simp] theorem State.reportMismatch_time : (s.reportMismatch n).time = s.time := by
  simp only [State.reportMismatch]; repeat' split
  all_goals simp
@[simp] theorem State.reportMismatch_timing : (s.reportMismatch n).timing = s.timing := by
  simp only [State.reportMismatch]; repeat' split
  all_goals simp
@[simp] theorem State.reportMismatch_fallback : (s.reportMismatch n).fallback = s.fallback := by
  simp only [State.reportMismatch]; repeat' split
  all_goals simp
@[simp] theorem State.reportMismatch_generation : (s.reportMismatch n).generation = s.generation := by
  simp only [State.reportMismatch]; repeat' split
  all_goals simp
@[simp] theorem State.reportMismatch_active : (s.reportMismatch n).active = s.active := by
  simp only [State.reportMismatch]; repeat' split
  all_goals simp
@[simp] theorem State.reportMismatch_shadow : (s.reportMismatch n).shadow = s.shadow := by
  simp only [State.reportMismatch]; repeat' split
  all_goals simp
@[simp] theorem State.reportMismatch_history : (s.reportMismatch n).history = s.history := by
  simp only [State.reportMismatch]; repeat' split
  all_goals simp
@[simp] theorem State.reportMismatch_lanes : (s.reportMismatch n).lanes = s.lanes := by
  simp only [State.reportMismatch]; repeat' split
  all_goals simp
@[simp] theorem State.reportMismatch_tagCounter : (s.reportMismatch n).tagCounter = s.tagCounter := by
  simp only [State.reportMismatch]; repeat' split
  all_goals simp
@[simp] theorem State.reportMismatch_round : (s.reportMismatch n).round = s.round := by
  simp only [State.reportMismatch]; repeat' split
  all_goals simp
@[simp] theorem State.reportMismatch_watches : (s.reportMismatch n).watches = s.watches := by
  simp only [State.reportMismatch]; repeat' split
  all_goals simp
@[simp] theorem State.reportMismatch_destination : (s.reportMismatch n).destination = s.destination := by
  simp only [State.reportMismatch]; repeat' split
  all_goals simp
@[simp] theorem State.reportMismatch_stored : (s.reportMismatch n).stored = s.stored := by
  simp only [State.reportMismatch]; repeat' split
  all_goals simp
@[simp] theorem State.reportMismatch_writing : (s.reportMismatch n).writing = s.writing := by
  simp only [State.reportMismatch]; repeat' split
  all_goals simp
@[simp] theorem State.reportMismatch_restartPending : (s.reportMismatch n).restartPending = s.restartPending := by
  simp only [State.reportMismatch]; repeat' split
  all_goals simp
@[simp] theorem State.reportMismatch_lineClosed : (s.reportMismatch n).lineClosed = s.lineClosed := by
  simp only [State.reportMismatch]; repeat' split
  all_goals simp
@[simp] theorem State.reportMismatch_lineWaiting : (s.reportMismatch n).lineWaiting = s.lineWaiting := by
  simp only [State.reportMismatch]; repeat' split
  all_goals simp
@[simp] theorem State.reportMismatch_pending : (s.reportMismatch n).pending = s.pending := by
  simp only [State.reportMismatch]; repeat' split
  all_goals simp
@[simp] theorem State.reportMismatch_choices : (s.reportMismatch n).choices = s.choices := by
  simp only [State.reportMismatch]; repeat' split
  all_goals simp

end reportMismatch

section linkLossWindow
variable (s : State) (n : Fin 32)

@[simp] theorem State.linkLossWindow_identity : (s.linkLossWindow n).identity = s.identity := by
  simp only [State.linkLossWindow]; repeat' split
  all_goals simp
@[simp] theorem State.linkLossWindow_powered : (s.linkLossWindow n).powered = s.powered := by
  simp only [State.linkLossWindow]; repeat' split
  all_goals simp
@[simp] theorem State.linkLossWindow_time : (s.linkLossWindow n).time = s.time := by
  simp only [State.linkLossWindow]; repeat' split
  all_goals simp
@[simp] theorem State.linkLossWindow_timing : (s.linkLossWindow n).timing = s.timing := by
  simp only [State.linkLossWindow]; repeat' split
  all_goals simp
@[simp] theorem State.linkLossWindow_fallback : (s.linkLossWindow n).fallback = s.fallback := by
  simp only [State.linkLossWindow]; repeat' split
  all_goals simp
@[simp] theorem State.linkLossWindow_generation : (s.linkLossWindow n).generation = s.generation := by
  simp only [State.linkLossWindow]; repeat' split
  all_goals simp
@[simp] theorem State.linkLossWindow_active : (s.linkLossWindow n).active = s.active := by
  simp only [State.linkLossWindow]; repeat' split
  all_goals simp
@[simp] theorem State.linkLossWindow_shadow : (s.linkLossWindow n).shadow = s.shadow := by
  simp only [State.linkLossWindow]; repeat' split
  all_goals simp
@[simp] theorem State.linkLossWindow_counters : (s.linkLossWindow n).counters = s.counters := by
  simp only [State.linkLossWindow]; repeat' split
  all_goals simp
@[simp] theorem State.linkLossWindow_device : (s.linkLossWindow n).device = s.device := by
  simp only [State.linkLossWindow]; repeat' split
  all_goals simp
@[simp] theorem State.linkLossWindow_history : (s.linkLossWindow n).history = s.history := by
  simp only [State.linkLossWindow]; repeat' split
  all_goals simp
@[simp] theorem State.linkLossWindow_slots : (s.linkLossWindow n).slots = s.slots := by
  simp only [State.linkLossWindow]; repeat' split
  all_goals simp
@[simp] theorem State.linkLossWindow_waiting : (s.linkLossWindow n).waiting = s.waiting := by
  simp only [State.linkLossWindow]; repeat' split
  all_goals simp
@[simp] theorem State.linkLossWindow_lanes : (s.linkLossWindow n).lanes = s.lanes := by
  simp only [State.linkLossWindow]; repeat' split
  all_goals simp
@[simp] theorem State.linkLossWindow_tagCounter : (s.linkLossWindow n).tagCounter = s.tagCounter := by
  simp only [State.linkLossWindow]; repeat' split
  all_goals simp
@[simp] theorem State.linkLossWindow_round : (s.linkLossWindow n).round = s.round := by
  simp only [State.linkLossWindow]; repeat' split
  all_goals simp
@[simp] theorem State.linkLossWindow_watches : (s.linkLossWindow n).watches = s.watches := by
  simp only [State.linkLossWindow]; repeat' split
  all_goals simp
@[simp] theorem State.linkLossWindow_destination : (s.linkLossWindow n).destination = s.destination := by
  simp only [State.linkLossWindow]; repeat' split
  all_goals simp
@[simp] theorem State.linkLossWindow_line : (s.linkLossWindow n).line = s.line := by
  simp only [State.linkLossWindow]; repeat' split
  all_goals simp
@[simp] theorem State.linkLossWindow_stored : (s.linkLossWindow n).stored = s.stored := by
  simp only [State.linkLossWindow]; repeat' split
  all_goals simp
@[simp] theorem State.linkLossWindow_writing : (s.linkLossWindow n).writing = s.writing := by
  simp only [State.linkLossWindow]; repeat' split
  all_goals simp
@[simp] theorem State.linkLossWindow_restartPending : (s.linkLossWindow n).restartPending = s.restartPending := by
  simp only [State.linkLossWindow]; repeat' split
  all_goals simp
@[simp] theorem State.linkLossWindow_lineClosed : (s.linkLossWindow n).lineClosed = s.lineClosed := by
  simp only [State.linkLossWindow]; repeat' split
  all_goals simp
@[simp] theorem State.linkLossWindow_lineWaiting : (s.linkLossWindow n).lineWaiting = s.lineWaiting := by
  simp only [State.linkLossWindow]; repeat' split
  all_goals simp
@[simp] theorem State.linkLossWindow_pending : (s.linkLossWindow n).pending = s.pending := by
  simp only [State.linkLossWindow]; repeat' split
  all_goals simp
@[simp] theorem State.linkLossWindow_choices : (s.linkLossWindow n).choices = s.choices := by
  simp only [State.linkLossWindow]; repeat' split
  all_goals simp

end linkLossWindow

section compareImage
variable (s : State) (x : Transfer) (r : ImageRecord) (n : Nat) (f : Quad)

@[simp] theorem State.compareImage_identity : (s.compareImage x r n f).1.identity = s.identity := by
  simp only [State.compareImage]; repeat' split
  all_goals simp
@[simp] theorem State.compareImage_powered : (s.compareImage x r n f).1.powered = s.powered := by
  simp only [State.compareImage]; repeat' split
  all_goals simp
@[simp] theorem State.compareImage_time : (s.compareImage x r n f).1.time = s.time := by
  simp only [State.compareImage]; repeat' split
  all_goals simp
@[simp] theorem State.compareImage_timing : (s.compareImage x r n f).1.timing = s.timing := by
  simp only [State.compareImage]; repeat' split
  all_goals simp
@[simp] theorem State.compareImage_fallback : (s.compareImage x r n f).1.fallback = s.fallback := by
  simp only [State.compareImage]; repeat' split
  all_goals simp
@[simp] theorem State.compareImage_generation : (s.compareImage x r n f).1.generation = s.generation := by
  simp only [State.compareImage]; repeat' split
  all_goals simp
@[simp] theorem State.compareImage_active : (s.compareImage x r n f).1.active = s.active := by
  simp only [State.compareImage]; repeat' split
  all_goals simp
@[simp] theorem State.compareImage_shadow : (s.compareImage x r n f).1.shadow = s.shadow := by
  simp only [State.compareImage]; repeat' split
  all_goals simp
@[simp] theorem State.compareImage_controllers : (s.compareImage x r n f).1.controllers = s.controllers := by
  simp only [State.compareImage]; repeat' split
  all_goals simp
@[simp] theorem State.compareImage_counters : (s.compareImage x r n f).1.counters = s.counters := by
  simp only [State.compareImage]; repeat' split
  all_goals simp
@[simp] theorem State.compareImage_device : (s.compareImage x r n f).1.device = s.device := by
  simp only [State.compareImage]; repeat' split
  all_goals simp
@[simp] theorem State.compareImage_history : (s.compareImage x r n f).1.history = s.history := by
  simp only [State.compareImage]; repeat' split
  all_goals simp
@[simp] theorem State.compareImage_slots : (s.compareImage x r n f).1.slots = s.slots := by
  simp only [State.compareImage]; repeat' split
  all_goals simp
@[simp] theorem State.compareImage_waiting : (s.compareImage x r n f).1.waiting = s.waiting := by
  simp only [State.compareImage]; repeat' split
  all_goals simp
@[simp] theorem State.compareImage_lanes : (s.compareImage x r n f).1.lanes = s.lanes := by
  simp only [State.compareImage]; repeat' split
  all_goals simp
@[simp] theorem State.compareImage_tagCounter : (s.compareImage x r n f).1.tagCounter = s.tagCounter := by
  simp only [State.compareImage]; repeat' split
  all_goals simp
@[simp] theorem State.compareImage_round : (s.compareImage x r n f).1.round = s.round := by
  simp only [State.compareImage]; repeat' split
  all_goals simp
@[simp] theorem State.compareImage_watches : (s.compareImage x r n f).1.watches = s.watches := by
  simp only [State.compareImage]; repeat' split
  all_goals simp
@[simp] theorem State.compareImage_destination : (s.compareImage x r n f).1.destination = s.destination := by
  simp only [State.compareImage]; repeat' split
  all_goals simp
@[simp] theorem State.compareImage_line : (s.compareImage x r n f).1.line = s.line := by
  simp only [State.compareImage]; repeat' split
  all_goals simp
@[simp] theorem State.compareImage_stored : (s.compareImage x r n f).1.stored = s.stored := by
  simp only [State.compareImage]; repeat' split
  all_goals simp
@[simp] theorem State.compareImage_writing : (s.compareImage x r n f).1.writing = s.writing := by
  simp only [State.compareImage]; repeat' split
  all_goals simp
@[simp] theorem State.compareImage_restartPending : (s.compareImage x r n f).1.restartPending = s.restartPending := by
  simp only [State.compareImage]; repeat' split
  all_goals simp
@[simp] theorem State.compareImage_lineClosed : (s.compareImage x r n f).1.lineClosed = s.lineClosed := by
  simp only [State.compareImage]; repeat' split
  all_goals simp
@[simp] theorem State.compareImage_lineWaiting : (s.compareImage x r n f).1.lineWaiting = s.lineWaiting := by
  simp only [State.compareImage]; repeat' split
  all_goals simp
@[simp] theorem State.compareImage_pending : (s.compareImage x r n f).1.pending = s.pending := by
  simp only [State.compareImage]; repeat' split
  all_goals simp
@[simp] theorem State.compareImage_choices : (s.compareImage x r n f).1.choices = s.choices := by
  simp only [State.compareImage]; repeat' split
  all_goals simp

end compareImage

section learnImage
variable (s : State) (x : Transfer) (n : Nat) (f : Quad)

@[simp] theorem State.learnImage_identity : (s.learnImage x n f).1.identity = s.identity := by
  simp only [State.learnImage]; repeat' split
  all_goals simp
@[simp] theorem State.learnImage_powered : (s.learnImage x n f).1.powered = s.powered := by
  simp only [State.learnImage]; repeat' split
  all_goals simp
@[simp] theorem State.learnImage_time : (s.learnImage x n f).1.time = s.time := by
  simp only [State.learnImage]; repeat' split
  all_goals simp
@[simp] theorem State.learnImage_timing : (s.learnImage x n f).1.timing = s.timing := by
  simp only [State.learnImage]; repeat' split
  all_goals simp
@[simp] theorem State.learnImage_fallback : (s.learnImage x n f).1.fallback = s.fallback := by
  simp only [State.learnImage]; repeat' split
  all_goals simp
@[simp] theorem State.learnImage_generation : (s.learnImage x n f).1.generation = s.generation := by
  simp only [State.learnImage]; repeat' split
  all_goals simp
@[simp] theorem State.learnImage_shadow : (s.learnImage x n f).1.shadow = s.shadow := by
  simp only [State.learnImage]; repeat' split
  all_goals simp
@[simp] theorem State.learnImage_controllers : (s.learnImage x n f).1.controllers = s.controllers := by
  simp only [State.learnImage]; repeat' split
  all_goals simp
@[simp] theorem State.learnImage_counters : (s.learnImage x n f).1.counters = s.counters := by
  simp only [State.learnImage]; repeat' split
  all_goals simp
@[simp] theorem State.learnImage_device : (s.learnImage x n f).1.device = s.device := by
  simp only [State.learnImage]; repeat' split
  all_goals simp
@[simp] theorem State.learnImage_history : (s.learnImage x n f).1.history = s.history := by
  simp only [State.learnImage]; repeat' split
  all_goals simp
@[simp] theorem State.learnImage_slots : (s.learnImage x n f).1.slots = s.slots := by
  simp only [State.learnImage]; repeat' split
  all_goals simp
@[simp] theorem State.learnImage_waiting : (s.learnImage x n f).1.waiting = s.waiting := by
  simp only [State.learnImage]; repeat' split
  all_goals simp
@[simp] theorem State.learnImage_lanes : (s.learnImage x n f).1.lanes = s.lanes := by
  simp only [State.learnImage]; repeat' split
  all_goals simp
@[simp] theorem State.learnImage_tagCounter : (s.learnImage x n f).1.tagCounter = s.tagCounter := by
  simp only [State.learnImage]; repeat' split
  all_goals simp
@[simp] theorem State.learnImage_round : (s.learnImage x n f).1.round = s.round := by
  simp only [State.learnImage]; repeat' split
  all_goals simp
@[simp] theorem State.learnImage_watches : (s.learnImage x n f).1.watches = s.watches := by
  simp only [State.learnImage]; repeat' split
  all_goals simp
@[simp] theorem State.learnImage_destination : (s.learnImage x n f).1.destination = s.destination := by
  simp only [State.learnImage]; repeat' split
  all_goals simp
@[simp] theorem State.learnImage_line : (s.learnImage x n f).1.line = s.line := by
  simp only [State.learnImage]; repeat' split
  all_goals simp
@[simp] theorem State.learnImage_stored : (s.learnImage x n f).1.stored = s.stored := by
  simp only [State.learnImage]; repeat' split
  all_goals simp
@[simp] theorem State.learnImage_writing : (s.learnImage x n f).1.writing = s.writing := by
  simp only [State.learnImage]; repeat' split
  all_goals simp
@[simp] theorem State.learnImage_restartPending : (s.learnImage x n f).1.restartPending = s.restartPending := by
  simp only [State.learnImage]; repeat' split
  all_goals simp
@[simp] theorem State.learnImage_lineClosed : (s.learnImage x n f).1.lineClosed = s.lineClosed := by
  simp only [State.learnImage]; repeat' split
  all_goals simp
@[simp] theorem State.learnImage_lineWaiting : (s.learnImage x n f).1.lineWaiting = s.lineWaiting := by
  simp only [State.learnImage]; repeat' split
  all_goals simp
@[simp] theorem State.learnImage_pending : (s.learnImage x n f).1.pending = s.pending := by
  simp only [State.learnImage]; repeat' split
  all_goals simp
@[simp] theorem State.learnImage_choices : (s.learnImage x n f).1.choices = s.choices := by
  simp only [State.learnImage]; repeat' split
  all_goals simp

end learnImage

section decideImage
variable (s : State) (x : Transfer) (n : Nat) (f : Quad)

@[simp] theorem State.decideImage_identity : (s.decideImage x n f).1.identity = s.identity := by
  simp only [State.decideImage]; repeat' split
  all_goals simp
@[simp] theorem State.decideImage_powered : (s.decideImage x n f).1.powered = s.powered := by
  simp only [State.decideImage]; repeat' split
  all_goals simp
@[simp] theorem State.decideImage_time : (s.decideImage x n f).1.time = s.time := by
  simp only [State.decideImage]; repeat' split
  all_goals simp
@[simp] theorem State.decideImage_timing : (s.decideImage x n f).1.timing = s.timing := by
  simp only [State.decideImage]; repeat' split
  all_goals simp
@[simp] theorem State.decideImage_fallback : (s.decideImage x n f).1.fallback = s.fallback := by
  simp only [State.decideImage]; repeat' split
  all_goals simp
@[simp] theorem State.decideImage_generation : (s.decideImage x n f).1.generation = s.generation := by
  simp only [State.decideImage]; repeat' split
  all_goals simp
@[simp] theorem State.decideImage_shadow : (s.decideImage x n f).1.shadow = s.shadow := by
  simp only [State.decideImage]; repeat' split
  all_goals simp
@[simp] theorem State.decideImage_controllers : (s.decideImage x n f).1.controllers = s.controllers := by
  simp only [State.decideImage]; repeat' split
  all_goals simp
@[simp] theorem State.decideImage_counters : (s.decideImage x n f).1.counters = s.counters := by
  simp only [State.decideImage]; repeat' split
  all_goals simp
@[simp] theorem State.decideImage_device : (s.decideImage x n f).1.device = s.device := by
  simp only [State.decideImage]; repeat' split
  all_goals simp
@[simp] theorem State.decideImage_history : (s.decideImage x n f).1.history = s.history := by
  simp only [State.decideImage]; repeat' split
  all_goals simp
@[simp] theorem State.decideImage_slots : (s.decideImage x n f).1.slots = s.slots := by
  simp only [State.decideImage]; repeat' split
  all_goals simp
@[simp] theorem State.decideImage_waiting : (s.decideImage x n f).1.waiting = s.waiting := by
  simp only [State.decideImage]; repeat' split
  all_goals simp
@[simp] theorem State.decideImage_lanes : (s.decideImage x n f).1.lanes = s.lanes := by
  simp only [State.decideImage]; repeat' split
  all_goals simp
@[simp] theorem State.decideImage_tagCounter : (s.decideImage x n f).1.tagCounter = s.tagCounter := by
  simp only [State.decideImage]; repeat' split
  all_goals simp
@[simp] theorem State.decideImage_round : (s.decideImage x n f).1.round = s.round := by
  simp only [State.decideImage]; repeat' split
  all_goals simp
@[simp] theorem State.decideImage_watches : (s.decideImage x n f).1.watches = s.watches := by
  simp only [State.decideImage]; repeat' split
  all_goals simp
@[simp] theorem State.decideImage_destination : (s.decideImage x n f).1.destination = s.destination := by
  simp only [State.decideImage]; repeat' split
  all_goals simp
@[simp] theorem State.decideImage_line : (s.decideImage x n f).1.line = s.line := by
  simp only [State.decideImage]; repeat' split
  all_goals simp
@[simp] theorem State.decideImage_stored : (s.decideImage x n f).1.stored = s.stored := by
  simp only [State.decideImage]; repeat' split
  all_goals simp
@[simp] theorem State.decideImage_writing : (s.decideImage x n f).1.writing = s.writing := by
  simp only [State.decideImage]; repeat' split
  all_goals simp
@[simp] theorem State.decideImage_restartPending : (s.decideImage x n f).1.restartPending = s.restartPending := by
  simp only [State.decideImage]; repeat' split
  all_goals simp
@[simp] theorem State.decideImage_lineClosed : (s.decideImage x n f).1.lineClosed = s.lineClosed := by
  simp only [State.decideImage]; repeat' split
  all_goals simp
@[simp] theorem State.decideImage_lineWaiting : (s.decideImage x n f).1.lineWaiting = s.lineWaiting := by
  simp only [State.decideImage]; repeat' split
  all_goals simp
@[simp] theorem State.decideImage_pending : (s.decideImage x n f).1.pending = s.pending := by
  simp only [State.decideImage]; repeat' split
  all_goals simp
@[simp] theorem State.decideImage_choices : (s.decideImage x n f).1.choices = s.choices := by
  simp only [State.decideImage]; repeat' split
  all_goals simp

end decideImage

section startTransfer
variable (s : State) (n : Fin 32) (k : Fin 8) (f : Frame) (c : ImageCheck)

@[simp] theorem State.startTransfer_identity : (s.startTransfer n k f c).identity = s.identity := by
  simp only [State.startTransfer]
  simp
@[simp] theorem State.startTransfer_powered : (s.startTransfer n k f c).powered = s.powered := by
  simp only [State.startTransfer]
  simp
@[simp] theorem State.startTransfer_time : (s.startTransfer n k f c).time = s.time := by
  simp only [State.startTransfer]
  simp
@[simp] theorem State.startTransfer_timing : (s.startTransfer n k f c).timing = s.timing := by
  simp only [State.startTransfer]
  simp
@[simp] theorem State.startTransfer_fallback : (s.startTransfer n k f c).fallback = s.fallback := by
  simp only [State.startTransfer]
  simp
@[simp] theorem State.startTransfer_generation : (s.startTransfer n k f c).generation = s.generation := by
  simp only [State.startTransfer]
  simp
@[simp] theorem State.startTransfer_active : (s.startTransfer n k f c).active = s.active := by
  simp only [State.startTransfer]
  simp
@[simp] theorem State.startTransfer_shadow : (s.startTransfer n k f c).shadow = s.shadow := by
  simp only [State.startTransfer]
  simp
@[simp] theorem State.startTransfer_history : (s.startTransfer n k f c).history = s.history := by
  simp only [State.startTransfer]
  simp
@[simp] theorem State.startTransfer_waiting : (s.startTransfer n k f c).waiting = s.waiting := by
  simp only [State.startTransfer]
  simp
@[simp] theorem State.startTransfer_lanes : (s.startTransfer n k f c).lanes = s.lanes := by
  simp only [State.startTransfer]
  simp
@[simp] theorem State.startTransfer_tagCounter : (s.startTransfer n k f c).tagCounter = s.tagCounter := by
  simp only [State.startTransfer]
  simp
@[simp] theorem State.startTransfer_round : (s.startTransfer n k f c).round = s.round := by
  simp only [State.startTransfer]
  simp
@[simp] theorem State.startTransfer_watches : (s.startTransfer n k f c).watches = s.watches := by
  simp only [State.startTransfer]
  simp
@[simp] theorem State.startTransfer_notices : (s.startTransfer n k f c).notices = s.notices := by
  simp only [State.startTransfer]
  simp
@[simp] theorem State.startTransfer_dropped : (s.startTransfer n k f c).dropped = s.dropped := by
  simp only [State.startTransfer]
  simp
@[simp] theorem State.startTransfer_destination : (s.startTransfer n k f c).destination = s.destination := by
  simp only [State.startTransfer]
  simp
@[simp] theorem State.startTransfer_plant : (s.startTransfer n k f c).plant = s.plant := by
  simp only [State.startTransfer]
  simp
@[simp] theorem State.startTransfer_stored : (s.startTransfer n k f c).stored = s.stored := by
  simp only [State.startTransfer]
  simp
@[simp] theorem State.startTransfer_writing : (s.startTransfer n k f c).writing = s.writing := by
  simp only [State.startTransfer]
  simp
@[simp] theorem State.startTransfer_restartPending : (s.startTransfer n k f c).restartPending = s.restartPending := by
  simp only [State.startTransfer]
  simp
@[simp] theorem State.startTransfer_lineClosed : (s.startTransfer n k f c).lineClosed = s.lineClosed := by
  simp only [State.startTransfer]
  simp
@[simp] theorem State.startTransfer_lineWaiting : (s.startTransfer n k f c).lineWaiting = s.lineWaiting := by
  simp only [State.startTransfer]
  simp
@[simp] theorem State.startTransfer_pending : (s.startTransfer n k f c).pending = s.pending := by
  simp only [State.startTransfer]
  simp
@[simp] theorem State.startTransfer_choices : (s.startTransfer n k f c).choices = s.choices := by
  simp only [State.startTransfer]
  simp

end startTransfer

section releaseCommit
variable (s : State) (k : Fin 8) (x : Transfer) (h : Frame) (f : Quad)

@[simp] theorem State.releaseCommit_identity : (s.releaseCommit k x h f).identity = s.identity := by
  simp only [State.releaseCommit]
  simp
@[simp] theorem State.releaseCommit_powered : (s.releaseCommit k x h f).powered = s.powered := by
  simp only [State.releaseCommit]
  simp
@[simp] theorem State.releaseCommit_time : (s.releaseCommit k x h f).time = s.time := by
  simp only [State.releaseCommit]
  simp
@[simp] theorem State.releaseCommit_timing : (s.releaseCommit k x h f).timing = s.timing := by
  simp only [State.releaseCommit]
  simp
@[simp] theorem State.releaseCommit_fallback : (s.releaseCommit k x h f).fallback = s.fallback := by
  simp only [State.releaseCommit]
  simp
@[simp] theorem State.releaseCommit_generation : (s.releaseCommit k x h f).generation = s.generation := by
  simp only [State.releaseCommit]
  simp
@[simp] theorem State.releaseCommit_active : (s.releaseCommit k x h f).active = s.active := by
  simp only [State.releaseCommit]
  simp
@[simp] theorem State.releaseCommit_shadow : (s.releaseCommit k x h f).shadow = s.shadow := by
  simp only [State.releaseCommit]
  simp
@[simp] theorem State.releaseCommit_history : (s.releaseCommit k x h f).history = s.history := by
  simp only [State.releaseCommit]
  simp
@[simp] theorem State.releaseCommit_waiting : (s.releaseCommit k x h f).waiting = s.waiting := by
  simp only [State.releaseCommit]
  simp
@[simp] theorem State.releaseCommit_lanes : (s.releaseCommit k x h f).lanes = s.lanes := by
  simp only [State.releaseCommit]
  simp
@[simp] theorem State.releaseCommit_tagCounter : (s.releaseCommit k x h f).tagCounter = s.tagCounter := by
  simp only [State.releaseCommit]
  simp
@[simp] theorem State.releaseCommit_round : (s.releaseCommit k x h f).round = s.round := by
  simp only [State.releaseCommit]
  simp
@[simp] theorem State.releaseCommit_watches : (s.releaseCommit k x h f).watches = s.watches := by
  simp only [State.releaseCommit]
  simp
@[simp] theorem State.releaseCommit_destination : (s.releaseCommit k x h f).destination = s.destination := by
  simp only [State.releaseCommit]
  simp
@[simp] theorem State.releaseCommit_stored : (s.releaseCommit k x h f).stored = s.stored := by
  simp only [State.releaseCommit]
  simp
@[simp] theorem State.releaseCommit_writing : (s.releaseCommit k x h f).writing = s.writing := by
  simp only [State.releaseCommit]
  simp
@[simp] theorem State.releaseCommit_restartPending : (s.releaseCommit k x h f).restartPending = s.restartPending := by
  simp only [State.releaseCommit]
  simp
@[simp] theorem State.releaseCommit_lineClosed : (s.releaseCommit k x h f).lineClosed = s.lineClosed := by
  simp only [State.releaseCommit]
  simp
@[simp] theorem State.releaseCommit_lineWaiting : (s.releaseCommit k x h f).lineWaiting = s.lineWaiting := by
  simp only [State.releaseCommit]
  simp
@[simp] theorem State.releaseCommit_pending : (s.releaseCommit k x h f).pending = s.pending := by
  simp only [State.releaseCommit]
  simp
@[simp] theorem State.releaseCommit_choices : (s.releaseCommit k x h f).choices = s.choices := by
  simp only [State.releaseCommit]
  simp

end releaseCommit

section refuseHeld
variable (s : State) (k : Fin 8) (x : Transfer) (h : Frame) (r : Reason)

@[simp] theorem State.refuseHeld_identity : (s.refuseHeld k x h r).identity = s.identity := by
  simp only [State.refuseHeld]
  simp
@[simp] theorem State.refuseHeld_powered : (s.refuseHeld k x h r).powered = s.powered := by
  simp only [State.refuseHeld]
  simp
@[simp] theorem State.refuseHeld_time : (s.refuseHeld k x h r).time = s.time := by
  simp only [State.refuseHeld]
  simp
@[simp] theorem State.refuseHeld_timing : (s.refuseHeld k x h r).timing = s.timing := by
  simp only [State.refuseHeld]
  simp
@[simp] theorem State.refuseHeld_fallback : (s.refuseHeld k x h r).fallback = s.fallback := by
  simp only [State.refuseHeld]
  simp
@[simp] theorem State.refuseHeld_generation : (s.refuseHeld k x h r).generation = s.generation := by
  simp only [State.refuseHeld]
  simp
@[simp] theorem State.refuseHeld_active : (s.refuseHeld k x h r).active = s.active := by
  simp only [State.refuseHeld]
  simp
@[simp] theorem State.refuseHeld_shadow : (s.refuseHeld k x h r).shadow = s.shadow := by
  simp only [State.refuseHeld]
  simp
@[simp] theorem State.refuseHeld_controllers : (s.refuseHeld k x h r).controllers = s.controllers := by
  simp only [State.refuseHeld]
  simp
@[simp] theorem State.refuseHeld_history : (s.refuseHeld k x h r).history = s.history := by
  simp only [State.refuseHeld]
  simp
@[simp] theorem State.refuseHeld_lanes : (s.refuseHeld k x h r).lanes = s.lanes := by
  simp only [State.refuseHeld]
  simp
@[simp] theorem State.refuseHeld_tagCounter : (s.refuseHeld k x h r).tagCounter = s.tagCounter := by
  simp only [State.refuseHeld]
  simp
@[simp] theorem State.refuseHeld_round : (s.refuseHeld k x h r).round = s.round := by
  simp only [State.refuseHeld]
  simp
@[simp] theorem State.refuseHeld_watches : (s.refuseHeld k x h r).watches = s.watches := by
  simp only [State.refuseHeld]
  simp
@[simp] theorem State.refuseHeld_destination : (s.refuseHeld k x h r).destination = s.destination := by
  simp only [State.refuseHeld]
  simp
@[simp] theorem State.refuseHeld_stored : (s.refuseHeld k x h r).stored = s.stored := by
  simp only [State.refuseHeld]
  simp
@[simp] theorem State.refuseHeld_writing : (s.refuseHeld k x h r).writing = s.writing := by
  simp only [State.refuseHeld]
  simp
@[simp] theorem State.refuseHeld_restartPending : (s.refuseHeld k x h r).restartPending = s.restartPending := by
  simp only [State.refuseHeld]
  simp
@[simp] theorem State.refuseHeld_lineClosed : (s.refuseHeld k x h r).lineClosed = s.lineClosed := by
  simp only [State.refuseHeld]
  simp
@[simp] theorem State.refuseHeld_lineWaiting : (s.refuseHeld k x h r).lineWaiting = s.lineWaiting := by
  simp only [State.refuseHeld]
  simp
@[simp] theorem State.refuseHeld_pending : (s.refuseHeld k x h r).pending = s.pending := by
  simp only [State.refuseHeld]
  simp
@[simp] theorem State.refuseHeld_choices : (s.refuseHeld k x h r).choices = s.choices := by
  simp only [State.refuseHeld]
  simp

end refuseHeld

/-- What a completion of VERIFYING keeps of every state it passes through, it keeps. -/
theorem State.completeVerifying_keeps {β : Type} (g : State → β)
    (hd : ∀ s x n f, g (State.decideImage s x n f).1 = g s) (hr : ∀ s k x h f, g (State.releaseCommit s k x h f) = g s)
    (hh : ∀ s k x h r, g (State.refuseHeld s k x h r) = g s) (hm : ∀ s n, g (State.reportMismatch s n) = g s)
    (he : ∀ s n b, g (State.transferEnded s n b) = g s) (s : State) (k : Fin 8) : g (s.completeVerifying k) = g s := by
  unfold State.completeVerifying
  split
  · rename_i x sums held _
    have hd' := hd s x sums.i (fingerprint sums sums.i)
    dsimp only
    split <;> rename_i h <;> rw [h] at hd' <;> simp_all
  · rfl


section completeVerifying
variable (s : State) (k : Fin 8)

@[simp] theorem State.completeVerifying_identity : (s.completeVerifying k).identity = s.identity := 
  State.completeVerifying_keeps State.identity (fun s => State.decideImage_identity s) (fun s => State.releaseCommit_identity s)
    (fun s => State.refuseHeld_identity s) (fun s => State.reportMismatch_identity s) (fun s => State.transferEnded_identity s) s k
@[simp] theorem State.completeVerifying_powered : (s.completeVerifying k).powered = s.powered := 
  State.completeVerifying_keeps State.powered (fun s => State.decideImage_powered s) (fun s => State.releaseCommit_powered s)
    (fun s => State.refuseHeld_powered s) (fun s => State.reportMismatch_powered s) (fun s => State.transferEnded_powered s) s k
@[simp] theorem State.completeVerifying_time : (s.completeVerifying k).time = s.time := 
  State.completeVerifying_keeps State.time (fun s => State.decideImage_time s) (fun s => State.releaseCommit_time s)
    (fun s => State.refuseHeld_time s) (fun s => State.reportMismatch_time s) (fun s => State.transferEnded_time s) s k
@[simp] theorem State.completeVerifying_timing : (s.completeVerifying k).timing = s.timing := 
  State.completeVerifying_keeps State.timing (fun s => State.decideImage_timing s) (fun s => State.releaseCommit_timing s)
    (fun s => State.refuseHeld_timing s) (fun s => State.reportMismatch_timing s) (fun s => State.transferEnded_timing s) s k
@[simp] theorem State.completeVerifying_fallback : (s.completeVerifying k).fallback = s.fallback := 
  State.completeVerifying_keeps State.fallback (fun s => State.decideImage_fallback s) (fun s => State.releaseCommit_fallback s)
    (fun s => State.refuseHeld_fallback s) (fun s => State.reportMismatch_fallback s) (fun s => State.transferEnded_fallback s) s k
@[simp] theorem State.completeVerifying_generation : (s.completeVerifying k).generation = s.generation := 
  State.completeVerifying_keeps State.generation (fun s => State.decideImage_generation s) (fun s => State.releaseCommit_generation s)
    (fun s => State.refuseHeld_generation s) (fun s => State.reportMismatch_generation s) (fun s => State.transferEnded_generation s) s k
@[simp] theorem State.completeVerifying_shadow : (s.completeVerifying k).shadow = s.shadow := 
  State.completeVerifying_keeps State.shadow (fun s => State.decideImage_shadow s) (fun s => State.releaseCommit_shadow s)
    (fun s => State.refuseHeld_shadow s) (fun s => State.reportMismatch_shadow s) (fun s => State.transferEnded_shadow s) s k
@[simp] theorem State.completeVerifying_history : (s.completeVerifying k).history = s.history := 
  State.completeVerifying_keeps State.history (fun s => State.decideImage_history s) (fun s => State.releaseCommit_history s)
    (fun s => State.refuseHeld_history s) (fun s => State.reportMismatch_history s) (fun s => State.transferEnded_history s) s k
@[simp] theorem State.completeVerifying_lanes : (s.completeVerifying k).lanes = s.lanes := 
  State.completeVerifying_keeps State.lanes (fun s => State.decideImage_lanes s) (fun s => State.releaseCommit_lanes s)
    (fun s => State.refuseHeld_lanes s) (fun s => State.reportMismatch_lanes s) (fun s => State.transferEnded_lanes s) s k
@[simp] theorem State.completeVerifying_tagCounter : (s.completeVerifying k).tagCounter = s.tagCounter := 
  State.completeVerifying_keeps State.tagCounter (fun s => State.decideImage_tagCounter s) (fun s => State.releaseCommit_tagCounter s)
    (fun s => State.refuseHeld_tagCounter s) (fun s => State.reportMismatch_tagCounter s) (fun s => State.transferEnded_tagCounter s) s k
@[simp] theorem State.completeVerifying_round : (s.completeVerifying k).round = s.round := 
  State.completeVerifying_keeps State.round (fun s => State.decideImage_round s) (fun s => State.releaseCommit_round s)
    (fun s => State.refuseHeld_round s) (fun s => State.reportMismatch_round s) (fun s => State.transferEnded_round s) s k
@[simp] theorem State.completeVerifying_watches : (s.completeVerifying k).watches = s.watches := 
  State.completeVerifying_keeps State.watches (fun s => State.decideImage_watches s) (fun s => State.releaseCommit_watches s)
    (fun s => State.refuseHeld_watches s) (fun s => State.reportMismatch_watches s) (fun s => State.transferEnded_watches s) s k
@[simp] theorem State.completeVerifying_destination : (s.completeVerifying k).destination = s.destination := 
  State.completeVerifying_keeps State.destination (fun s => State.decideImage_destination s) (fun s => State.releaseCommit_destination s)
    (fun s => State.refuseHeld_destination s) (fun s => State.reportMismatch_destination s) (fun s => State.transferEnded_destination s) s k
@[simp] theorem State.completeVerifying_stored : (s.completeVerifying k).stored = s.stored := 
  State.completeVerifying_keeps State.stored (fun s => State.decideImage_stored s) (fun s => State.releaseCommit_stored s)
    (fun s => State.refuseHeld_stored s) (fun s => State.reportMismatch_stored s) (fun s => State.transferEnded_stored s) s k
@[simp] theorem State.completeVerifying_writing : (s.completeVerifying k).writing = s.writing := 
  State.completeVerifying_keeps State.writing (fun s => State.decideImage_writing s) (fun s => State.releaseCommit_writing s)
    (fun s => State.refuseHeld_writing s) (fun s => State.reportMismatch_writing s) (fun s => State.transferEnded_writing s) s k
@[simp] theorem State.completeVerifying_restartPending : (s.completeVerifying k).restartPending = s.restartPending := 
  State.completeVerifying_keeps State.restartPending (fun s => State.decideImage_restartPending s) (fun s => State.releaseCommit_restartPending s)
    (fun s => State.refuseHeld_restartPending s) (fun s => State.reportMismatch_restartPending s) (fun s => State.transferEnded_restartPending s) s k
@[simp] theorem State.completeVerifying_lineClosed : (s.completeVerifying k).lineClosed = s.lineClosed := 
  State.completeVerifying_keeps State.lineClosed (fun s => State.decideImage_lineClosed s) (fun s => State.releaseCommit_lineClosed s)
    (fun s => State.refuseHeld_lineClosed s) (fun s => State.reportMismatch_lineClosed s) (fun s => State.transferEnded_lineClosed s) s k
@[simp] theorem State.completeVerifying_lineWaiting : (s.completeVerifying k).lineWaiting = s.lineWaiting := 
  State.completeVerifying_keeps State.lineWaiting (fun s => State.decideImage_lineWaiting s) (fun s => State.releaseCommit_lineWaiting s)
    (fun s => State.refuseHeld_lineWaiting s) (fun s => State.reportMismatch_lineWaiting s) (fun s => State.transferEnded_lineWaiting s) s k
@[simp] theorem State.completeVerifying_pending : (s.completeVerifying k).pending = s.pending := 
  State.completeVerifying_keeps State.pending (fun s => State.decideImage_pending s) (fun s => State.releaseCommit_pending s)
    (fun s => State.refuseHeld_pending s) (fun s => State.reportMismatch_pending s) (fun s => State.transferEnded_pending s) s k
@[simp] theorem State.completeVerifying_choices : (s.completeVerifying k).choices = s.choices := 
  State.completeVerifying_keeps State.choices (fun s => State.decideImage_choices s) (fun s => State.releaseCommit_choices s)
    (fun s => State.refuseHeld_choices s) (fun s => State.reportMismatch_choices s) (fun s => State.transferEnded_choices s) s k

end completeVerifying

section laneReports
variable (s : State) (w : LaneWork)

@[simp] theorem State.laneReports_identity : (s.laneReports w).identity = s.identity := by
  simp only [State.laneReports]; repeat' split
  all_goals simp
@[simp] theorem State.laneReports_powered : (s.laneReports w).powered = s.powered := by
  simp only [State.laneReports]; repeat' split
  all_goals simp
@[simp] theorem State.laneReports_time : (s.laneReports w).time = s.time := by
  simp only [State.laneReports]; repeat' split
  all_goals simp
@[simp] theorem State.laneReports_timing : (s.laneReports w).timing = s.timing := by
  simp only [State.laneReports]; repeat' split
  all_goals simp
@[simp] theorem State.laneReports_fallback : (s.laneReports w).fallback = s.fallback := by
  simp only [State.laneReports]; repeat' split
  all_goals simp
@[simp] theorem State.laneReports_generation : (s.laneReports w).generation = s.generation := by
  simp only [State.laneReports]; repeat' split
  all_goals simp
@[simp] theorem State.laneReports_shadow : (s.laneReports w).shadow = s.shadow := by
  simp only [State.laneReports]; repeat' split
  all_goals simp
@[simp] theorem State.laneReports_history : (s.laneReports w).history = s.history := by
  simp only [State.laneReports]; repeat' split
  all_goals simp
@[simp] theorem State.laneReports_lanes : (s.laneReports w).lanes = s.lanes := by
  simp only [State.laneReports]; repeat' split
  all_goals simp
@[simp] theorem State.laneReports_tagCounter : (s.laneReports w).tagCounter = s.tagCounter := by
  simp only [State.laneReports]; repeat' split
  all_goals simp
@[simp] theorem State.laneReports_round : (s.laneReports w).round = s.round := by
  simp only [State.laneReports]; repeat' split
  all_goals simp
@[simp] theorem State.laneReports_watches : (s.laneReports w).watches = s.watches := by
  simp only [State.laneReports]; repeat' split
  all_goals simp
@[simp] theorem State.laneReports_destination : (s.laneReports w).destination = s.destination := by
  simp only [State.laneReports]; repeat' split
  all_goals simp
@[simp] theorem State.laneReports_stored : (s.laneReports w).stored = s.stored := by
  simp only [State.laneReports]; repeat' split
  all_goals simp
@[simp] theorem State.laneReports_writing : (s.laneReports w).writing = s.writing := by
  simp only [State.laneReports]; repeat' split
  all_goals simp
@[simp] theorem State.laneReports_restartPending : (s.laneReports w).restartPending = s.restartPending := by
  simp only [State.laneReports]; repeat' split
  all_goals simp
@[simp] theorem State.laneReports_lineClosed : (s.laneReports w).lineClosed = s.lineClosed := by
  simp only [State.laneReports]; repeat' split
  all_goals simp
@[simp] theorem State.laneReports_lineWaiting : (s.laneReports w).lineWaiting = s.lineWaiting := by
  simp only [State.laneReports]; repeat' split
  all_goals simp
@[simp] theorem State.laneReports_pending : (s.laneReports w).pending = s.pending := by
  simp only [State.laneReports]; repeat' split
  all_goals simp
@[simp] theorem State.laneReports_choices : (s.laneReports w).choices = s.choices := by
  simp only [State.laneReports]; repeat' split
  all_goals simp

end laneReports

section finishLane
variable (s : State) (l : Fin 2)

@[simp] theorem State.finishLane_identity : (s.finishLane l).identity = s.identity := by
  simp only [State.finishLane]; repeat' split
  all_goals simp
@[simp] theorem State.finishLane_powered : (s.finishLane l).powered = s.powered := by
  simp only [State.finishLane]; repeat' split
  all_goals simp
@[simp] theorem State.finishLane_time : (s.finishLane l).time = s.time := by
  simp only [State.finishLane]; repeat' split
  all_goals simp
@[simp] theorem State.finishLane_timing : (s.finishLane l).timing = s.timing := by
  simp only [State.finishLane]; repeat' split
  all_goals simp
@[simp] theorem State.finishLane_fallback : (s.finishLane l).fallback = s.fallback := by
  simp only [State.finishLane]; repeat' split
  all_goals simp
@[simp] theorem State.finishLane_generation : (s.finishLane l).generation = s.generation := by
  simp only [State.finishLane]; repeat' split
  all_goals simp
@[simp] theorem State.finishLane_shadow : (s.finishLane l).shadow = s.shadow := by
  simp only [State.finishLane]; repeat' split
  all_goals simp
@[simp] theorem State.finishLane_history : (s.finishLane l).history = s.history := by
  simp only [State.finishLane]; repeat' split
  all_goals simp
@[simp] theorem State.finishLane_tagCounter : (s.finishLane l).tagCounter = s.tagCounter := by
  simp only [State.finishLane]; repeat' split
  all_goals simp
@[simp] theorem State.finishLane_round : (s.finishLane l).round = s.round := by
  simp only [State.finishLane]; repeat' split
  all_goals simp
@[simp] theorem State.finishLane_watches : (s.finishLane l).watches = s.watches := by
  simp only [State.finishLane]; repeat' split
  all_goals simp
@[simp] theorem State.finishLane_destination : (s.finishLane l).destination = s.destination := by
  simp only [State.finishLane]; repeat' split
  all_goals simp
@[simp] theorem State.finishLane_stored : (s.finishLane l).stored = s.stored := by
  simp only [State.finishLane]; repeat' split
  all_goals simp
@[simp] theorem State.finishLane_writing : (s.finishLane l).writing = s.writing := by
  simp only [State.finishLane]; repeat' split
  all_goals simp
@[simp] theorem State.finishLane_restartPending : (s.finishLane l).restartPending = s.restartPending := by
  simp only [State.finishLane]; repeat' split
  all_goals simp
@[simp] theorem State.finishLane_lineClosed : (s.finishLane l).lineClosed = s.lineClosed := by
  simp only [State.finishLane]; repeat' split
  all_goals simp
@[simp] theorem State.finishLane_lineWaiting : (s.finishLane l).lineWaiting = s.lineWaiting := by
  simp only [State.finishLane]; repeat' split
  all_goals simp
@[simp] theorem State.finishLane_pending : (s.finishLane l).pending = s.pending := by
  simp only [State.finishLane]; repeat' split
  all_goals simp
@[simp] theorem State.finishLane_choices : (s.finishLane l).choices = s.choices := by
  simp only [State.finishLane]; repeat' split
  all_goals simp

end finishLane

section refuseAndAbort
variable (s : State) (n : Fin 32) (k : Fin 8) (o : Operation) (f : Frame) (r : Reason)

@[simp] theorem State.refuseAndAbort_identity : (s.refuseAndAbort n k o f r).identity = s.identity := by
  simp only [State.refuseAndAbort]
  simp
@[simp] theorem State.refuseAndAbort_powered : (s.refuseAndAbort n k o f r).powered = s.powered := by
  simp only [State.refuseAndAbort]
  simp
@[simp] theorem State.refuseAndAbort_time : (s.refuseAndAbort n k o f r).time = s.time := by
  simp only [State.refuseAndAbort]
  simp
@[simp] theorem State.refuseAndAbort_timing : (s.refuseAndAbort n k o f r).timing = s.timing := by
  simp only [State.refuseAndAbort]
  simp
@[simp] theorem State.refuseAndAbort_fallback : (s.refuseAndAbort n k o f r).fallback = s.fallback := by
  simp only [State.refuseAndAbort]
  simp
@[simp] theorem State.refuseAndAbort_generation : (s.refuseAndAbort n k o f r).generation = s.generation := by
  simp only [State.refuseAndAbort]
  simp
@[simp] theorem State.refuseAndAbort_active : (s.refuseAndAbort n k o f r).active = s.active := by
  simp only [State.refuseAndAbort]
  simp
@[simp] theorem State.refuseAndAbort_shadow : (s.refuseAndAbort n k o f r).shadow = s.shadow := by
  simp only [State.refuseAndAbort]
  simp
@[simp] theorem State.refuseAndAbort_history : (s.refuseAndAbort n k o f r).history = s.history := by
  simp only [State.refuseAndAbort]
  simp
@[simp] theorem State.refuseAndAbort_lanes : (s.refuseAndAbort n k o f r).lanes = s.lanes := by
  simp only [State.refuseAndAbort]
  simp
@[simp] theorem State.refuseAndAbort_tagCounter : (s.refuseAndAbort n k o f r).tagCounter = s.tagCounter := by
  simp only [State.refuseAndAbort]
  simp
@[simp] theorem State.refuseAndAbort_round : (s.refuseAndAbort n k o f r).round = s.round := by
  simp only [State.refuseAndAbort]
  simp
@[simp] theorem State.refuseAndAbort_watches : (s.refuseAndAbort n k o f r).watches = s.watches := by
  simp only [State.refuseAndAbort]
  simp
@[simp] theorem State.refuseAndAbort_destination : (s.refuseAndAbort n k o f r).destination = s.destination := by
  simp only [State.refuseAndAbort]
  simp
@[simp] theorem State.refuseAndAbort_stored : (s.refuseAndAbort n k o f r).stored = s.stored := by
  simp only [State.refuseAndAbort]
  simp
@[simp] theorem State.refuseAndAbort_writing : (s.refuseAndAbort n k o f r).writing = s.writing := by
  simp only [State.refuseAndAbort]
  simp
@[simp] theorem State.refuseAndAbort_restartPending : (s.refuseAndAbort n k o f r).restartPending = s.restartPending := by
  simp only [State.refuseAndAbort]
  simp
@[simp] theorem State.refuseAndAbort_lineClosed : (s.refuseAndAbort n k o f r).lineClosed = s.lineClosed := by
  simp only [State.refuseAndAbort]
  simp
@[simp] theorem State.refuseAndAbort_lineWaiting : (s.refuseAndAbort n k o f r).lineWaiting = s.lineWaiting := by
  simp only [State.refuseAndAbort]
  simp
@[simp] theorem State.refuseAndAbort_pending : (s.refuseAndAbort n k o f r).pending = s.pending := by
  simp only [State.refuseAndAbort]
  simp
@[simp] theorem State.refuseAndAbort_choices : (s.refuseAndAbort n k o f r).choices = s.choices := by
  simp only [State.refuseAndAbort]
  simp

end refuseAndAbort

section newSegment
variable (s : State) (n : Fin 32) (k : Fin 8) (x : Transfer) (a : Sums) (p : Nat) (q : Intake) (f : Frame)

@[simp] theorem State.newSegment_identity : (s.newSegment n k x a p q f).1.identity = s.identity := by
  simp only [State.newSegment]; repeat' split
  all_goals simp
@[simp] theorem State.newSegment_powered : (s.newSegment n k x a p q f).1.powered = s.powered := by
  simp only [State.newSegment]; repeat' split
  all_goals simp
@[simp] theorem State.newSegment_time : (s.newSegment n k x a p q f).1.time = s.time := by
  simp only [State.newSegment]; repeat' split
  all_goals simp
@[simp] theorem State.newSegment_timing : (s.newSegment n k x a p q f).1.timing = s.timing := by
  simp only [State.newSegment]; repeat' split
  all_goals simp
@[simp] theorem State.newSegment_fallback : (s.newSegment n k x a p q f).1.fallback = s.fallback := by
  simp only [State.newSegment]; repeat' split
  all_goals simp
@[simp] theorem State.newSegment_generation : (s.newSegment n k x a p q f).1.generation = s.generation := by
  simp only [State.newSegment]; repeat' split
  all_goals simp
@[simp] theorem State.newSegment_active : (s.newSegment n k x a p q f).1.active = s.active := by
  simp only [State.newSegment]; repeat' split
  all_goals simp
@[simp] theorem State.newSegment_shadow : (s.newSegment n k x a p q f).1.shadow = s.shadow := by
  simp only [State.newSegment]; repeat' split
  all_goals simp
@[simp] theorem State.newSegment_history : (s.newSegment n k x a p q f).1.history = s.history := by
  simp only [State.newSegment]; repeat' split
  all_goals simp
@[simp] theorem State.newSegment_tagCounter : (s.newSegment n k x a p q f).1.tagCounter = s.tagCounter := by
  simp only [State.newSegment]; repeat' split
  all_goals simp
@[simp] theorem State.newSegment_round : (s.newSegment n k x a p q f).1.round = s.round := by
  simp only [State.newSegment]; repeat' split
  all_goals simp
@[simp] theorem State.newSegment_watches : (s.newSegment n k x a p q f).1.watches = s.watches := by
  simp only [State.newSegment]; repeat' split
  all_goals simp
@[simp] theorem State.newSegment_destination : (s.newSegment n k x a p q f).1.destination = s.destination := by
  simp only [State.newSegment]; repeat' split
  all_goals simp
@[simp] theorem State.newSegment_stored : (s.newSegment n k x a p q f).1.stored = s.stored := by
  simp only [State.newSegment]; repeat' split
  all_goals simp
@[simp] theorem State.newSegment_writing : (s.newSegment n k x a p q f).1.writing = s.writing := by
  simp only [State.newSegment]; repeat' split
  all_goals simp
@[simp] theorem State.newSegment_restartPending : (s.newSegment n k x a p q f).1.restartPending = s.restartPending := by
  simp only [State.newSegment]; repeat' split
  all_goals simp
@[simp] theorem State.newSegment_lineClosed : (s.newSegment n k x a p q f).1.lineClosed = s.lineClosed := by
  simp only [State.newSegment]; repeat' split
  all_goals simp
@[simp] theorem State.newSegment_lineWaiting : (s.newSegment n k x a p q f).1.lineWaiting = s.lineWaiting := by
  simp only [State.newSegment]; repeat' split
  all_goals simp
@[simp] theorem State.newSegment_pending : (s.newSegment n k x a p q f).1.pending = s.pending := by
  simp only [State.newSegment]; repeat' split
  all_goals simp
@[simp] theorem State.newSegment_choices : (s.newSegment n k x a p q f).1.choices = s.choices := by
  simp only [State.newSegment]; repeat' split
  all_goals simp

end newSegment

section sequenceSegment
variable (s : State) (n : Fin 32) (k : Fin 8) (x : Transfer) (a : Sums) (p : Nat) (q : Intake) (f : Frame)

@[simp] theorem State.sequenceSegment_identity : (s.sequenceSegment n k x a p q f).1.identity = s.identity := by
  simp only [State.sequenceSegment]; repeat' split
  all_goals simp
@[simp] theorem State.sequenceSegment_powered : (s.sequenceSegment n k x a p q f).1.powered = s.powered := by
  simp only [State.sequenceSegment]; repeat' split
  all_goals simp
@[simp] theorem State.sequenceSegment_time : (s.sequenceSegment n k x a p q f).1.time = s.time := by
  simp only [State.sequenceSegment]; repeat' split
  all_goals simp
@[simp] theorem State.sequenceSegment_timing : (s.sequenceSegment n k x a p q f).1.timing = s.timing := by
  simp only [State.sequenceSegment]; repeat' split
  all_goals simp
@[simp] theorem State.sequenceSegment_fallback : (s.sequenceSegment n k x a p q f).1.fallback = s.fallback := by
  simp only [State.sequenceSegment]; repeat' split
  all_goals simp
@[simp] theorem State.sequenceSegment_generation : (s.sequenceSegment n k x a p q f).1.generation = s.generation := by
  simp only [State.sequenceSegment]; repeat' split
  all_goals simp
@[simp] theorem State.sequenceSegment_active : (s.sequenceSegment n k x a p q f).1.active = s.active := by
  simp only [State.sequenceSegment]; repeat' split
  all_goals simp
@[simp] theorem State.sequenceSegment_shadow : (s.sequenceSegment n k x a p q f).1.shadow = s.shadow := by
  simp only [State.sequenceSegment]; repeat' split
  all_goals simp
@[simp] theorem State.sequenceSegment_history : (s.sequenceSegment n k x a p q f).1.history = s.history := by
  simp only [State.sequenceSegment]; repeat' split
  all_goals simp
@[simp] theorem State.sequenceSegment_tagCounter : (s.sequenceSegment n k x a p q f).1.tagCounter = s.tagCounter := by
  simp only [State.sequenceSegment]; repeat' split
  all_goals simp
@[simp] theorem State.sequenceSegment_round : (s.sequenceSegment n k x a p q f).1.round = s.round := by
  simp only [State.sequenceSegment]; repeat' split
  all_goals simp
@[simp] theorem State.sequenceSegment_watches : (s.sequenceSegment n k x a p q f).1.watches = s.watches := by
  simp only [State.sequenceSegment]; repeat' split
  all_goals simp
@[simp] theorem State.sequenceSegment_destination : (s.sequenceSegment n k x a p q f).1.destination = s.destination := by
  simp only [State.sequenceSegment]; repeat' split
  all_goals simp
@[simp] theorem State.sequenceSegment_stored : (s.sequenceSegment n k x a p q f).1.stored = s.stored := by
  simp only [State.sequenceSegment]; repeat' split
  all_goals simp
@[simp] theorem State.sequenceSegment_writing : (s.sequenceSegment n k x a p q f).1.writing = s.writing := by
  simp only [State.sequenceSegment]; repeat' split
  all_goals simp
@[simp] theorem State.sequenceSegment_restartPending : (s.sequenceSegment n k x a p q f).1.restartPending = s.restartPending := by
  simp only [State.sequenceSegment]; repeat' split
  all_goals simp
@[simp] theorem State.sequenceSegment_lineClosed : (s.sequenceSegment n k x a p q f).1.lineClosed = s.lineClosed := by
  simp only [State.sequenceSegment]; repeat' split
  all_goals simp
@[simp] theorem State.sequenceSegment_lineWaiting : (s.sequenceSegment n k x a p q f).1.lineWaiting = s.lineWaiting := by
  simp only [State.sequenceSegment]; repeat' split
  all_goals simp
@[simp] theorem State.sequenceSegment_pending : (s.sequenceSegment n k x a p q f).1.pending = s.pending := by
  simp only [State.sequenceSegment]; repeat' split
  all_goals simp
@[simp] theorem State.sequenceSegment_choices : (s.sequenceSegment n k x a p q f).1.choices = s.choices := by
  simp only [State.sequenceSegment]; repeat' split
  all_goals simp

end sequenceSegment

section segmentAt
variable (s : State) (n : Fin 32) (k : Fin 8) (f : Frame)

@[simp] theorem State.segmentAt_identity : (s.segmentAt n k f).1.identity = s.identity := by
  simp only [State.segmentAt]; repeat' split
  all_goals simp
@[simp] theorem State.segmentAt_powered : (s.segmentAt n k f).1.powered = s.powered := by
  simp only [State.segmentAt]; repeat' split
  all_goals simp
@[simp] theorem State.segmentAt_time : (s.segmentAt n k f).1.time = s.time := by
  simp only [State.segmentAt]; repeat' split
  all_goals simp
@[simp] theorem State.segmentAt_timing : (s.segmentAt n k f).1.timing = s.timing := by
  simp only [State.segmentAt]; repeat' split
  all_goals simp
@[simp] theorem State.segmentAt_fallback : (s.segmentAt n k f).1.fallback = s.fallback := by
  simp only [State.segmentAt]; repeat' split
  all_goals simp
@[simp] theorem State.segmentAt_generation : (s.segmentAt n k f).1.generation = s.generation := by
  simp only [State.segmentAt]; repeat' split
  all_goals simp
@[simp] theorem State.segmentAt_active : (s.segmentAt n k f).1.active = s.active := by
  simp only [State.segmentAt]; repeat' split
  all_goals simp
@[simp] theorem State.segmentAt_shadow : (s.segmentAt n k f).1.shadow = s.shadow := by
  simp only [State.segmentAt]; repeat' split
  all_goals simp
@[simp] theorem State.segmentAt_history : (s.segmentAt n k f).1.history = s.history := by
  simp only [State.segmentAt]; repeat' split
  all_goals simp
@[simp] theorem State.segmentAt_tagCounter : (s.segmentAt n k f).1.tagCounter = s.tagCounter := by
  simp only [State.segmentAt]; repeat' split
  all_goals simp
@[simp] theorem State.segmentAt_round : (s.segmentAt n k f).1.round = s.round := by
  simp only [State.segmentAt]; repeat' split
  all_goals simp
@[simp] theorem State.segmentAt_watches : (s.segmentAt n k f).1.watches = s.watches := by
  simp only [State.segmentAt]; repeat' split
  all_goals simp
@[simp] theorem State.segmentAt_destination : (s.segmentAt n k f).1.destination = s.destination := by
  simp only [State.segmentAt]; repeat' split
  all_goals simp
@[simp] theorem State.segmentAt_stored : (s.segmentAt n k f).1.stored = s.stored := by
  simp only [State.segmentAt]; repeat' split
  all_goals simp
@[simp] theorem State.segmentAt_writing : (s.segmentAt n k f).1.writing = s.writing := by
  simp only [State.segmentAt]; repeat' split
  all_goals simp
@[simp] theorem State.segmentAt_restartPending : (s.segmentAt n k f).1.restartPending = s.restartPending := by
  simp only [State.segmentAt]; repeat' split
  all_goals simp
@[simp] theorem State.segmentAt_lineClosed : (s.segmentAt n k f).1.lineClosed = s.lineClosed := by
  simp only [State.segmentAt]; repeat' split
  all_goals simp
@[simp] theorem State.segmentAt_lineWaiting : (s.segmentAt n k f).1.lineWaiting = s.lineWaiting := by
  simp only [State.segmentAt]; repeat' split
  all_goals simp
@[simp] theorem State.segmentAt_pending : (s.segmentAt n k f).1.pending = s.pending := by
  simp only [State.segmentAt]; repeat' split
  all_goals simp
@[simp] theorem State.segmentAt_choices : (s.segmentAt n k f).1.choices = s.choices := by
  simp only [State.segmentAt]; repeat' split
  all_goals simp

end segmentAt

section commitAt
variable (s : State) (n : Fin 32) (k : Fin 8) (f : Frame)

@[simp] theorem State.commitAt_identity : (s.commitAt n k f).1.identity = s.identity := by
  simp only [State.commitAt]; repeat' split
  all_goals simp
@[simp] theorem State.commitAt_powered : (s.commitAt n k f).1.powered = s.powered := by
  simp only [State.commitAt]; repeat' split
  all_goals simp
@[simp] theorem State.commitAt_time : (s.commitAt n k f).1.time = s.time := by
  simp only [State.commitAt]; repeat' split
  all_goals simp
@[simp] theorem State.commitAt_timing : (s.commitAt n k f).1.timing = s.timing := by
  simp only [State.commitAt]; repeat' split
  all_goals simp
@[simp] theorem State.commitAt_fallback : (s.commitAt n k f).1.fallback = s.fallback := by
  simp only [State.commitAt]; repeat' split
  all_goals simp
@[simp] theorem State.commitAt_generation : (s.commitAt n k f).1.generation = s.generation := by
  simp only [State.commitAt]; repeat' split
  all_goals simp
@[simp] theorem State.commitAt_shadow : (s.commitAt n k f).1.shadow = s.shadow := by
  simp only [State.commitAt]; repeat' split
  all_goals simp
@[simp] theorem State.commitAt_history : (s.commitAt n k f).1.history = s.history := by
  simp only [State.commitAt]; repeat' split
  all_goals simp
@[simp] theorem State.commitAt_lanes : (s.commitAt n k f).1.lanes = s.lanes := by
  simp only [State.commitAt]; repeat' split
  all_goals simp
@[simp] theorem State.commitAt_tagCounter : (s.commitAt n k f).1.tagCounter = s.tagCounter := by
  simp only [State.commitAt]; repeat' split
  all_goals simp
@[simp] theorem State.commitAt_round : (s.commitAt n k f).1.round = s.round := by
  simp only [State.commitAt]; repeat' split
  all_goals simp
@[simp] theorem State.commitAt_watches : (s.commitAt n k f).1.watches = s.watches := by
  simp only [State.commitAt]; repeat' split
  all_goals simp
@[simp] theorem State.commitAt_destination : (s.commitAt n k f).1.destination = s.destination := by
  simp only [State.commitAt]; repeat' split
  all_goals simp
@[simp] theorem State.commitAt_stored : (s.commitAt n k f).1.stored = s.stored := by
  simp only [State.commitAt]; repeat' split
  all_goals simp
@[simp] theorem State.commitAt_writing : (s.commitAt n k f).1.writing = s.writing := by
  simp only [State.commitAt]; repeat' split
  all_goals simp
@[simp] theorem State.commitAt_restartPending : (s.commitAt n k f).1.restartPending = s.restartPending := by
  simp only [State.commitAt]; repeat' split
  all_goals simp
@[simp] theorem State.commitAt_lineClosed : (s.commitAt n k f).1.lineClosed = s.lineClosed := by
  simp only [State.commitAt]; repeat' split
  all_goals simp
@[simp] theorem State.commitAt_lineWaiting : (s.commitAt n k f).1.lineWaiting = s.lineWaiting := by
  simp only [State.commitAt]; repeat' split
  all_goals simp
@[simp] theorem State.commitAt_pending : (s.commitAt n k f).1.pending = s.pending := by
  simp only [State.commitAt]; repeat' split
  all_goals simp
@[simp] theorem State.commitAt_choices : (s.commitAt n k f).1.choices = s.choices := by
  simp only [State.commitAt]; repeat' split
  all_goals simp

end commitAt

section abandonAt
variable (s : State) (n : Fin 32) (k : Fin 8) (f : Frame)

@[simp] theorem State.abandonAt_identity : (s.abandonAt n k f).1.identity = s.identity := by
  simp only [State.abandonAt]; repeat' split
  all_goals simp
@[simp] theorem State.abandonAt_powered : (s.abandonAt n k f).1.powered = s.powered := by
  simp only [State.abandonAt]; repeat' split
  all_goals simp
@[simp] theorem State.abandonAt_time : (s.abandonAt n k f).1.time = s.time := by
  simp only [State.abandonAt]; repeat' split
  all_goals simp
@[simp] theorem State.abandonAt_timing : (s.abandonAt n k f).1.timing = s.timing := by
  simp only [State.abandonAt]; repeat' split
  all_goals simp
@[simp] theorem State.abandonAt_fallback : (s.abandonAt n k f).1.fallback = s.fallback := by
  simp only [State.abandonAt]; repeat' split
  all_goals simp
@[simp] theorem State.abandonAt_generation : (s.abandonAt n k f).1.generation = s.generation := by
  simp only [State.abandonAt]; repeat' split
  all_goals simp
@[simp] theorem State.abandonAt_active : (s.abandonAt n k f).1.active = s.active := by
  simp only [State.abandonAt]; repeat' split
  all_goals simp
@[simp] theorem State.abandonAt_shadow : (s.abandonAt n k f).1.shadow = s.shadow := by
  simp only [State.abandonAt]; repeat' split
  all_goals simp
@[simp] theorem State.abandonAt_counters : (s.abandonAt n k f).1.counters = s.counters := by
  simp only [State.abandonAt]; repeat' split
  all_goals simp
@[simp] theorem State.abandonAt_history : (s.abandonAt n k f).1.history = s.history := by
  simp only [State.abandonAt]; repeat' split
  all_goals simp
@[simp] theorem State.abandonAt_lanes : (s.abandonAt n k f).1.lanes = s.lanes := by
  simp only [State.abandonAt]; repeat' split
  all_goals simp
@[simp] theorem State.abandonAt_tagCounter : (s.abandonAt n k f).1.tagCounter = s.tagCounter := by
  simp only [State.abandonAt]; repeat' split
  all_goals simp
@[simp] theorem State.abandonAt_round : (s.abandonAt n k f).1.round = s.round := by
  simp only [State.abandonAt]; repeat' split
  all_goals simp
@[simp] theorem State.abandonAt_watches : (s.abandonAt n k f).1.watches = s.watches := by
  simp only [State.abandonAt]; repeat' split
  all_goals simp
@[simp] theorem State.abandonAt_destination : (s.abandonAt n k f).1.destination = s.destination := by
  simp only [State.abandonAt]; repeat' split
  all_goals simp
@[simp] theorem State.abandonAt_stored : (s.abandonAt n k f).1.stored = s.stored := by
  simp only [State.abandonAt]; repeat' split
  all_goals simp
@[simp] theorem State.abandonAt_writing : (s.abandonAt n k f).1.writing = s.writing := by
  simp only [State.abandonAt]; repeat' split
  all_goals simp
@[simp] theorem State.abandonAt_restartPending : (s.abandonAt n k f).1.restartPending = s.restartPending := by
  simp only [State.abandonAt]; repeat' split
  all_goals simp
@[simp] theorem State.abandonAt_lineClosed : (s.abandonAt n k f).1.lineClosed = s.lineClosed := by
  simp only [State.abandonAt]; repeat' split
  all_goals simp
@[simp] theorem State.abandonAt_lineWaiting : (s.abandonAt n k f).1.lineWaiting = s.lineWaiting := by
  simp only [State.abandonAt]; repeat' split
  all_goals simp
@[simp] theorem State.abandonAt_pending : (s.abandonAt n k f).1.pending = s.pending := by
  simp only [State.abandonAt]; repeat' split
  all_goals simp
@[simp] theorem State.abandonAt_choices : (s.abandonAt n k f).1.choices = s.choices := by
  simp only [State.abandonAt]; repeat' split
  all_goals simp

end abandonAt

section takeBeginResponse
variable (s : State) (n : Fin 32) (k : Fin 8) (v : Nat)

@[simp] theorem State.takeBeginResponse_identity : (s.takeBeginResponse n k v).identity = s.identity := by
  simp only [State.takeBeginResponse]; repeat' split
  all_goals simp
@[simp] theorem State.takeBeginResponse_powered : (s.takeBeginResponse n k v).powered = s.powered := by
  simp only [State.takeBeginResponse]; repeat' split
  all_goals simp
@[simp] theorem State.takeBeginResponse_time : (s.takeBeginResponse n k v).time = s.time := by
  simp only [State.takeBeginResponse]; repeat' split
  all_goals simp
@[simp] theorem State.takeBeginResponse_timing : (s.takeBeginResponse n k v).timing = s.timing := by
  simp only [State.takeBeginResponse]; repeat' split
  all_goals simp
@[simp] theorem State.takeBeginResponse_fallback : (s.takeBeginResponse n k v).fallback = s.fallback := by
  simp only [State.takeBeginResponse]; repeat' split
  all_goals simp
@[simp] theorem State.takeBeginResponse_generation : (s.takeBeginResponse n k v).generation = s.generation := by
  simp only [State.takeBeginResponse]; repeat' split
  all_goals simp
@[simp] theorem State.takeBeginResponse_active : (s.takeBeginResponse n k v).active = s.active := by
  simp only [State.takeBeginResponse]; repeat' split
  all_goals simp
@[simp] theorem State.takeBeginResponse_shadow : (s.takeBeginResponse n k v).shadow = s.shadow := by
  simp only [State.takeBeginResponse]; repeat' split
  all_goals simp
@[simp] theorem State.takeBeginResponse_counters : (s.takeBeginResponse n k v).counters = s.counters := by
  simp only [State.takeBeginResponse]; repeat' split
  all_goals simp
@[simp] theorem State.takeBeginResponse_history : (s.takeBeginResponse n k v).history = s.history := by
  simp only [State.takeBeginResponse]; repeat' split
  all_goals simp
@[simp] theorem State.takeBeginResponse_lanes : (s.takeBeginResponse n k v).lanes = s.lanes := by
  simp only [State.takeBeginResponse]; repeat' split
  all_goals simp
@[simp] theorem State.takeBeginResponse_tagCounter : (s.takeBeginResponse n k v).tagCounter = s.tagCounter := by
  simp only [State.takeBeginResponse]; repeat' split
  all_goals simp
@[simp] theorem State.takeBeginResponse_round : (s.takeBeginResponse n k v).round = s.round := by
  simp only [State.takeBeginResponse]; repeat' split
  all_goals simp
@[simp] theorem State.takeBeginResponse_watches : (s.takeBeginResponse n k v).watches = s.watches := by
  simp only [State.takeBeginResponse]; repeat' split
  all_goals simp
@[simp] theorem State.takeBeginResponse_destination : (s.takeBeginResponse n k v).destination = s.destination := by
  simp only [State.takeBeginResponse]; repeat' split
  all_goals simp
@[simp] theorem State.takeBeginResponse_stored : (s.takeBeginResponse n k v).stored = s.stored := by
  simp only [State.takeBeginResponse]; repeat' split
  all_goals simp
@[simp] theorem State.takeBeginResponse_writing : (s.takeBeginResponse n k v).writing = s.writing := by
  simp only [State.takeBeginResponse]; repeat' split
  all_goals simp
@[simp] theorem State.takeBeginResponse_restartPending : (s.takeBeginResponse n k v).restartPending = s.restartPending := by
  simp only [State.takeBeginResponse]; repeat' split
  all_goals simp
@[simp] theorem State.takeBeginResponse_lineClosed : (s.takeBeginResponse n k v).lineClosed = s.lineClosed := by
  simp only [State.takeBeginResponse]; repeat' split
  all_goals simp
@[simp] theorem State.takeBeginResponse_lineWaiting : (s.takeBeginResponse n k v).lineWaiting = s.lineWaiting := by
  simp only [State.takeBeginResponse]; repeat' split
  all_goals simp
@[simp] theorem State.takeBeginResponse_pending : (s.takeBeginResponse n k v).pending = s.pending := by
  simp only [State.takeBeginResponse]; repeat' split
  all_goals simp
@[simp] theorem State.takeBeginResponse_choices : (s.takeBeginResponse n k v).choices = s.choices := by
  simp only [State.takeBeginResponse]; repeat' split
  all_goals simp

end takeBeginResponse

section endReleased
variable (s : State) (k : Fin 8) (n : Option (NoticeKind × Option Quad))

@[simp] theorem State.endReleased_identity : (s.endReleased k n).identity = s.identity := by
  simp only [State.endReleased]; repeat' split
  all_goals simp
@[simp] theorem State.endReleased_powered : (s.endReleased k n).powered = s.powered := by
  simp only [State.endReleased]; repeat' split
  all_goals simp
@[simp] theorem State.endReleased_time : (s.endReleased k n).time = s.time := by
  simp only [State.endReleased]; repeat' split
  all_goals simp
@[simp] theorem State.endReleased_timing : (s.endReleased k n).timing = s.timing := by
  simp only [State.endReleased]; repeat' split
  all_goals simp
@[simp] theorem State.endReleased_fallback : (s.endReleased k n).fallback = s.fallback := by
  simp only [State.endReleased]; repeat' split
  all_goals simp
@[simp] theorem State.endReleased_generation : (s.endReleased k n).generation = s.generation := by
  simp only [State.endReleased]; repeat' split
  all_goals simp
@[simp] theorem State.endReleased_active : (s.endReleased k n).active = s.active := by
  simp only [State.endReleased]; repeat' split
  all_goals simp
@[simp] theorem State.endReleased_shadow : (s.endReleased k n).shadow = s.shadow := by
  simp only [State.endReleased]; repeat' split
  all_goals simp
@[simp] theorem State.endReleased_counters : (s.endReleased k n).counters = s.counters := by
  simp only [State.endReleased]; repeat' split
  all_goals simp
@[simp] theorem State.endReleased_device : (s.endReleased k n).device = s.device := by
  simp only [State.endReleased]; repeat' split
  all_goals simp
@[simp] theorem State.endReleased_history : (s.endReleased k n).history = s.history := by
  simp only [State.endReleased]; repeat' split
  all_goals simp
@[simp] theorem State.endReleased_waiting : (s.endReleased k n).waiting = s.waiting := by
  simp only [State.endReleased]; repeat' split
  all_goals simp
@[simp] theorem State.endReleased_lanes : (s.endReleased k n).lanes = s.lanes := by
  simp only [State.endReleased]; repeat' split
  all_goals simp
@[simp] theorem State.endReleased_tagCounter : (s.endReleased k n).tagCounter = s.tagCounter := by
  simp only [State.endReleased]; repeat' split
  all_goals simp
@[simp] theorem State.endReleased_round : (s.endReleased k n).round = s.round := by
  simp only [State.endReleased]; repeat' split
  all_goals simp
@[simp] theorem State.endReleased_watches : (s.endReleased k n).watches = s.watches := by
  simp only [State.endReleased]; repeat' split
  all_goals simp
@[simp] theorem State.endReleased_destination : (s.endReleased k n).destination = s.destination := by
  simp only [State.endReleased]; repeat' split
  all_goals simp
@[simp] theorem State.endReleased_line : (s.endReleased k n).line = s.line := by
  simp only [State.endReleased]; repeat' split
  all_goals simp
@[simp] theorem State.endReleased_stored : (s.endReleased k n).stored = s.stored := by
  simp only [State.endReleased]; repeat' split
  all_goals simp
@[simp] theorem State.endReleased_writing : (s.endReleased k n).writing = s.writing := by
  simp only [State.endReleased]; repeat' split
  all_goals simp
@[simp] theorem State.endReleased_restartPending : (s.endReleased k n).restartPending = s.restartPending := by
  simp only [State.endReleased]; repeat' split
  all_goals simp
@[simp] theorem State.endReleased_lineClosed : (s.endReleased k n).lineClosed = s.lineClosed := by
  simp only [State.endReleased]; repeat' split
  all_goals simp
@[simp] theorem State.endReleased_lineWaiting : (s.endReleased k n).lineWaiting = s.lineWaiting := by
  simp only [State.endReleased]; repeat' split
  all_goals simp
@[simp] theorem State.endReleased_pending : (s.endReleased k n).pending = s.pending := by
  simp only [State.endReleased]; repeat' split
  all_goals simp
@[simp] theorem State.endReleased_choices : (s.endReleased k n).choices = s.choices := by
  simp only [State.endReleased]; repeat' split
  all_goals simp

end endReleased

section takeCommitResponse
variable (s : State) (k : Fin 8) (v : Nat)

@[simp] theorem State.takeCommitResponse_identity : (s.takeCommitResponse k v).identity = s.identity := by
  simp only [State.takeCommitResponse]; repeat' split
  all_goals simp
@[simp] theorem State.takeCommitResponse_powered : (s.takeCommitResponse k v).powered = s.powered := by
  simp only [State.takeCommitResponse]; repeat' split
  all_goals simp
@[simp] theorem State.takeCommitResponse_time : (s.takeCommitResponse k v).time = s.time := by
  simp only [State.takeCommitResponse]; repeat' split
  all_goals simp
@[simp] theorem State.takeCommitResponse_timing : (s.takeCommitResponse k v).timing = s.timing := by
  simp only [State.takeCommitResponse]; repeat' split
  all_goals simp
@[simp] theorem State.takeCommitResponse_fallback : (s.takeCommitResponse k v).fallback = s.fallback := by
  simp only [State.takeCommitResponse]; repeat' split
  all_goals simp
@[simp] theorem State.takeCommitResponse_generation : (s.takeCommitResponse k v).generation = s.generation := by
  simp only [State.takeCommitResponse]; repeat' split
  all_goals simp
@[simp] theorem State.takeCommitResponse_active : (s.takeCommitResponse k v).active = s.active := by
  simp only [State.takeCommitResponse]; repeat' split
  all_goals simp
@[simp] theorem State.takeCommitResponse_shadow : (s.takeCommitResponse k v).shadow = s.shadow := by
  simp only [State.takeCommitResponse]; repeat' split
  all_goals simp
@[simp] theorem State.takeCommitResponse_counters : (s.takeCommitResponse k v).counters = s.counters := by
  simp only [State.takeCommitResponse]; repeat' split
  all_goals simp
@[simp] theorem State.takeCommitResponse_device : (s.takeCommitResponse k v).device = s.device := by
  simp only [State.takeCommitResponse]; repeat' split
  all_goals simp
@[simp] theorem State.takeCommitResponse_history : (s.takeCommitResponse k v).history = s.history := by
  simp only [State.takeCommitResponse]; repeat' split
  all_goals simp
@[simp] theorem State.takeCommitResponse_waiting : (s.takeCommitResponse k v).waiting = s.waiting := by
  simp only [State.takeCommitResponse]; repeat' split
  all_goals simp
@[simp] theorem State.takeCommitResponse_lanes : (s.takeCommitResponse k v).lanes = s.lanes := by
  simp only [State.takeCommitResponse]; repeat' split
  all_goals simp
@[simp] theorem State.takeCommitResponse_tagCounter : (s.takeCommitResponse k v).tagCounter = s.tagCounter := by
  simp only [State.takeCommitResponse]; repeat' split
  all_goals simp
@[simp] theorem State.takeCommitResponse_round : (s.takeCommitResponse k v).round = s.round := by
  simp only [State.takeCommitResponse]; repeat' split
  all_goals simp
@[simp] theorem State.takeCommitResponse_watches : (s.takeCommitResponse k v).watches = s.watches := by
  simp only [State.takeCommitResponse]; repeat' split
  all_goals simp
@[simp] theorem State.takeCommitResponse_destination : (s.takeCommitResponse k v).destination = s.destination := by
  simp only [State.takeCommitResponse]; repeat' split
  all_goals simp
@[simp] theorem State.takeCommitResponse_line : (s.takeCommitResponse k v).line = s.line := by
  simp only [State.takeCommitResponse]; repeat' split
  all_goals simp
@[simp] theorem State.takeCommitResponse_stored : (s.takeCommitResponse k v).stored = s.stored := by
  simp only [State.takeCommitResponse]; repeat' split
  all_goals simp
@[simp] theorem State.takeCommitResponse_writing : (s.takeCommitResponse k v).writing = s.writing := by
  simp only [State.takeCommitResponse]; repeat' split
  all_goals simp
@[simp] theorem State.takeCommitResponse_restartPending : (s.takeCommitResponse k v).restartPending = s.restartPending := by
  simp only [State.takeCommitResponse]; repeat' split
  all_goals simp
@[simp] theorem State.takeCommitResponse_lineClosed : (s.takeCommitResponse k v).lineClosed = s.lineClosed := by
  simp only [State.takeCommitResponse]; repeat' split
  all_goals simp
@[simp] theorem State.takeCommitResponse_lineWaiting : (s.takeCommitResponse k v).lineWaiting = s.lineWaiting := by
  simp only [State.takeCommitResponse]; repeat' split
  all_goals simp
@[simp] theorem State.takeCommitResponse_pending : (s.takeCommitResponse k v).pending = s.pending := by
  simp only [State.takeCommitResponse]; repeat' split
  all_goals simp
@[simp] theorem State.takeCommitResponse_choices : (s.takeCommitResponse k v).choices = s.choices := by
  simp only [State.takeCommitResponse]; repeat' split
  all_goals simp

end takeCommitResponse

section timeoutSlot
variable (s : State) (k : Fin 8)

@[simp] theorem State.timeoutSlot_identity : (s.timeoutSlot k).identity = s.identity := by
  simp only [State.timeoutSlot]; repeat' split
  all_goals simp
@[simp] theorem State.timeoutSlot_powered : (s.timeoutSlot k).powered = s.powered := by
  simp only [State.timeoutSlot]; repeat' split
  all_goals simp
@[simp] theorem State.timeoutSlot_time : (s.timeoutSlot k).time = s.time := by
  simp only [State.timeoutSlot]; repeat' split
  all_goals simp
@[simp] theorem State.timeoutSlot_timing : (s.timeoutSlot k).timing = s.timing := by
  simp only [State.timeoutSlot]; repeat' split
  all_goals simp
@[simp] theorem State.timeoutSlot_fallback : (s.timeoutSlot k).fallback = s.fallback := by
  simp only [State.timeoutSlot]; repeat' split
  all_goals simp
@[simp] theorem State.timeoutSlot_generation : (s.timeoutSlot k).generation = s.generation := by
  simp only [State.timeoutSlot]; repeat' split
  all_goals simp
@[simp] theorem State.timeoutSlot_active : (s.timeoutSlot k).active = s.active := by
  simp only [State.timeoutSlot]; repeat' split
  all_goals simp
@[simp] theorem State.timeoutSlot_shadow : (s.timeoutSlot k).shadow = s.shadow := by
  simp only [State.timeoutSlot]; repeat' split
  all_goals simp
@[simp] theorem State.timeoutSlot_counters : (s.timeoutSlot k).counters = s.counters := by
  simp only [State.timeoutSlot]; repeat' split
  all_goals simp
@[simp] theorem State.timeoutSlot_history : (s.timeoutSlot k).history = s.history := by
  simp only [State.timeoutSlot]; repeat' split
  all_goals simp
@[simp] theorem State.timeoutSlot_lanes : (s.timeoutSlot k).lanes = s.lanes := by
  simp only [State.timeoutSlot]; repeat' split
  all_goals simp
@[simp] theorem State.timeoutSlot_tagCounter : (s.timeoutSlot k).tagCounter = s.tagCounter := by
  simp only [State.timeoutSlot]; repeat' split
  all_goals simp
@[simp] theorem State.timeoutSlot_round : (s.timeoutSlot k).round = s.round := by
  simp only [State.timeoutSlot]; repeat' split
  all_goals simp
@[simp] theorem State.timeoutSlot_watches : (s.timeoutSlot k).watches = s.watches := by
  simp only [State.timeoutSlot]; repeat' split
  all_goals simp
@[simp] theorem State.timeoutSlot_destination : (s.timeoutSlot k).destination = s.destination := by
  simp only [State.timeoutSlot]; repeat' split
  all_goals simp
@[simp] theorem State.timeoutSlot_stored : (s.timeoutSlot k).stored = s.stored := by
  simp only [State.timeoutSlot]; repeat' split
  all_goals simp
@[simp] theorem State.timeoutSlot_writing : (s.timeoutSlot k).writing = s.writing := by
  simp only [State.timeoutSlot]; repeat' split
  all_goals simp
@[simp] theorem State.timeoutSlot_restartPending : (s.timeoutSlot k).restartPending = s.restartPending := by
  simp only [State.timeoutSlot]; repeat' split
  all_goals simp
@[simp] theorem State.timeoutSlot_lineClosed : (s.timeoutSlot k).lineClosed = s.lineClosed := by
  simp only [State.timeoutSlot]; repeat' split
  all_goals simp
@[simp] theorem State.timeoutSlot_lineWaiting : (s.timeoutSlot k).lineWaiting = s.lineWaiting := by
  simp only [State.timeoutSlot]; repeat' split
  all_goals simp
@[simp] theorem State.timeoutSlot_pending : (s.timeoutSlot k).pending = s.pending := by
  simp only [State.timeoutSlot]; repeat' split
  all_goals simp
@[simp] theorem State.timeoutSlot_choices : (s.timeoutSlot k).choices = s.choices := by
  simp only [State.timeoutSlot]; repeat' split
  all_goals simp

end timeoutSlot

section linkLossSlot
variable (s : State) (k : Fin 8)

@[simp] theorem State.linkLossSlot_identity : (s.linkLossSlot k).identity = s.identity := by
  simp only [State.linkLossSlot]; repeat' split
  all_goals simp
@[simp] theorem State.linkLossSlot_powered : (s.linkLossSlot k).powered = s.powered := by
  simp only [State.linkLossSlot]; repeat' split
  all_goals simp
@[simp] theorem State.linkLossSlot_time : (s.linkLossSlot k).time = s.time := by
  simp only [State.linkLossSlot]; repeat' split
  all_goals simp
@[simp] theorem State.linkLossSlot_timing : (s.linkLossSlot k).timing = s.timing := by
  simp only [State.linkLossSlot]; repeat' split
  all_goals simp
@[simp] theorem State.linkLossSlot_fallback : (s.linkLossSlot k).fallback = s.fallback := by
  simp only [State.linkLossSlot]; repeat' split
  all_goals simp
@[simp] theorem State.linkLossSlot_generation : (s.linkLossSlot k).generation = s.generation := by
  simp only [State.linkLossSlot]; repeat' split
  all_goals simp
@[simp] theorem State.linkLossSlot_active : (s.linkLossSlot k).active = s.active := by
  simp only [State.linkLossSlot]; repeat' split
  all_goals simp
@[simp] theorem State.linkLossSlot_shadow : (s.linkLossSlot k).shadow = s.shadow := by
  simp only [State.linkLossSlot]; repeat' split
  all_goals simp
@[simp] theorem State.linkLossSlot_controllers : (s.linkLossSlot k).controllers = s.controllers := by
  simp only [State.linkLossSlot]; repeat' split
  all_goals simp
@[simp] theorem State.linkLossSlot_counters : (s.linkLossSlot k).counters = s.counters := by
  simp only [State.linkLossSlot]; repeat' split
  all_goals simp
@[simp] theorem State.linkLossSlot_device : (s.linkLossSlot k).device = s.device := by
  simp only [State.linkLossSlot]; repeat' split
  all_goals simp
@[simp] theorem State.linkLossSlot_history : (s.linkLossSlot k).history = s.history := by
  simp only [State.linkLossSlot]; repeat' split
  all_goals simp
@[simp] theorem State.linkLossSlot_lanes : (s.linkLossSlot k).lanes = s.lanes := by
  simp only [State.linkLossSlot]; repeat' split
  all_goals simp
@[simp] theorem State.linkLossSlot_tagCounter : (s.linkLossSlot k).tagCounter = s.tagCounter := by
  simp only [State.linkLossSlot]; repeat' split
  all_goals simp
@[simp] theorem State.linkLossSlot_round : (s.linkLossSlot k).round = s.round := by
  simp only [State.linkLossSlot]; repeat' split
  all_goals simp
@[simp] theorem State.linkLossSlot_watches : (s.linkLossSlot k).watches = s.watches := by
  simp only [State.linkLossSlot]; repeat' split
  all_goals simp
@[simp] theorem State.linkLossSlot_destination : (s.linkLossSlot k).destination = s.destination := by
  simp only [State.linkLossSlot]; repeat' split
  all_goals simp
@[simp] theorem State.linkLossSlot_line : (s.linkLossSlot k).line = s.line := by
  simp only [State.linkLossSlot]; repeat' split
  all_goals simp
@[simp] theorem State.linkLossSlot_stored : (s.linkLossSlot k).stored = s.stored := by
  simp only [State.linkLossSlot]; repeat' split
  all_goals simp
@[simp] theorem State.linkLossSlot_writing : (s.linkLossSlot k).writing = s.writing := by
  simp only [State.linkLossSlot]; repeat' split
  all_goals simp
@[simp] theorem State.linkLossSlot_restartPending : (s.linkLossSlot k).restartPending = s.restartPending := by
  simp only [State.linkLossSlot]; repeat' split
  all_goals simp
@[simp] theorem State.linkLossSlot_lineClosed : (s.linkLossSlot k).lineClosed = s.lineClosed := by
  simp only [State.linkLossSlot]; repeat' split
  all_goals simp
@[simp] theorem State.linkLossSlot_lineWaiting : (s.linkLossSlot k).lineWaiting = s.lineWaiting := by
  simp only [State.linkLossSlot]; repeat' split
  all_goals simp
@[simp] theorem State.linkLossSlot_pending : (s.linkLossSlot k).pending = s.pending := by
  simp only [State.linkLossSlot]; repeat' split
  all_goals simp
@[simp] theorem State.linkLossSlot_choices : (s.linkLossSlot k).choices = s.choices := by
  simp only [State.linkLossSlot]; repeat' split
  all_goals simp

end linkLossSlot

section postponeScan
variable (s : State) (n : Fin 32)

@[simp] theorem State.postponeScan_identity : (s.postponeScan n).identity = s.identity := by
  simp only [State.postponeScan]; repeat' split
  all_goals simp
@[simp] theorem State.postponeScan_powered : (s.postponeScan n).powered = s.powered := by
  simp only [State.postponeScan]; repeat' split
  all_goals simp
@[simp] theorem State.postponeScan_time : (s.postponeScan n).time = s.time := by
  simp only [State.postponeScan]; repeat' split
  all_goals simp
@[simp] theorem State.postponeScan_timing : (s.postponeScan n).timing = s.timing := by
  simp only [State.postponeScan]; repeat' split
  all_goals simp
@[simp] theorem State.postponeScan_fallback : (s.postponeScan n).fallback = s.fallback := by
  simp only [State.postponeScan]; repeat' split
  all_goals simp
@[simp] theorem State.postponeScan_generation : (s.postponeScan n).generation = s.generation := by
  simp only [State.postponeScan]; repeat' split
  all_goals simp
@[simp] theorem State.postponeScan_active : (s.postponeScan n).active = s.active := by
  simp only [State.postponeScan]; repeat' split
  all_goals simp
@[simp] theorem State.postponeScan_shadow : (s.postponeScan n).shadow = s.shadow := by
  simp only [State.postponeScan]; repeat' split
  all_goals simp
@[simp] theorem State.postponeScan_counters : (s.postponeScan n).counters = s.counters := by
  simp only [State.postponeScan]; repeat' split
  all_goals simp
@[simp] theorem State.postponeScan_device : (s.postponeScan n).device = s.device := by
  simp only [State.postponeScan]; repeat' split
  all_goals simp
@[simp] theorem State.postponeScan_history : (s.postponeScan n).history = s.history := by
  simp only [State.postponeScan]; repeat' split
  all_goals simp
@[simp] theorem State.postponeScan_slots : (s.postponeScan n).slots = s.slots := by
  simp only [State.postponeScan]; repeat' split
  all_goals simp
@[simp] theorem State.postponeScan_waiting : (s.postponeScan n).waiting = s.waiting := by
  simp only [State.postponeScan]; repeat' split
  all_goals simp
@[simp] theorem State.postponeScan_lanes : (s.postponeScan n).lanes = s.lanes := by
  simp only [State.postponeScan]; repeat' split
  all_goals simp
@[simp] theorem State.postponeScan_tagCounter : (s.postponeScan n).tagCounter = s.tagCounter := by
  simp only [State.postponeScan]; repeat' split
  all_goals simp
@[simp] theorem State.postponeScan_round : (s.postponeScan n).round = s.round := by
  simp only [State.postponeScan]; repeat' split
  all_goals simp
@[simp] theorem State.postponeScan_watches : (s.postponeScan n).watches = s.watches := by
  simp only [State.postponeScan]; repeat' split
  all_goals simp
@[simp] theorem State.postponeScan_destination : (s.postponeScan n).destination = s.destination := by
  simp only [State.postponeScan]; repeat' split
  all_goals simp
@[simp] theorem State.postponeScan_line : (s.postponeScan n).line = s.line := by
  simp only [State.postponeScan]; repeat' split
  all_goals simp
@[simp] theorem State.postponeScan_stored : (s.postponeScan n).stored = s.stored := by
  simp only [State.postponeScan]; repeat' split
  all_goals simp
@[simp] theorem State.postponeScan_writing : (s.postponeScan n).writing = s.writing := by
  simp only [State.postponeScan]; repeat' split
  all_goals simp
@[simp] theorem State.postponeScan_restartPending : (s.postponeScan n).restartPending = s.restartPending := by
  simp only [State.postponeScan]; repeat' split
  all_goals simp
@[simp] theorem State.postponeScan_lineClosed : (s.postponeScan n).lineClosed = s.lineClosed := by
  simp only [State.postponeScan]; repeat' split
  all_goals simp
@[simp] theorem State.postponeScan_lineWaiting : (s.postponeScan n).lineWaiting = s.lineWaiting := by
  simp only [State.postponeScan]; repeat' split
  all_goals simp
@[simp] theorem State.postponeScan_pending : (s.postponeScan n).pending = s.pending := by
  simp only [State.postponeScan]; repeat' split
  all_goals simp
@[simp] theorem State.postponeScan_choices : (s.postponeScan n).choices = s.choices := by
  simp only [State.postponeScan]; repeat' split
  all_goals simp

end postponeScan

section removeSummary
variable (s : State)

@[simp] theorem State.removeSummary_identity : (s.removeSummary).identity = s.identity := by
  simp only [State.removeSummary]
@[simp] theorem State.removeSummary_powered : (s.removeSummary).powered = s.powered := by
  simp only [State.removeSummary]
@[simp] theorem State.removeSummary_time : (s.removeSummary).time = s.time := by
  simp only [State.removeSummary]
@[simp] theorem State.removeSummary_timing : (s.removeSummary).timing = s.timing := by
  simp only [State.removeSummary]
@[simp] theorem State.removeSummary_fallback : (s.removeSummary).fallback = s.fallback := by
  simp only [State.removeSummary]
@[simp] theorem State.removeSummary_generation : (s.removeSummary).generation = s.generation := by
  simp only [State.removeSummary]
@[simp] theorem State.removeSummary_active : (s.removeSummary).active = s.active := by
  simp only [State.removeSummary]
@[simp] theorem State.removeSummary_shadow : (s.removeSummary).shadow = s.shadow := by
  simp only [State.removeSummary]
@[simp] theorem State.removeSummary_controllers : (s.removeSummary).controllers = s.controllers := by
  simp only [State.removeSummary]
@[simp] theorem State.removeSummary_counters : (s.removeSummary).counters = s.counters := by
  simp only [State.removeSummary]
@[simp] theorem State.removeSummary_device : (s.removeSummary).device = s.device := by
  simp only [State.removeSummary]
@[simp] theorem State.removeSummary_history : (s.removeSummary).history = s.history := by
  simp only [State.removeSummary]
@[simp] theorem State.removeSummary_slots : (s.removeSummary).slots = s.slots := by
  simp only [State.removeSummary]
@[simp] theorem State.removeSummary_waiting : (s.removeSummary).waiting = s.waiting := by
  simp only [State.removeSummary]
@[simp] theorem State.removeSummary_lanes : (s.removeSummary).lanes = s.lanes := by
  simp only [State.removeSummary]
@[simp] theorem State.removeSummary_tagCounter : (s.removeSummary).tagCounter = s.tagCounter := by
  simp only [State.removeSummary]
@[simp] theorem State.removeSummary_round : (s.removeSummary).round = s.round := by
  simp only [State.removeSummary]
@[simp] theorem State.removeSummary_watches : (s.removeSummary).watches = s.watches := by
  simp only [State.removeSummary]
@[simp] theorem State.removeSummary_notices : (s.removeSummary).notices = s.notices := by
  simp only [State.removeSummary]
@[simp] theorem State.removeSummary_dropped : (s.removeSummary).dropped = s.dropped := by
  simp only [State.removeSummary]
@[simp] theorem State.removeSummary_destination : (s.removeSummary).destination = s.destination := by
  simp only [State.removeSummary]
@[simp] theorem State.removeSummary_plant : (s.removeSummary).plant = s.plant := by
  simp only [State.removeSummary]
@[simp] theorem State.removeSummary_stored : (s.removeSummary).stored = s.stored := by
  simp only [State.removeSummary]
@[simp] theorem State.removeSummary_writing : (s.removeSummary).writing = s.writing := by
  simp only [State.removeSummary]
@[simp] theorem State.removeSummary_restartPending : (s.removeSummary).restartPending = s.restartPending := by
  simp only [State.removeSummary]
@[simp] theorem State.removeSummary_lineClosed : (s.removeSummary).lineClosed = s.lineClosed := by
  simp only [State.removeSummary]
@[simp] theorem State.removeSummary_lineWaiting : (s.removeSummary).lineWaiting = s.lineWaiting := by
  simp only [State.removeSummary]
@[simp] theorem State.removeSummary_pending : (s.removeSummary).pending = s.pending := by
  simp only [State.removeSummary]
@[simp] theorem State.removeSummary_choices : (s.removeSummary).choices = s.choices := by
  simp only [State.removeSummary]

end removeSummary

section sendSummary
variable (s : State) (n : Fin 32) (a p t : Nat) (r : ImageRecord)

@[simp] theorem State.sendSummary_identity : (s.sendSummary n a p t r).identity = s.identity := by
  simp only [State.sendSummary]
  simp
@[simp] theorem State.sendSummary_powered : (s.sendSummary n a p t r).powered = s.powered := by
  simp only [State.sendSummary]
  simp
@[simp] theorem State.sendSummary_time : (s.sendSummary n a p t r).time = s.time := by
  simp only [State.sendSummary]
  simp
@[simp] theorem State.sendSummary_timing : (s.sendSummary n a p t r).timing = s.timing := by
  simp only [State.sendSummary]
  simp
@[simp] theorem State.sendSummary_fallback : (s.sendSummary n a p t r).fallback = s.fallback := by
  simp only [State.sendSummary]
  simp
@[simp] theorem State.sendSummary_generation : (s.sendSummary n a p t r).generation = s.generation := by
  simp only [State.sendSummary]
  simp
@[simp] theorem State.sendSummary_active : (s.sendSummary n a p t r).active = s.active := by
  simp only [State.sendSummary]
  simp
@[simp] theorem State.sendSummary_shadow : (s.sendSummary n a p t r).shadow = s.shadow := by
  simp only [State.sendSummary]
  simp
@[simp] theorem State.sendSummary_controllers : (s.sendSummary n a p t r).controllers = s.controllers := by
  simp only [State.sendSummary]
  simp
@[simp] theorem State.sendSummary_counters : (s.sendSummary n a p t r).counters = s.counters := by
  simp only [State.sendSummary]
  simp
@[simp] theorem State.sendSummary_history : (s.sendSummary n a p t r).history = s.history := by
  simp only [State.sendSummary]
  simp
@[simp] theorem State.sendSummary_slots : (s.sendSummary n a p t r).slots = s.slots := by
  simp only [State.sendSummary]
  simp
@[simp] theorem State.sendSummary_waiting : (s.sendSummary n a p t r).waiting = s.waiting := by
  simp only [State.sendSummary]
  simp
@[simp] theorem State.sendSummary_lanes : (s.sendSummary n a p t r).lanes = s.lanes := by
  simp only [State.sendSummary]
  simp
@[simp] theorem State.sendSummary_watches : (s.sendSummary n a p t r).watches = s.watches := by
  simp only [State.sendSummary]
  simp
@[simp] theorem State.sendSummary_notices : (s.sendSummary n a p t r).notices = s.notices := by
  simp only [State.sendSummary]
  simp
@[simp] theorem State.sendSummary_dropped : (s.sendSummary n a p t r).dropped = s.dropped := by
  simp only [State.sendSummary]
  simp
@[simp] theorem State.sendSummary_destination : (s.sendSummary n a p t r).destination = s.destination := by
  simp only [State.sendSummary]
  simp
@[simp] theorem State.sendSummary_plant : (s.sendSummary n a p t r).plant = s.plant := by
  simp only [State.sendSummary]
  simp
@[simp] theorem State.sendSummary_stored : (s.sendSummary n a p t r).stored = s.stored := by
  simp only [State.sendSummary]
  simp
@[simp] theorem State.sendSummary_writing : (s.sendSummary n a p t r).writing = s.writing := by
  simp only [State.sendSummary]
  simp
@[simp] theorem State.sendSummary_restartPending : (s.sendSummary n a p t r).restartPending = s.restartPending := by
  simp only [State.sendSummary]
  simp
@[simp] theorem State.sendSummary_lineClosed : (s.sendSummary n a p t r).lineClosed = s.lineClosed := by
  simp only [State.sendSummary]
  simp
@[simp] theorem State.sendSummary_lineWaiting : (s.sendSummary n a p t r).lineWaiting = s.lineWaiting := by
  simp only [State.sendSummary]
  simp
@[simp] theorem State.sendSummary_pending : (s.sendSummary n a p t r).pending = s.pending := by
  simp only [State.sendSummary]
  simp
@[simp] theorem State.sendSummary_choices : (s.sendSummary n a p t r).choices = s.choices := by
  simp only [State.sendSummary]
  simp

end sendSummary

section endRound
variable (s : State) (n : Fin 32) (a : Nat) (b : Bool)

@[simp] theorem State.endRound_identity : (s.endRound n a b).identity = s.identity := by
  simp only [State.endRound]; repeat' split
  all_goals simp
@[simp] theorem State.endRound_powered : (s.endRound n a b).powered = s.powered := by
  simp only [State.endRound]; repeat' split
  all_goals simp
@[simp] theorem State.endRound_time : (s.endRound n a b).time = s.time := by
  simp only [State.endRound]; repeat' split
  all_goals simp
@[simp] theorem State.endRound_timing : (s.endRound n a b).timing = s.timing := by
  simp only [State.endRound]; repeat' split
  all_goals simp
@[simp] theorem State.endRound_fallback : (s.endRound n a b).fallback = s.fallback := by
  simp only [State.endRound]; repeat' split
  all_goals simp
@[simp] theorem State.endRound_generation : (s.endRound n a b).generation = s.generation := by
  simp only [State.endRound]; repeat' split
  all_goals simp
@[simp] theorem State.endRound_active : (s.endRound n a b).active = s.active := by
  simp only [State.endRound]; repeat' split
  all_goals simp
@[simp] theorem State.endRound_shadow : (s.endRound n a b).shadow = s.shadow := by
  simp only [State.endRound]; repeat' split
  all_goals simp
@[simp] theorem State.endRound_counters : (s.endRound n a b).counters = s.counters := by
  simp only [State.endRound]; repeat' split
  all_goals simp
@[simp] theorem State.endRound_device : (s.endRound n a b).device = s.device := by
  simp only [State.endRound]; repeat' split
  all_goals simp
@[simp] theorem State.endRound_history : (s.endRound n a b).history = s.history := by
  simp only [State.endRound]; repeat' split
  all_goals simp
@[simp] theorem State.endRound_slots : (s.endRound n a b).slots = s.slots := by
  simp only [State.endRound]; repeat' split
  all_goals simp
@[simp] theorem State.endRound_waiting : (s.endRound n a b).waiting = s.waiting := by
  simp only [State.endRound]; repeat' split
  all_goals simp
@[simp] theorem State.endRound_lanes : (s.endRound n a b).lanes = s.lanes := by
  simp only [State.endRound]; repeat' split
  all_goals simp
@[simp] theorem State.endRound_tagCounter : (s.endRound n a b).tagCounter = s.tagCounter := by
  simp only [State.endRound]; repeat' split
  all_goals simp
@[simp] theorem State.endRound_watches : (s.endRound n a b).watches = s.watches := by
  simp only [State.endRound]; repeat' split
  all_goals simp
@[simp] theorem State.endRound_notices : (s.endRound n a b).notices = s.notices := by
  simp only [State.endRound]; repeat' split
  all_goals simp
@[simp] theorem State.endRound_dropped : (s.endRound n a b).dropped = s.dropped := by
  simp only [State.endRound]; repeat' split
  all_goals simp
@[simp] theorem State.endRound_destination : (s.endRound n a b).destination = s.destination := by
  simp only [State.endRound]; repeat' split
  all_goals simp
@[simp] theorem State.endRound_plant : (s.endRound n a b).plant = s.plant := by
  simp only [State.endRound]; repeat' split
  all_goals simp
@[simp] theorem State.endRound_line : (s.endRound n a b).line = s.line := by
  simp only [State.endRound]; repeat' split
  all_goals simp
@[simp] theorem State.endRound_stored : (s.endRound n a b).stored = s.stored := by
  simp only [State.endRound]; repeat' split
  all_goals simp
@[simp] theorem State.endRound_writing : (s.endRound n a b).writing = s.writing := by
  simp only [State.endRound]; repeat' split
  all_goals simp
@[simp] theorem State.endRound_restartPending : (s.endRound n a b).restartPending = s.restartPending := by
  simp only [State.endRound]; repeat' split
  all_goals simp
@[simp] theorem State.endRound_lineClosed : (s.endRound n a b).lineClosed = s.lineClosed := by
  simp only [State.endRound]; repeat' split
  all_goals simp
@[simp] theorem State.endRound_lineWaiting : (s.endRound n a b).lineWaiting = s.lineWaiting := by
  simp only [State.endRound]; repeat' split
  all_goals simp
@[simp] theorem State.endRound_pending : (s.endRound n a b).pending = s.pending := by
  simp only [State.endRound]; repeat' split
  all_goals simp
@[simp] theorem State.endRound_choices : (s.endRound n a b).choices = s.choices := by
  simp only [State.endRound]; repeat' split
  all_goals simp

end endRound

section continueRound
variable (s : State) (n : Fin 32) (a l : Nat)

@[simp] theorem State.continueRound_identity : (s.continueRound n a l).identity = s.identity := by
  simp only [State.continueRound]; repeat' split
  all_goals simp
@[simp] theorem State.continueRound_powered : (s.continueRound n a l).powered = s.powered := by
  simp only [State.continueRound]; repeat' split
  all_goals simp
@[simp] theorem State.continueRound_time : (s.continueRound n a l).time = s.time := by
  simp only [State.continueRound]; repeat' split
  all_goals simp
@[simp] theorem State.continueRound_timing : (s.continueRound n a l).timing = s.timing := by
  simp only [State.continueRound]; repeat' split
  all_goals simp
@[simp] theorem State.continueRound_fallback : (s.continueRound n a l).fallback = s.fallback := by
  simp only [State.continueRound]; repeat' split
  all_goals simp
@[simp] theorem State.continueRound_generation : (s.continueRound n a l).generation = s.generation := by
  simp only [State.continueRound]; repeat' split
  all_goals simp
@[simp] theorem State.continueRound_active : (s.continueRound n a l).active = s.active := by
  simp only [State.continueRound]; repeat' split
  all_goals simp
@[simp] theorem State.continueRound_shadow : (s.continueRound n a l).shadow = s.shadow := by
  simp only [State.continueRound]; repeat' split
  all_goals simp
@[simp] theorem State.continueRound_counters : (s.continueRound n a l).counters = s.counters := by
  simp only [State.continueRound]; repeat' split
  all_goals simp
@[simp] theorem State.continueRound_history : (s.continueRound n a l).history = s.history := by
  simp only [State.continueRound]; repeat' split
  all_goals simp
@[simp] theorem State.continueRound_slots : (s.continueRound n a l).slots = s.slots := by
  simp only [State.continueRound]; repeat' split
  all_goals simp
@[simp] theorem State.continueRound_waiting : (s.continueRound n a l).waiting = s.waiting := by
  simp only [State.continueRound]; repeat' split
  all_goals simp
@[simp] theorem State.continueRound_lanes : (s.continueRound n a l).lanes = s.lanes := by
  simp only [State.continueRound]; repeat' split
  all_goals simp
@[simp] theorem State.continueRound_watches : (s.continueRound n a l).watches = s.watches := by
  simp only [State.continueRound]; repeat' split
  all_goals simp
@[simp] theorem State.continueRound_notices : (s.continueRound n a l).notices = s.notices := by
  simp only [State.continueRound]; repeat' split
  all_goals simp
@[simp] theorem State.continueRound_dropped : (s.continueRound n a l).dropped = s.dropped := by
  simp only [State.continueRound]; repeat' split
  all_goals simp
@[simp] theorem State.continueRound_destination : (s.continueRound n a l).destination = s.destination := by
  simp only [State.continueRound]; repeat' split
  all_goals simp
@[simp] theorem State.continueRound_plant : (s.continueRound n a l).plant = s.plant := by
  simp only [State.continueRound]; repeat' split
  all_goals simp
@[simp] theorem State.continueRound_stored : (s.continueRound n a l).stored = s.stored := by
  simp only [State.continueRound]; repeat' split
  all_goals simp
@[simp] theorem State.continueRound_writing : (s.continueRound n a l).writing = s.writing := by
  simp only [State.continueRound]; repeat' split
  all_goals simp
@[simp] theorem State.continueRound_restartPending : (s.continueRound n a l).restartPending = s.restartPending := by
  simp only [State.continueRound]; repeat' split
  all_goals simp
@[simp] theorem State.continueRound_lineClosed : (s.continueRound n a l).lineClosed = s.lineClosed := by
  simp only [State.continueRound]; repeat' split
  all_goals simp
@[simp] theorem State.continueRound_lineWaiting : (s.continueRound n a l).lineWaiting = s.lineWaiting := by
  simp only [State.continueRound]; repeat' split
  all_goals simp
@[simp] theorem State.continueRound_pending : (s.continueRound n a l).pending = s.pending := by
  simp only [State.continueRound]; repeat' split
  all_goals simp
@[simp] theorem State.continueRound_choices : (s.continueRound n a l).choices = s.choices := by
  simp only [State.continueRound]; repeat' split
  all_goals simp

end continueRound

section checkController
variable (s : State) (n : Fin 32)

@[simp] theorem State.checkController_identity : (s.checkController n).identity = s.identity := by
  simp only [State.checkController]; repeat' split
  all_goals simp
@[simp] theorem State.checkController_powered : (s.checkController n).powered = s.powered := by
  simp only [State.checkController]; repeat' split
  all_goals simp
@[simp] theorem State.checkController_time : (s.checkController n).time = s.time := by
  simp only [State.checkController]; repeat' split
  all_goals simp
@[simp] theorem State.checkController_timing : (s.checkController n).timing = s.timing := by
  simp only [State.checkController]; repeat' split
  all_goals simp
@[simp] theorem State.checkController_fallback : (s.checkController n).fallback = s.fallback := by
  simp only [State.checkController]; repeat' split
  all_goals simp
@[simp] theorem State.checkController_generation : (s.checkController n).generation = s.generation := by
  simp only [State.checkController]; repeat' split
  all_goals simp
@[simp] theorem State.checkController_active : (s.checkController n).active = s.active := by
  simp only [State.checkController]; repeat' split
  all_goals simp
@[simp] theorem State.checkController_shadow : (s.checkController n).shadow = s.shadow := by
  simp only [State.checkController]; repeat' split
  all_goals simp
@[simp] theorem State.checkController_counters : (s.checkController n).counters = s.counters := by
  simp only [State.checkController]; repeat' split
  all_goals simp
@[simp] theorem State.checkController_history : (s.checkController n).history = s.history := by
  simp only [State.checkController]; repeat' split
  all_goals simp
@[simp] theorem State.checkController_slots : (s.checkController n).slots = s.slots := by
  simp only [State.checkController]; repeat' split
  all_goals simp
@[simp] theorem State.checkController_waiting : (s.checkController n).waiting = s.waiting := by
  simp only [State.checkController]; repeat' split
  all_goals simp
@[simp] theorem State.checkController_lanes : (s.checkController n).lanes = s.lanes := by
  simp only [State.checkController]; repeat' split
  all_goals simp
@[simp] theorem State.checkController_watches : (s.checkController n).watches = s.watches := by
  simp only [State.checkController]; repeat' split
  all_goals simp
@[simp] theorem State.checkController_destination : (s.checkController n).destination = s.destination := by
  simp only [State.checkController]; repeat' split
  all_goals simp
@[simp] theorem State.checkController_stored : (s.checkController n).stored = s.stored := by
  simp only [State.checkController]; repeat' split
  all_goals simp
@[simp] theorem State.checkController_writing : (s.checkController n).writing = s.writing := by
  simp only [State.checkController]; repeat' split
  all_goals simp
@[simp] theorem State.checkController_restartPending : (s.checkController n).restartPending = s.restartPending := by
  simp only [State.checkController]; repeat' split
  all_goals simp
@[simp] theorem State.checkController_lineClosed : (s.checkController n).lineClosed = s.lineClosed := by
  simp only [State.checkController]; repeat' split
  all_goals simp
@[simp] theorem State.checkController_lineWaiting : (s.checkController n).lineWaiting = s.lineWaiting := by
  simp only [State.checkController]; repeat' split
  all_goals simp
@[simp] theorem State.checkController_pending : (s.checkController n).pending = s.pending := by
  simp only [State.checkController]; repeat' split
  all_goals simp
@[simp] theorem State.checkController_choices : (s.checkController n).choices = s.choices := by
  simp only [State.checkController]; repeat' split
  all_goals simp

end checkController

section scheduleCheck
variable (s : State)

@[simp] theorem State.scheduleCheck_identity : (s.scheduleCheck).identity = s.identity := 
  foldl_keeps State.identity _ (fun s n => State.checkController_identity s n) _ s
@[simp] theorem State.scheduleCheck_powered : (s.scheduleCheck).powered = s.powered := 
  foldl_keeps State.powered _ (fun s n => State.checkController_powered s n) _ s
@[simp] theorem State.scheduleCheck_time : (s.scheduleCheck).time = s.time := 
  foldl_keeps State.time _ (fun s n => State.checkController_time s n) _ s
@[simp] theorem State.scheduleCheck_timing : (s.scheduleCheck).timing = s.timing := 
  foldl_keeps State.timing _ (fun s n => State.checkController_timing s n) _ s
@[simp] theorem State.scheduleCheck_fallback : (s.scheduleCheck).fallback = s.fallback := 
  foldl_keeps State.fallback _ (fun s n => State.checkController_fallback s n) _ s
@[simp] theorem State.scheduleCheck_generation : (s.scheduleCheck).generation = s.generation := 
  foldl_keeps State.generation _ (fun s n => State.checkController_generation s n) _ s
@[simp] theorem State.scheduleCheck_active : (s.scheduleCheck).active = s.active := 
  foldl_keeps State.active _ (fun s n => State.checkController_active s n) _ s
@[simp] theorem State.scheduleCheck_shadow : (s.scheduleCheck).shadow = s.shadow := 
  foldl_keeps State.shadow _ (fun s n => State.checkController_shadow s n) _ s
@[simp] theorem State.scheduleCheck_counters : (s.scheduleCheck).counters = s.counters := 
  foldl_keeps State.counters _ (fun s n => State.checkController_counters s n) _ s
@[simp] theorem State.scheduleCheck_history : (s.scheduleCheck).history = s.history := 
  foldl_keeps State.history _ (fun s n => State.checkController_history s n) _ s
@[simp] theorem State.scheduleCheck_slots : (s.scheduleCheck).slots = s.slots := 
  foldl_keeps State.slots _ (fun s n => State.checkController_slots s n) _ s
@[simp] theorem State.scheduleCheck_waiting : (s.scheduleCheck).waiting = s.waiting := 
  foldl_keeps State.waiting _ (fun s n => State.checkController_waiting s n) _ s
@[simp] theorem State.scheduleCheck_lanes : (s.scheduleCheck).lanes = s.lanes := 
  foldl_keeps State.lanes _ (fun s n => State.checkController_lanes s n) _ s
@[simp] theorem State.scheduleCheck_watches : (s.scheduleCheck).watches = s.watches := 
  foldl_keeps State.watches _ (fun s n => State.checkController_watches s n) _ s
@[simp] theorem State.scheduleCheck_destination : (s.scheduleCheck).destination = s.destination := 
  foldl_keeps State.destination _ (fun s n => State.checkController_destination s n) _ s
@[simp] theorem State.scheduleCheck_stored : (s.scheduleCheck).stored = s.stored := 
  foldl_keeps State.stored _ (fun s n => State.checkController_stored s n) _ s
@[simp] theorem State.scheduleCheck_writing : (s.scheduleCheck).writing = s.writing := 
  foldl_keeps State.writing _ (fun s n => State.checkController_writing s n) _ s
@[simp] theorem State.scheduleCheck_restartPending : (s.scheduleCheck).restartPending = s.restartPending := 
  foldl_keeps State.restartPending _ (fun s n => State.checkController_restartPending s n) _ s
@[simp] theorem State.scheduleCheck_lineClosed : (s.scheduleCheck).lineClosed = s.lineClosed := 
  foldl_keeps State.lineClosed _ (fun s n => State.checkController_lineClosed s n) _ s
@[simp] theorem State.scheduleCheck_lineWaiting : (s.scheduleCheck).lineWaiting = s.lineWaiting := 
  foldl_keeps State.lineWaiting _ (fun s n => State.checkController_lineWaiting s n) _ s
@[simp] theorem State.scheduleCheck_pending : (s.scheduleCheck).pending = s.pending := 
  foldl_keeps State.pending _ (fun s n => State.checkController_pending s n) _ s
@[simp] theorem State.scheduleCheck_choices : (s.scheduleCheck).choices = s.choices := 
  foldl_keeps State.choices _ (fun s n => State.checkController_choices s n) _ s

end scheduleCheck

section cancelRound
variable (s : State)

@[simp] theorem State.cancelRound_identity : (s.cancelRound).identity = s.identity := by
  simp only [State.cancelRound]; repeat' split
  all_goals simp
@[simp] theorem State.cancelRound_powered : (s.cancelRound).powered = s.powered := by
  simp only [State.cancelRound]; repeat' split
  all_goals simp
@[simp] theorem State.cancelRound_time : (s.cancelRound).time = s.time := by
  simp only [State.cancelRound]; repeat' split
  all_goals simp
@[simp] theorem State.cancelRound_timing : (s.cancelRound).timing = s.timing := by
  simp only [State.cancelRound]; repeat' split
  all_goals simp
@[simp] theorem State.cancelRound_fallback : (s.cancelRound).fallback = s.fallback := by
  simp only [State.cancelRound]; repeat' split
  all_goals simp
@[simp] theorem State.cancelRound_generation : (s.cancelRound).generation = s.generation := by
  simp only [State.cancelRound]; repeat' split
  all_goals simp
@[simp] theorem State.cancelRound_active : (s.cancelRound).active = s.active := by
  simp only [State.cancelRound]; repeat' split
  all_goals simp
@[simp] theorem State.cancelRound_shadow : (s.cancelRound).shadow = s.shadow := by
  simp only [State.cancelRound]; repeat' split
  all_goals simp
@[simp] theorem State.cancelRound_counters : (s.cancelRound).counters = s.counters := by
  simp only [State.cancelRound]; repeat' split
  all_goals simp
@[simp] theorem State.cancelRound_history : (s.cancelRound).history = s.history := by
  simp only [State.cancelRound]; repeat' split
  all_goals simp
@[simp] theorem State.cancelRound_slots : (s.cancelRound).slots = s.slots := by
  simp only [State.cancelRound]; repeat' split
  all_goals simp
@[simp] theorem State.cancelRound_waiting : (s.cancelRound).waiting = s.waiting := by
  simp only [State.cancelRound]; repeat' split
  all_goals simp
@[simp] theorem State.cancelRound_lanes : (s.cancelRound).lanes = s.lanes := by
  simp only [State.cancelRound]; repeat' split
  all_goals simp
@[simp] theorem State.cancelRound_watches : (s.cancelRound).watches = s.watches := by
  simp only [State.cancelRound]; repeat' split
  all_goals simp
@[simp] theorem State.cancelRound_destination : (s.cancelRound).destination = s.destination := by
  simp only [State.cancelRound]; repeat' split
  all_goals simp
@[simp] theorem State.cancelRound_stored : (s.cancelRound).stored = s.stored := by
  simp only [State.cancelRound]; repeat' split
  all_goals simp
@[simp] theorem State.cancelRound_writing : (s.cancelRound).writing = s.writing := by
  simp only [State.cancelRound]; repeat' split
  all_goals simp
@[simp] theorem State.cancelRound_restartPending : (s.cancelRound).restartPending = s.restartPending := by
  simp only [State.cancelRound]; repeat' split
  all_goals simp
@[simp] theorem State.cancelRound_lineClosed : (s.cancelRound).lineClosed = s.lineClosed := by
  simp only [State.cancelRound]; repeat' split
  all_goals simp
@[simp] theorem State.cancelRound_lineWaiting : (s.cancelRound).lineWaiting = s.lineWaiting := by
  simp only [State.cancelRound]; repeat' split
  all_goals simp
@[simp] theorem State.cancelRound_pending : (s.cancelRound).pending = s.pending := by
  simp only [State.cancelRound]; repeat' split
  all_goals simp
@[simp] theorem State.cancelRound_choices : (s.cancelRound).choices = s.choices := by
  simp only [State.cancelRound]; repeat' split
  all_goals simp

end cancelRound

section cancelRoundOf
variable (s : State) (n : Fin 32)

@[simp] theorem State.cancelRoundOf_identity : (s.cancelRoundOf n).identity = s.identity := by
  simp only [State.cancelRoundOf]; repeat' split
  all_goals simp
@[simp] theorem State.cancelRoundOf_powered : (s.cancelRoundOf n).powered = s.powered := by
  simp only [State.cancelRoundOf]; repeat' split
  all_goals simp
@[simp] theorem State.cancelRoundOf_time : (s.cancelRoundOf n).time = s.time := by
  simp only [State.cancelRoundOf]; repeat' split
  all_goals simp
@[simp] theorem State.cancelRoundOf_timing : (s.cancelRoundOf n).timing = s.timing := by
  simp only [State.cancelRoundOf]; repeat' split
  all_goals simp
@[simp] theorem State.cancelRoundOf_fallback : (s.cancelRoundOf n).fallback = s.fallback := by
  simp only [State.cancelRoundOf]; repeat' split
  all_goals simp
@[simp] theorem State.cancelRoundOf_generation : (s.cancelRoundOf n).generation = s.generation := by
  simp only [State.cancelRoundOf]; repeat' split
  all_goals simp
@[simp] theorem State.cancelRoundOf_active : (s.cancelRoundOf n).active = s.active := by
  simp only [State.cancelRoundOf]; repeat' split
  all_goals simp
@[simp] theorem State.cancelRoundOf_shadow : (s.cancelRoundOf n).shadow = s.shadow := by
  simp only [State.cancelRoundOf]; repeat' split
  all_goals simp
@[simp] theorem State.cancelRoundOf_counters : (s.cancelRoundOf n).counters = s.counters := by
  simp only [State.cancelRoundOf]; repeat' split
  all_goals simp
@[simp] theorem State.cancelRoundOf_history : (s.cancelRoundOf n).history = s.history := by
  simp only [State.cancelRoundOf]; repeat' split
  all_goals simp
@[simp] theorem State.cancelRoundOf_slots : (s.cancelRoundOf n).slots = s.slots := by
  simp only [State.cancelRoundOf]; repeat' split
  all_goals simp
@[simp] theorem State.cancelRoundOf_waiting : (s.cancelRoundOf n).waiting = s.waiting := by
  simp only [State.cancelRoundOf]; repeat' split
  all_goals simp
@[simp] theorem State.cancelRoundOf_lanes : (s.cancelRoundOf n).lanes = s.lanes := by
  simp only [State.cancelRoundOf]; repeat' split
  all_goals simp
@[simp] theorem State.cancelRoundOf_watches : (s.cancelRoundOf n).watches = s.watches := by
  simp only [State.cancelRoundOf]; repeat' split
  all_goals simp
@[simp] theorem State.cancelRoundOf_destination : (s.cancelRoundOf n).destination = s.destination := by
  simp only [State.cancelRoundOf]; repeat' split
  all_goals simp
@[simp] theorem State.cancelRoundOf_stored : (s.cancelRoundOf n).stored = s.stored := by
  simp only [State.cancelRoundOf]; repeat' split
  all_goals simp
@[simp] theorem State.cancelRoundOf_writing : (s.cancelRoundOf n).writing = s.writing := by
  simp only [State.cancelRoundOf]; repeat' split
  all_goals simp
@[simp] theorem State.cancelRoundOf_restartPending : (s.cancelRoundOf n).restartPending = s.restartPending := by
  simp only [State.cancelRoundOf]; repeat' split
  all_goals simp
@[simp] theorem State.cancelRoundOf_lineClosed : (s.cancelRoundOf n).lineClosed = s.lineClosed := by
  simp only [State.cancelRoundOf]; repeat' split
  all_goals simp
@[simp] theorem State.cancelRoundOf_lineWaiting : (s.cancelRoundOf n).lineWaiting = s.lineWaiting := by
  simp only [State.cancelRoundOf]; repeat' split
  all_goals simp
@[simp] theorem State.cancelRoundOf_pending : (s.cancelRoundOf n).pending = s.pending := by
  simp only [State.cancelRoundOf]; repeat' split
  all_goals simp
@[simp] theorem State.cancelRoundOf_choices : (s.cancelRoundOf n).choices = s.choices := by
  simp only [State.cancelRoundOf]; repeat' split
  all_goals simp

end cancelRoundOf

section drift
variable (s : State) (r : Round) (i : ImageRecord) (e : Option Reason) (a b : Quad)

@[simp] theorem State.drift_identity : (s.drift r i e a b).identity = s.identity := by
  simp only [State.drift]
  simp
@[simp] theorem State.drift_powered : (s.drift r i e a b).powered = s.powered := by
  simp only [State.drift]
  simp
@[simp] theorem State.drift_time : (s.drift r i e a b).time = s.time := by
  simp only [State.drift]
  simp
@[simp] theorem State.drift_timing : (s.drift r i e a b).timing = s.timing := by
  simp only [State.drift]
  simp
@[simp] theorem State.drift_fallback : (s.drift r i e a b).fallback = s.fallback := by
  simp only [State.drift]
  simp
@[simp] theorem State.drift_generation : (s.drift r i e a b).generation = s.generation := by
  simp only [State.drift]
  simp
@[simp] theorem State.drift_active : (s.drift r i e a b).active = s.active := by
  simp only [State.drift]
  simp
@[simp] theorem State.drift_shadow : (s.drift r i e a b).shadow = s.shadow := by
  simp only [State.drift]
  simp
@[simp] theorem State.drift_counters : (s.drift r i e a b).counters = s.counters := by
  simp only [State.drift]
  simp
@[simp] theorem State.drift_history : (s.drift r i e a b).history = s.history := by
  simp only [State.drift]
  simp
@[simp] theorem State.drift_lanes : (s.drift r i e a b).lanes = s.lanes := by
  simp only [State.drift]
  simp
@[simp] theorem State.drift_watches : (s.drift r i e a b).watches = s.watches := by
  simp only [State.drift]
  simp
@[simp] theorem State.drift_destination : (s.drift r i e a b).destination = s.destination := by
  simp only [State.drift]
  simp
@[simp] theorem State.drift_stored : (s.drift r i e a b).stored = s.stored := by
  simp only [State.drift]
  simp
@[simp] theorem State.drift_writing : (s.drift r i e a b).writing = s.writing := by
  simp only [State.drift]
  simp
@[simp] theorem State.drift_restartPending : (s.drift r i e a b).restartPending = s.restartPending := by
  simp only [State.drift]
  simp
@[simp] theorem State.drift_lineClosed : (s.drift r i e a b).lineClosed = s.lineClosed := by
  simp only [State.drift]
  simp
@[simp] theorem State.drift_lineWaiting : (s.drift r i e a b).lineWaiting = s.lineWaiting := by
  simp only [State.drift]
  simp
@[simp] theorem State.drift_pending : (s.drift r i e a b).pending = s.pending := by
  simp only [State.drift]
  simp
@[simp] theorem State.drift_choices : (s.drift r i e a b).choices = s.choices := by
  simp only [State.drift]
  simp

end drift

section miss
variable (s : State) (r : Round) (i : ImageRecord) (v : Option Nat)

@[simp] theorem State.miss_identity : (s.miss r i v).identity = s.identity := by
  simp only [State.miss]; repeat' split
  all_goals simp
@[simp] theorem State.miss_powered : (s.miss r i v).powered = s.powered := by
  simp only [State.miss]; repeat' split
  all_goals simp
@[simp] theorem State.miss_time : (s.miss r i v).time = s.time := by
  simp only [State.miss]; repeat' split
  all_goals simp
@[simp] theorem State.miss_timing : (s.miss r i v).timing = s.timing := by
  simp only [State.miss]; repeat' split
  all_goals simp
@[simp] theorem State.miss_fallback : (s.miss r i v).fallback = s.fallback := by
  simp only [State.miss]; repeat' split
  all_goals simp
@[simp] theorem State.miss_generation : (s.miss r i v).generation = s.generation := by
  simp only [State.miss]; repeat' split
  all_goals simp
@[simp] theorem State.miss_active : (s.miss r i v).active = s.active := by
  simp only [State.miss]; repeat' split
  all_goals simp
@[simp] theorem State.miss_shadow : (s.miss r i v).shadow = s.shadow := by
  simp only [State.miss]; repeat' split
  all_goals simp
@[simp] theorem State.miss_counters : (s.miss r i v).counters = s.counters := by
  simp only [State.miss]; repeat' split
  all_goals simp
@[simp] theorem State.miss_history : (s.miss r i v).history = s.history := by
  simp only [State.miss]; repeat' split
  all_goals simp
@[simp] theorem State.miss_slots : (s.miss r i v).slots = s.slots := by
  simp only [State.miss]; repeat' split
  all_goals simp
@[simp] theorem State.miss_waiting : (s.miss r i v).waiting = s.waiting := by
  simp only [State.miss]; repeat' split
  all_goals simp
@[simp] theorem State.miss_lanes : (s.miss r i v).lanes = s.lanes := by
  simp only [State.miss]; repeat' split
  all_goals simp
@[simp] theorem State.miss_watches : (s.miss r i v).watches = s.watches := by
  simp only [State.miss]; repeat' split
  all_goals simp
@[simp] theorem State.miss_destination : (s.miss r i v).destination = s.destination := by
  simp only [State.miss]; repeat' split
  all_goals simp
@[simp] theorem State.miss_stored : (s.miss r i v).stored = s.stored := by
  simp only [State.miss]; repeat' split
  all_goals simp
@[simp] theorem State.miss_writing : (s.miss r i v).writing = s.writing := by
  simp only [State.miss]; repeat' split
  all_goals simp
@[simp] theorem State.miss_restartPending : (s.miss r i v).restartPending = s.restartPending := by
  simp only [State.miss]; repeat' split
  all_goals simp
@[simp] theorem State.miss_lineClosed : (s.miss r i v).lineClosed = s.lineClosed := by
  simp only [State.miss]; repeat' split
  all_goals simp
@[simp] theorem State.miss_lineWaiting : (s.miss r i v).lineWaiting = s.lineWaiting := by
  simp only [State.miss]; repeat' split
  all_goals simp
@[simp] theorem State.miss_pending : (s.miss r i v).pending = s.pending := by
  simp only [State.miss]; repeat' split
  all_goals simp
@[simp] theorem State.miss_choices : (s.miss r i v).choices = s.choices := by
  simp only [State.miss]; repeat' split
  all_goals simp

end miss

section judgeSummary
variable (s : State) (r : Round) (i : ImageRecord) (f : Frame)

@[simp] theorem State.judgeSummary_identity : (s.judgeSummary r i f).identity = s.identity := by
  simp only [State.judgeSummary]; repeat' split
  all_goals simp
@[simp] theorem State.judgeSummary_powered : (s.judgeSummary r i f).powered = s.powered := by
  simp only [State.judgeSummary]; repeat' split
  all_goals simp
@[simp] theorem State.judgeSummary_time : (s.judgeSummary r i f).time = s.time := by
  simp only [State.judgeSummary]; repeat' split
  all_goals simp
@[simp] theorem State.judgeSummary_timing : (s.judgeSummary r i f).timing = s.timing := by
  simp only [State.judgeSummary]; repeat' split
  all_goals simp
@[simp] theorem State.judgeSummary_fallback : (s.judgeSummary r i f).fallback = s.fallback := by
  simp only [State.judgeSummary]; repeat' split
  all_goals simp
@[simp] theorem State.judgeSummary_generation : (s.judgeSummary r i f).generation = s.generation := by
  simp only [State.judgeSummary]; repeat' split
  all_goals simp
@[simp] theorem State.judgeSummary_active : (s.judgeSummary r i f).active = s.active := by
  simp only [State.judgeSummary]; repeat' split
  all_goals simp
@[simp] theorem State.judgeSummary_shadow : (s.judgeSummary r i f).shadow = s.shadow := by
  simp only [State.judgeSummary]; repeat' split
  all_goals simp
@[simp] theorem State.judgeSummary_counters : (s.judgeSummary r i f).counters = s.counters := by
  simp only [State.judgeSummary]; repeat' split
  all_goals simp
@[simp] theorem State.judgeSummary_history : (s.judgeSummary r i f).history = s.history := by
  simp only [State.judgeSummary]; repeat' split
  all_goals simp
@[simp] theorem State.judgeSummary_lanes : (s.judgeSummary r i f).lanes = s.lanes := by
  simp only [State.judgeSummary]; repeat' split
  all_goals simp
@[simp] theorem State.judgeSummary_watches : (s.judgeSummary r i f).watches = s.watches := by
  simp only [State.judgeSummary]; repeat' split
  all_goals simp
@[simp] theorem State.judgeSummary_destination : (s.judgeSummary r i f).destination = s.destination := by
  simp only [State.judgeSummary]; repeat' split
  all_goals simp
@[simp] theorem State.judgeSummary_stored : (s.judgeSummary r i f).stored = s.stored := by
  simp only [State.judgeSummary]; repeat' split
  all_goals simp
@[simp] theorem State.judgeSummary_writing : (s.judgeSummary r i f).writing = s.writing := by
  simp only [State.judgeSummary]; repeat' split
  all_goals simp
@[simp] theorem State.judgeSummary_restartPending : (s.judgeSummary r i f).restartPending = s.restartPending := by
  simp only [State.judgeSummary]; repeat' split
  all_goals simp
@[simp] theorem State.judgeSummary_lineClosed : (s.judgeSummary r i f).lineClosed = s.lineClosed := by
  simp only [State.judgeSummary]; repeat' split
  all_goals simp
@[simp] theorem State.judgeSummary_lineWaiting : (s.judgeSummary r i f).lineWaiting = s.lineWaiting := by
  simp only [State.judgeSummary]; repeat' split
  all_goals simp
@[simp] theorem State.judgeSummary_pending : (s.judgeSummary r i f).pending = s.pending := by
  simp only [State.judgeSummary]; repeat' split
  all_goals simp
@[simp] theorem State.judgeSummary_choices : (s.judgeSummary r i f).choices = s.choices := by
  simp only [State.judgeSummary]; repeat' split
  all_goals simp

end judgeSummary

section takeSummaryResponse
variable (s : State) (f : Frame)

@[simp] theorem State.takeSummaryResponse_identity : (s.takeSummaryResponse f).identity = s.identity := by
  simp only [State.takeSummaryResponse]; repeat' split
  all_goals simp
@[simp] theorem State.takeSummaryResponse_powered : (s.takeSummaryResponse f).powered = s.powered := by
  simp only [State.takeSummaryResponse]; repeat' split
  all_goals simp
@[simp] theorem State.takeSummaryResponse_time : (s.takeSummaryResponse f).time = s.time := by
  simp only [State.takeSummaryResponse]; repeat' split
  all_goals simp
@[simp] theorem State.takeSummaryResponse_timing : (s.takeSummaryResponse f).timing = s.timing := by
  simp only [State.takeSummaryResponse]; repeat' split
  all_goals simp
@[simp] theorem State.takeSummaryResponse_fallback : (s.takeSummaryResponse f).fallback = s.fallback := by
  simp only [State.takeSummaryResponse]; repeat' split
  all_goals simp
@[simp] theorem State.takeSummaryResponse_generation : (s.takeSummaryResponse f).generation = s.generation := by
  simp only [State.takeSummaryResponse]; repeat' split
  all_goals simp
@[simp] theorem State.takeSummaryResponse_active : (s.takeSummaryResponse f).active = s.active := by
  simp only [State.takeSummaryResponse]; repeat' split
  all_goals simp
@[simp] theorem State.takeSummaryResponse_shadow : (s.takeSummaryResponse f).shadow = s.shadow := by
  simp only [State.takeSummaryResponse]; repeat' split
  all_goals simp
@[simp] theorem State.takeSummaryResponse_counters : (s.takeSummaryResponse f).counters = s.counters := by
  simp only [State.takeSummaryResponse]; repeat' split
  all_goals simp
@[simp] theorem State.takeSummaryResponse_history : (s.takeSummaryResponse f).history = s.history := by
  simp only [State.takeSummaryResponse]; repeat' split
  all_goals simp
@[simp] theorem State.takeSummaryResponse_lanes : (s.takeSummaryResponse f).lanes = s.lanes := by
  simp only [State.takeSummaryResponse]; repeat' split
  all_goals simp
@[simp] theorem State.takeSummaryResponse_watches : (s.takeSummaryResponse f).watches = s.watches := by
  simp only [State.takeSummaryResponse]; repeat' split
  all_goals simp
@[simp] theorem State.takeSummaryResponse_destination : (s.takeSummaryResponse f).destination = s.destination := by
  simp only [State.takeSummaryResponse]; repeat' split
  all_goals simp
@[simp] theorem State.takeSummaryResponse_stored : (s.takeSummaryResponse f).stored = s.stored := by
  simp only [State.takeSummaryResponse]; repeat' split
  all_goals simp
@[simp] theorem State.takeSummaryResponse_writing : (s.takeSummaryResponse f).writing = s.writing := by
  simp only [State.takeSummaryResponse]; repeat' split
  all_goals simp
@[simp] theorem State.takeSummaryResponse_restartPending : (s.takeSummaryResponse f).restartPending = s.restartPending := by
  simp only [State.takeSummaryResponse]; repeat' split
  all_goals simp
@[simp] theorem State.takeSummaryResponse_lineClosed : (s.takeSummaryResponse f).lineClosed = s.lineClosed := by
  simp only [State.takeSummaryResponse]; repeat' split
  all_goals simp
@[simp] theorem State.takeSummaryResponse_lineWaiting : (s.takeSummaryResponse f).lineWaiting = s.lineWaiting := by
  simp only [State.takeSummaryResponse]; repeat' split
  all_goals simp
@[simp] theorem State.takeSummaryResponse_pending : (s.takeSummaryResponse f).pending = s.pending := by
  simp only [State.takeSummaryResponse]; repeat' split
  all_goals simp
@[simp] theorem State.takeSummaryResponse_choices : (s.takeSummaryResponse f).choices = s.choices := by
  simp only [State.takeSummaryResponse]; repeat' split
  all_goals simp

end takeSummaryResponse

section scanTimeout
variable (s : State)

@[simp] theorem State.scanTimeout_identity : (s.scanTimeout).identity = s.identity := by
  simp only [State.scanTimeout]; repeat' split
  all_goals simp
@[simp] theorem State.scanTimeout_powered : (s.scanTimeout).powered = s.powered := by
  simp only [State.scanTimeout]; repeat' split
  all_goals simp
@[simp] theorem State.scanTimeout_time : (s.scanTimeout).time = s.time := by
  simp only [State.scanTimeout]; repeat' split
  all_goals simp
@[simp] theorem State.scanTimeout_timing : (s.scanTimeout).timing = s.timing := by
  simp only [State.scanTimeout]; repeat' split
  all_goals simp
@[simp] theorem State.scanTimeout_fallback : (s.scanTimeout).fallback = s.fallback := by
  simp only [State.scanTimeout]; repeat' split
  all_goals simp
@[simp] theorem State.scanTimeout_generation : (s.scanTimeout).generation = s.generation := by
  simp only [State.scanTimeout]; repeat' split
  all_goals simp
@[simp] theorem State.scanTimeout_active : (s.scanTimeout).active = s.active := by
  simp only [State.scanTimeout]; repeat' split
  all_goals simp
@[simp] theorem State.scanTimeout_shadow : (s.scanTimeout).shadow = s.shadow := by
  simp only [State.scanTimeout]; repeat' split
  all_goals simp
@[simp] theorem State.scanTimeout_counters : (s.scanTimeout).counters = s.counters := by
  simp only [State.scanTimeout]; repeat' split
  all_goals simp
@[simp] theorem State.scanTimeout_history : (s.scanTimeout).history = s.history := by
  simp only [State.scanTimeout]; repeat' split
  all_goals simp
@[simp] theorem State.scanTimeout_slots : (s.scanTimeout).slots = s.slots := by
  simp only [State.scanTimeout]; repeat' split
  all_goals simp
@[simp] theorem State.scanTimeout_waiting : (s.scanTimeout).waiting = s.waiting := by
  simp only [State.scanTimeout]; repeat' split
  all_goals simp
@[simp] theorem State.scanTimeout_lanes : (s.scanTimeout).lanes = s.lanes := by
  simp only [State.scanTimeout]; repeat' split
  all_goals simp
@[simp] theorem State.scanTimeout_watches : (s.scanTimeout).watches = s.watches := by
  simp only [State.scanTimeout]; repeat' split
  all_goals simp
@[simp] theorem State.scanTimeout_destination : (s.scanTimeout).destination = s.destination := by
  simp only [State.scanTimeout]; repeat' split
  all_goals simp
@[simp] theorem State.scanTimeout_stored : (s.scanTimeout).stored = s.stored := by
  simp only [State.scanTimeout]; repeat' split
  all_goals simp
@[simp] theorem State.scanTimeout_writing : (s.scanTimeout).writing = s.writing := by
  simp only [State.scanTimeout]; repeat' split
  all_goals simp
@[simp] theorem State.scanTimeout_restartPending : (s.scanTimeout).restartPending = s.restartPending := by
  simp only [State.scanTimeout]; repeat' split
  all_goals simp
@[simp] theorem State.scanTimeout_lineClosed : (s.scanTimeout).lineClosed = s.lineClosed := by
  simp only [State.scanTimeout]; repeat' split
  all_goals simp
@[simp] theorem State.scanTimeout_lineWaiting : (s.scanTimeout).lineWaiting = s.lineWaiting := by
  simp only [State.scanTimeout]; repeat' split
  all_goals simp
@[simp] theorem State.scanTimeout_pending : (s.scanTimeout).pending = s.pending := by
  simp only [State.scanTimeout]; repeat' split
  all_goals simp
@[simp] theorem State.scanTimeout_choices : (s.scanTimeout).choices = s.choices := by
  simp only [State.scanTimeout]; repeat' split
  all_goals simp

end scanTimeout

end Sys2Proof.Machine
end

