-- ==== Sys2Proof/Laws/Requests.lean ====
section
/-! SUPPORT. How a frame reaches the meaning of its row: what a row says of the frame and the port, and the two shared
ways in, a request's and a management command's. -/

namespace Sys2Proof.Machine

theorem State.takes_of_rowOf {s : State} {p : Port} {f : Frame} {r : FrameRow} (h : s.rowOf p f = r)
    (hr : r ≠ .notTaken) : s.takes p = true := by
  unfold State.rowOf at h; split at h <;> simp_all

theorem State.passesCheck_of_rowOf {s : State} {p : Port} {f : Frame} {r : FrameRow} (h : s.rowOf p f = r)
    (hr : r ≠ .notTaken) (hc : r ≠ .checkDiscard) : s.passesCheck f = true := by
  unfold State.rowOf at h; repeat' split at h
  all_goals simp_all

theorem Frame.length_bounds {f : Frame} (h : f.legalLength = true) : 46 ≤ f.payload.length ∧ f.payload.length ≤ 1504 := by
  simp only [Frame.legalLength, Bool.and_eq_true, decide_eq_true_eq] at h
  exact h

/-- What a well-formed request does outside Closed fallback, with its controller number. -/
def State.requestEffect (s : State) (o : Operation) (n : Fin 32) (f : Frame) : State :=
  match o with
  | .read => s.passRead n .read f
  | .summary => s.passRead n .summary f
  | .setParam => s.admitSingle n .setParam f
  | .mode => s.admitSingle n .mode f
  | .force => s.admitSingle n .force f
  | .begins => s.admitBegin n f
  | .segment => s.handToTracker n .segment f fun s k => s.segmentAt n k f
  | .commit => s.handToTracker n .commit f fun s k => s.commitAt n k f
  | .abandon => s.handToTracker n .abandon f fun s k => s.abandonAt n k f

/-- Every request row runs `takeRequest` over its effect. -/
theorem exec_requestInstr (o : Operation) (f : Frame) (s : State) :
    exec (requestInstr o f) s = .next (s.takeRequest o f fun s n => s.requestEffect o n f) := by
  cases o <;> rfl

/-- A request that is taken has its effect. -/
theorem exec_requestInstr_taken {s : State} {o : Operation} {f : Frame} {n : Fin 32} (h : s.takesRequest o f n) :
    exec (requestInstr o f) s = .next (s.requestEffect o n f) := by
  obtain ⟨hr, hm, hf, hn⟩ := h
  simp [exec_requestInstr, State.takeRequest, State.whenRow, hr, hm, hf, hn]

/-- What a management command does once it is accepted and checked: the state it leaves and its reply. -/
def State.commandBody (s : State) (c : Command) (f : Frame) : State × Reply :=
  match c with
  | .identify => s.doIdentify (argumentBytes f.payload)
  | .readTime => s.doReadTime (argumentBytes f.payload)
  | .readController => s.doReadController (argumentBytes f.payload)
  | .readRecord => s.doReadRecord (argumentBytes f.payload)
  | .loadRecord => s.doLoadRecord (argumentBytes f.payload)
  | .clearShadow => s.doClearShadow (argumentBytes f.payload)
  | .selectBank => s.doSelectBank f.src (argumentBytes f.payload)
  | .openWindow => s.doOpenWindow (argumentBytes f.payload)
  | .closeWindow => s.doCloseWindow (argumentBytes f.payload)
  | .quarantine => s.doQuarantine (argumentBytes f.payload)
  | .release => s.doRelease (argumentBytes f.payload)
  | .approveCandidate => s.doApproveCandidate (argumentBytes f.payload)
  | .discardCandidate => s.doDiscardCandidate (argumentBytes f.payload)
  | .armWatch => s.doArmWatch (argumentBytes f.payload)
  | .disarmWatch => s.doDisarmWatch (argumentBytes f.payload)
  | .probe => s.doProbe (argumentBytes f.payload)
  | .readCounters => s.doReadCounters (argumentBytes f.payload)
  | .setTiming => s.doSetTiming (argumentBytes f.payload)
  | .setNoticeDestination => s.doSetNoticeDestination (argumentBytes f.payload)
  | .restart => s.answer .ok

/-- A management command other than RESTART that is taken runs its body and appends its reply. -/
theorem exec_managementInstr_taken {s : State} {c : Command} {p : Port} {f : Frame} (h : s.takesCommand c p f)
    (hc : c ≠ .restart) :
    exec (managementInstr c p f) s = .next ((s.commandBody c f).1.reply f .reply (s.commandBody c f).2) := by
  obtain ⟨hr, ha, hk⟩ := h
  cases c <;> first | exact absurd rfl hc | exact congrArg Host.Outcome.next (by
    simp [State.takeCommand, State.whenRow, hr, State.manage, ha, hk, State.commandBody])

end Sys2Proof.Machine
end

