-- ==== Sys2Proof/Laws/Tables.lean ====
section
/-! SUPPORT. Reading a record of a table after another has been written (after itself: Laws/State.lean), the shapes a
shared operation's answer can have, what the moves of notices do and keep, and the list facts that the lookups of the
active bank, the bank check and the Notice Queue rest on. -/

namespace Sys2Proof.Machine

/-! ## Read after write -/

theorem State.controller_setController_of_ne (s : State) {n m : Fin 32} (c : Option Controller) (h : m ≠ n) :
    (s.setController n c).controller m = s.controller m := by
  simp only [State.setController, State.controller]
  exact Vector.getElem_set_ne _ _ (by omega)

@[simp] theorem State.window_setController (s : State) (n : Fin 32) (c : Controller) :
    (s.setController n (some c)).window? n = some c.window := by
  simp [State.window?]

theorem State.window_setController_of_ne (s : State) {n m : Fin 32} (c : Option Controller) (h : m ≠ n) :
    (s.setController n c).window? m = s.window? m := by
  simp only [State.window?, State.controller_setController_of_ne s c h]

theorem State.slot_setSlot_of_ne (s : State) {k j : Fin 8} (x : Slot) (h : j ≠ k) :
    (s.setSlot k x).slot j = s.slot j := by
  simp only [State.slot, State.setSlot]
  exact Vector.getElem_set_ne _ _ (by omega)

theorem State.lane_setLane_of_ne (s : State) {l j : Fin 2} (w : Option LaneWork) (h : j ≠ l) :
    (s.setLane l w).lane j = s.lane j := by
  simp only [State.lane, State.setLane]
  exact Vector.getElem_set_ne _ _ (by omega)

theorem State.watch_setWatch_of_ne (s : State) {w v : Fin 8} (x : Option Watch) (h : v ≠ w) :
    (s.setWatch w x).watch v = s.watch v := by
  simp only [State.watch, State.setWatch]
  exact Vector.getElem_set_ne _ _ (by omega)

theorem State.count_setCount_of_ne (s : State) {n m : Fin 32} (c : ControllerCounters) (h : m ≠ n) :
    (s.setCount n c).count m = s.count m := by
  simp only [State.count, State.setCount]
  exact Vector.getElem_set_ne _ _ (by omega)

/-! ## Records read through an operation that does not write them -/

@[simp] theorem State.controller_post (s : State) (x : Notice) (n : Fin 32) :
    (s.post x).controller n = s.controller n := by
  simp [State.controller]

@[simp] theorem State.window_post (s : State) (x : Notice) (n : Fin 32) : (s.post x).window? n = s.window? n := by
  simp [State.window?]

@[simp] theorem State.slot_post (s : State) (x : Notice) (k : Fin 8) : (s.post x).slot k = s.slot k := by
  simp [State.slot]

@[simp] theorem State.watch_post (s : State) (x : Notice) (w : Fin 8) : (s.post x).watch w = s.watch w := by
  simp [State.watch]

/-! ## The shapes of an answer -/

/-- An originated frame is placed at its port, or is counted as not sent. -/
theorem State.originate_shape (s : State) (p : Port) (o : OrigFrame) :
    s.originate p o = s.setPort p ((s.port p).placeOriginated o s.time) ∨ s.originate p o = s.countNotSent 1 := by
  unfold State.originate; dsimp only; split
  · exact .inl rfl
  · exact .inr rfl

/-- A frame that goes across is placed at its port, or is counted as lost to a link or as an overflow. -/
theorem State.forward_shape (s : State) (p : Port) (f : Frame) :
    s.forward p f = s.setPort p ((s.port p).placeForwarded f s.time) ∨ s.forward p f = s.countLinkDiscarded 1
      ∨ s.forward p f = s.countOverflow := by
  unfold State.forward; dsimp only; repeat' split
  · exact .inr (.inl rfl)
  · exact .inl rfl
  · exact .inr (.inr rfl)

/-- A change of a controller's dynamic state is one of the table of controllers alone. -/
theorem State.updateController_shape (s : State) (n : Fin 32) (f : Controller → Controller) :
    ∃ v, s.updateController n f = { s with controllers := v } := by
  unfold State.updateController; split
  · exact ⟨_, rfl⟩
  · exact ⟨s.controllers, rfl⟩

/-! ## The egress arbiter -/

/-- What the arbiter can choose: nothing, from empty queues; the head of one queue or of the other. -/
theorem PortState.choose_cases (q : PortState) :
    (q.choose = none ∧ q.originate = [] ∧ q.forwarded = [])
      ∨ (∃ f fs n, q.forwarded = f :: fs ∧ n ≤ q.turns + 1
          ∧ q.choose = some { q with forwarded := fs, sending := some (.forwarded f), turns := n, begun := none })
      ∨ (∃ o os, q.originate = o :: os
          ∧ q.choose = some { q with originate := os, sending := some (.originated o), turns := 0, begun := none }) := by
  unfold PortState.choose
  split
  · exact .inl ⟨rfl, ‹_›, ‹_›⟩
  · exact .inr (.inl ⟨_, _, 0, ‹_›, by omega, rfl⟩)
  · exact .inr (.inr ⟨_, _, ‹_›, rfl⟩)
  · split
    · exact .inr (.inl ⟨_, _, _, ‹_›, Nat.le_refl _, rfl⟩)
    · exact .inr (.inr ⟨_, _, ‹_›, rfl⟩)

/-- While the link is down or a frame is being sent the arbiter chooses nothing. -/
theorem PortState.arbitrate_of_busy {q : PortState} (h : q.isFree = false) : q.arbitrate = q := by
  simp [PortState.arbitrate, h]

@[simp] theorem PortState.arbitrate_up (q : PortState) : q.arbitrate.up = q.up := by
  obtain ⟨h, -⟩ | ⟨_, _, _, -, -, h⟩ | ⟨_, _, -, h⟩ := q.choose_cases <;> simp only [PortState.arbitrate, h] <;> split <;> rfl

@[simp] theorem PortState.placeForwarded_up (q : PortState) (f : Frame) (now : Nat) :
    (q.placeForwarded f now).up = q.up := by
  unfold PortState.placeForwarded; dsimp only; split <;> simp

@[simp] theorem PortState.placeOriginated_up (q : PortState) (o : OrigFrame) (now : Nat) :
    (q.placeOriginated o now).up = q.up := by
  simp [PortState.placeOriginated]

@[simp] theorem PortState.finish_up (q : PortState) : q.finish.up = q.up := by
  unfold PortState.finish; split <;> simp

/-- What the steps of a port can leave at a free transmitter: nothing in either queue. -/
theorem PortState.arbitrate_isIdle {q : PortState} (h : q.arbitrate.isFree = true) : q.arbitrate.isIdle = true := by
  by_cases hq : q.isFree
  · obtain ⟨hc, ho, hf⟩ | ⟨_, _, _, -, -, hc⟩ | ⟨_, _, -, hc⟩ := q.choose_cases <;>
      simp_all [PortState.arbitrate, PortState.isFree, PortState.isIdle]
  · simp_all [PortState.arbitrate]

/-- An originated frame that stood in the queue stands there after a choice, or is the one now being sent. -/
theorem PortState.arbitrate_holds (q : PortState) {o : OrigFrame} (h : o ∈ q.originate) :
    o ∈ q.arbitrate.originate ∨ q.arbitrate.sending = some (.originated o) := by
  obtain ⟨hc, -⟩ | ⟨_, _, _, -, -, hc⟩ | ⟨_, _, ho, hc⟩ := q.choose_cases <;>
    simp only [PortState.arbitrate, hc] <;> split <;> simp_all
  exact h.symm.imp_right Eq.symm

/-- A frame placed in the originate queue stands there, or is the one now being sent. -/
theorem PortState.placeOriginated_holds (q : PortState) (o : OrigFrame) (now : Nat) :
    o ∈ (q.placeOriginated o now).originate ∨ (q.placeOriginated o now).sending = some (.originated o) :=
  PortState.arbitrate_holds _ (by simp)

/-! ## Notices that move (R141) -/

theorem State.noticeMoves_iff (s : State) :
    s.noticeMoves = true ↔ s.notices ≠ [] ∧ s.plant.originate.length < Config.plantPlaces := by
  simp [State.noticeMoves]

/-- A move takes the head of the Notice Queue to the Plant originate queue, and with it the dropped count. -/
theorem State.moveNotice_of_cons (s : State) {n : Notice} {rest : List Notice} (h : s.notices = n :: rest) :
    s.moveNotice = { s with
      notices := rest, dropped := 0, plant := s.plant.placeOriginated (s.noticeOut n) s.time } := by
  simp only [State.moveNotice, h]

/-- With no move due nothing moves. -/
theorem State.settleNotices_of_still (s : State) (h : s.noticeMoves = false) : s.settleNotices = s := by
  unfold State.settleNotices; cases s.notices.length <;> simp [State.moveNotices, h]

/-- With a move due the head moves, and then the moves that are still due are made. -/
theorem State.settleNotices_of_moves (s : State) (h : s.noticeMoves = true) :
    s.settleNotices = s.moveNotice.settleNotices := by
  obtain ⟨n, rest, hn⟩ := List.exists_cons_of_ne_nil (s.noticeMoves_iff.1 h).1
  have hm : s.moveNotice.notices = rest := by rw [s.moveNotice_of_cons hn]
  simp only [State.settleNotices, hm, hn, List.length_cons, State.moveNotices, h, if_true]

/-- What every due move keeps, the moves keep together; and after them none is due. -/
theorem State.settleNotices_keeps {P : State → Prop} (hP : ∀ s, s.noticeMoves = true → P s → P s.moveNotice)
    {s : State} (hs : P s) : P s.settleNotices ∧ s.settleNotices.noticeMoves = false := by
  generalize hk : s.notices.length = k
  induction k generalizing s with
  | zero =>
    have h : s.noticeMoves = false := by simp [State.noticeMoves, List.eq_nil_of_length_eq_zero hk]
    rw [s.settleNotices_of_still h]; exact ⟨hs, h⟩
  | succ k ih =>
    cases h : s.noticeMoves with
    | false => rw [s.settleNotices_of_still h]; exact ⟨hs, h⟩
    | true =>
      rw [s.settleNotices_of_moves h]
      refine ih (hP s h hs) ?_
      obtain ⟨n, rest, hn⟩ := List.exists_cons_of_ne_nil (s.noticeMoves_iff.1 h).1
      rw [s.moveNotice_of_cons hn]
      simpa [hn] using hk

/-- After the moves the Notice Queue is empty or the Plant originate queue is full. -/
theorem State.settleNotices_settled (s : State) :
    s.settleNotices.notices ≠ [] → Config.plantPlaces ≤ s.settleNotices.plant.originate.length := by
  intro hn
  have h := (State.settleNotices_keeps (P := fun _ => True) (fun _ _ h => h) (s := s) trivial).2
  exact Nat.le_of_not_lt fun hlt => by simp [s.settleNotices.noticeMoves_iff.2 ⟨hn, hlt⟩] at h

/-- Behind a full Plant originate queue a posted notice stays in the Notice Unit. -/
theorem State.post_of_full (s : State) (n : Notice) (hd : s.destination ≠ 0#48)
    (h : Config.plantPlaces ≤ s.plant.originate.length) : s.post n = s.queueNotice n := by
  obtain ⟨_, _, hq⟩ := s.queueNotice_shape n
  rw [State.post, if_neg hd, State.settleNotices_of_still]
  rw [hq]; simp [State.noticeMoves, h]

/-- With a free place in the Plant originate queue a posted notice passes straight on through an empty Notice Queue. -/
theorem State.post_of_free (s : State) (n : Notice) (hd : s.destination ≠ 0#48) (hn : s.notices = [])
    (h : s.plant.originate.length < Config.plantPlaces) :
    s.post n = { s with dropped := 0, plant := s.plant.placeOriginated (s.noticeOut n) s.time } := by
  have hq : s.queueNotice n = { s with notices := [n] } := by
    simp [State.queueNotice, placeNotice, hn, Config.noticePlaces]
  rw [State.post, if_neg hd, hq, State.settleNotices_of_moves, State.moveNotice_of_cons _ rfl,
    State.settleNotices_of_still]
  · simp only [State.noticeOut, hn]
  · simp [State.noticeMoves]
  · simp [State.noticeMoves, h]

/-- A frame placed where there is a place keeps a port good. -/
theorem PortState.placeOriginated_good {q : PortState} {places : Nat} (hq : q.Good places) (o : OrigFrame) (now : Nat)
    (h : q.originate.length < places) : (q.placeOriginated o now).Good places := by
  obtain ⟨hf, -, ht, hd, hu⟩ := hq
  cases hfree : q.isFree with
  | false =>
    rw [PortState.placeOriginated, PortState.arbitrate_of_busy (by simpa [PortState.isFree] using hfree)]
    refine ⟨hf, by simp; omega, ?_, hd, fun hup hs => ?_⟩
    · dsimp only; split
      · decide
      · exact ht
    · simp_all [PortState.isFree]
  | true =>
    simp only [PortState.isFree, Bool.and_eq_true, Option.isNone_iff_eq_none] at hfree
    obtain ⟨hfwd, horig⟩ := hu hfree.1 hfree.2
    simp [PortState.placeOriginated, PortState.arbitrate, PortState.isFree, PortState.choose, PortState.Good,
      hfree.1, hfree.2, hfwd, horig]

/-- The moves that are due keep both ports good. -/
theorem State.settleNotices_ports {s : State} (h : s.PortsGood) : s.settleNotices.PortsGood := by
  refine (State.settleNotices_keeps (P := State.PortsGood) (fun s hm hs => ?_) h).1
  obtain ⟨hne, hlt⟩ := s.noticeMoves_iff.1 hm
  obtain ⟨n, rest, hn⟩ := List.exists_cons_of_ne_nil hne
  rw [s.moveNotice_of_cons hn]
  exact ⟨PortState.placeOriginated_good hs.1 _ _ hlt, hs.2⟩

/-- A posted notice keeps both ports good. -/
theorem State.post_ports {s : State} (h : s.PortsGood) (n : Notice) : (s.post n).PortsGood := by
  unfold State.post; split
  · exact h
  · obtain ⟨_, _, hq⟩ := s.queueNotice_shape n
    exact State.settleNotices_ports (by rw [hq]; exact h)

/-- Two states hold the same for the Notice Unit and its moves: all that a posted notice reads or changes. -/
abbrev State.NoticesAgree (s t : State) : Prop :=
  s.notices = t.notices ∧ s.dropped = t.dropped ∧ s.plant = t.plant ∧ s.identity = t.identity
    ∧ s.destination = t.destination ∧ s.time = t.time

theorem State.moveNotices_agree (k : Nat) {s t : State} (h : s.NoticesAgree t) :
    (s.moveNotices k).NoticesAgree (t.moveNotices k) := by
  induction k generalizing s t with
  | zero => exact h
  | succ k ih =>
    obtain ⟨hn, hd, hp, hi, hz, ht⟩ := h
    have hm : s.noticeMoves = t.noticeMoves := by simp only [State.noticeMoves, hn, hp]
    unfold State.moveNotices; rw [hm]; split
    · refine ih ?_
      unfold State.moveNotice; rw [← hn]; split
      · exact ⟨hn, hd, hp, hi, hz, ht⟩
      · exact ⟨rfl, rfl, by simp only [State.noticeOut, hd, hp, hi, hz, ht], hi, hz, ht⟩
    · exact ⟨hn, hd, hp, hi, hz, ht⟩

/-- What a posted notice does to the Notice Unit and the Plant port depends on nothing else of the state. -/
theorem State.post_agree {s t : State} (h : s.NoticesAgree t) (n : Notice) : (s.post n).NoticesAgree (t.post n) := by
  obtain ⟨hn, hd, hp, hi, hz, ht⟩ := h
  have hq : (s.queueNotice n).NoticesAgree (t.queueNotice n) := by
    unfold State.queueNotice; rw [← hn, ← hd]; repeat' split
    all_goals exact ⟨rfl, rfl, hp, hi, hz, ht⟩
  unfold State.post State.settleNotices; rw [← hz, ← hq.1]; split
  · exact ⟨hn, hd, hp, hi, hz, ht⟩
  · exact State.moveNotices_agree _ hq

/-- A choice keeps a RESTART reply in the port: queued, or being sent. -/
theorem PortState.arbitrate_restartReply (q : PortState) :
    (q.arbitrate.originate.any OrigFrame.isRestartReply || q.arbitrate.sending.any Sending.isRestartReply) =
      (q.originate.any OrigFrame.isRestartReply || q.sending.any Sending.isRestartReply) := by
  cases hfree : q.isFree with
  | false => rw [PortState.arbitrate_of_busy hfree]
  | true =>
    have hs : q.sending = none := by simpa using (Bool.and_eq_true_iff.1 hfree).2
    obtain ⟨hc, -⟩ | ⟨_, _, _, -, -, hc⟩ | ⟨_, _, ho, hc⟩ := q.choose_cases
    · simp [PortState.arbitrate, hc]
    · simp [PortState.arbitrate, hfree, hc, hs, Sending.isRestartReply]
    · simp [PortState.arbitrate, hfree, hc, hs, ho, Sending.isRestartReply, Bool.or_comm]

/-- A notice that moves leaves a RESTART reply where it waits. -/
theorem State.moveNotice_restartReplyWaits (s : State) : s.moveNotice.restartReplyWaits = s.restartReplyWaits := by
  unfold State.moveNotice; split
  · rfl
  · rename_i n _ _
    have hk : (s.noticeOut n).isRestartReply = false := rfl
    simp [State.restartReplyWaits, PortState.placeOriginated, PortState.arbitrate_restartReply, hk]

theorem State.settleNotices_restartReplyWaits (s : State) :
    s.settleNotices.restartReplyWaits = s.restartReplyWaits :=
  (State.settleNotices_keeps (P := fun t => t.restartReplyWaits = s.restartReplyWaits)
    (fun t _ h => t.moveNotice_restartReplyWaits.trans h) rfl).1

@[simp] theorem State.post_restartReplyWaits (s : State) (n : Notice) :
    (s.post n).restartReplyWaits = s.restartReplyWaits := by
  unfold State.post; split
  · rfl
  · obtain ⟨_, _, hq⟩ := s.queueNotice_shape n
    rw [State.settleNotices_restartReplyWaits, hq]; rfl

/-- Several warm restarts keep what one keeps. -/
theorem State.warmRestarts_keeps {β : Type} (g : State → β) (h : ∀ s : State, g s.warmRestart = g s) :
    ∀ (n : Nat) (s : State), g (s.warmRestarts n) = g s
  | 0, _ => rfl
  | n + 1, s => by rw [State.warmRestarts, State.warmRestarts_keeps g h n, h]

/-! ## Lists -/

/-- A list whose watch notices all stand first is cut at the last of them. -/
theorem watchRun_eq_filter (q : List Notice) (h : q.Pairwise (fun a b => b.isWatch = true → a.isWatch = true)) :
    q.takeWhile Notice.isWatch = q.filter Notice.isWatch
      ∧ q.dropWhile Notice.isWatch = q.filter (fun a => !a.isWatch) := by
  induction q with
  | nil => simp
  | cons a q ih =>
    obtain ⟨hfirst, hrest⟩ := List.pairwise_cons.1 h
    cases ha : a.isWatch with
    | true => simpa [ha] using ih hrest
    | false =>
      have hall : ∀ b ∈ q, b.isWatch = false := fun b hb => Bool.eq_false_iff.2 (fun hw => by
        simp [hfirst b hb hw] at ha)
      have hnone : q.filter Notice.isWatch = [] := List.filter_eq_nil_iff.2 (fun b hb => by simp [hall b hb])
      have hself : q.filter (fun a => !a.isWatch) = q := List.filter_eq_self.2 (fun b hb => by simp [hall b hb])
      simp [ha, hnone, hself]

/-- The first entry of a numbered list that satisfies a condition, by its place. -/
theorem find_zipIdx_iff {α : Type} {p : α → Bool} (l : List α) (k i : Nat) (a : α) :
    (l.zipIdx k).find? (fun x => p x.1) = some (a, i) ↔
      k ≤ i ∧ l[i - k]? = some a ∧ p a = true ∧ ∀ j, j < i - k → ∀ b, l[j]? = some b → p b = false := by
  induction l generalizing k with
  | nil => simp
  | cons x l ih =>
    simp only [List.zipIdx_cons, List.find?_cons]
    cases hx : p x with
    | true =>
      constructor
      · intro h
        simp only [Option.some.injEq, Prod.mk.injEq] at h
        obtain ⟨rfl, rfl⟩ := h
        simp [hx]
      · rintro ⟨hk, hget, hp, hbelow⟩
        by_cases hik : i = k
        · subst hik; simp at hget; simp [hget]
        · have := hbelow 0 (by omega) x (by simp)
          simp [hx] at this
    | false =>
      simp only []
      rw [ih]
      constructor
      · rintro ⟨hk, hget, hp, hbelow⟩
        refine ⟨by omega, ?_, hp, fun j hj b hb => ?_⟩
        · rw [show i - k = i - (k + 1) + 1 by omega]; simpa using hget
        · cases j with
          | zero => simp at hb; rw [← hb]; exact hx
          | succ j => exact hbelow j (by omega) b (by simpa using hb)
      · rintro ⟨hk, hget, hp, hbelow⟩
        have hne : i ≠ k := by rintro rfl; simp at hget; rw [hget] at hx; simp [hp] at hx
        refine ⟨by omega, ?_, hp, fun j hj b hb => hbelow (j + 1) (by omega) b (by simpa using hb)⟩
        rw [show i - k = i - (k + 1) + 1 by omega] at hget; simpa using hget

/-- A fold over steps that each leave the state as it is leaves it as it is. -/
theorem foldl_still {α : Type} (f : State → α → State) (s : State) :
    ∀ l : List α, (∀ a ∈ l, f s a = s) → l.foldl f s = s
  | [], _ => rfl
  | a :: l, h => by
    rw [List.foldl_cons, h a (List.mem_cons_self ..)]
    exact foldl_still f s l (fun b hb => h b (List.mem_cons_of_mem _ hb))

/-! ## The first failure of a table (R155) -/

/-- The record at a position of a table fails its condition, over the records below it. -/
def failsAt {α : Type} (bad : List α → α → Bool) (below : List α) (l : List (Option α)) (i : Nat) : Prop :=
  ∃ r, l[i]? = some (some r) ∧ bad (((l.take i).filterMap id).reverse ++ below) r = true

theorem failsAt_zero {α : Type} (bad : List α → α → Bool) (below : List α) (o : Option α) (l : List (Option α)) :
    failsAt bad below (o :: l) 0 ↔ ∃ r, o = some r ∧ bad below r = true := by
  simp [failsAt]

theorem failsAt_succ {α : Type} (bad : List α → α → Bool) (below : List α) (o : Option α) (l : List (Option α))
    (i : Nat) : failsAt bad below (o :: l) (i + 1) ↔ failsAt bad (o.toList ++ below) l i := by
  cases o <;> simp [failsAt]

/-- The first failure is at a position that fails, with no failing position before it; there is none when no position
fails. -/
theorem firstFailure_spec {α : Type} (bad : List α → α → Bool) (l : List (Option α)) (below : List α) (i : Nat) :
    (∀ k, firstFailure bad below i l = some (i + k) ↔ failsAt bad below l k ∧ ∀ j < k, ¬ failsAt bad below l j)
    ∧ (∀ k, firstFailure bad below i l = some k → i ≤ k)
    ∧ (firstFailure bad below i l = none ↔ ∀ j, ¬ failsAt bad below l j) := by
  induction l generalizing below i with
  | nil => simp [firstFailure, failsAt]
  | cons o l ih =>
    have hstep : ∀ bad', bad' = o.toList ++ below → (¬ ∃ r, o = some r ∧ bad below r = true) →
        firstFailure bad below i (o :: l) = firstFailure bad bad' (i + 1) l := by
      rintro _ rfl h
      cases o with
      | none => rfl
      | some r => simp at h; simp [firstFailure, h]
    by_cases hfail : ∃ r, o = some r ∧ bad below r = true
    · obtain ⟨r, rfl, hr⟩ := hfail
      have hfirst : failsAt bad below (some r :: l) 0 := (failsAt_zero ..).2 ⟨r, rfl, hr⟩
      have heq : firstFailure bad below i (some r :: l) = some i := by simp [firstFailure, hr]
      rw [heq]
      refine ⟨fun k => ⟨fun h => ?_, fun ⟨_, h⟩ => ?_⟩, fun k h => ?_, ⟨fun h => ?_, fun h => absurd hfirst (h 0)⟩⟩
      · obtain rfl : k = 0 := by simp at h; omega
        exact ⟨hfirst, fun j hj => absurd hj (by omega)⟩
      · cases k with
        | zero => rfl
        | succ k => exact absurd hfirst (h 0 (by omega))
      · simp at h; omega
      · cases h
    · obtain ⟨hsome, hle, hnone⟩ := ih (o.toList ++ below) (i + 1)
      rw [hstep _ rfl hfail]
      have hzero : ¬ failsAt bad below (o :: l) 0 := fun h => hfail ((failsAt_zero ..).1 h)
      refine ⟨fun k => ?_, fun k h => by have := hle k h; omega, ?_⟩
      · cases k with
        | zero =>
          refine ⟨fun h => ?_, fun h => absurd h.1 hzero⟩
          have := hle _ h
          omega
        | succ k =>
          rw [show i + (k + 1) = i + 1 + k by omega, hsome, failsAt_succ]
          refine and_congr_right fun _ => ⟨fun h j hj => ?_, fun h j hj => ?_⟩
          · cases j with
            | zero => exact hzero
            | succ j => rw [failsAt_succ]; exact h j (by omega)
          · rw [← failsAt_succ]; exact h (j + 1) (by omega)
      · rw [hnone]
        refine ⟨fun h j => ?_, fun h j => ?_⟩
        · cases j with
          | zero => exact hzero
          | succ j => rw [failsAt_succ]; exact h j
        · rw [← failsAt_succ]; exact h (j + 1)

/-- The records below a position are those at the lower positions. -/
theorem mem_below {α : Type} (l : List (Option α)) (i : Nat) (x : α) :
    x ∈ ((l.take i).filterMap id).reverse ↔ ∃ j < i, l[j]? = some (some x) := by
  simp only [List.mem_reverse, List.mem_filterMap, id]
  constructor
  · rintro ⟨o, ho, rfl⟩
    obtain ⟨j, hj⟩ := List.mem_iff_getElem?.1 ho
    rw [List.getElem?_take] at hj
    split at hj
    · exact ⟨j, by assumption, hj⟩
    · cases hj
  · rintro ⟨j, hj, hget⟩
    exact ⟨some x, List.mem_iff_getElem?.2 ⟨j, by rw [List.getElem?_take, if_pos hj, hget]⟩, rfl⟩

end Sys2Proof.Machine
end

