-- ==== Sys2Proof/Tests/Slice0.lean ====
section
/-! SUPPORT. Tests: the checks of a command's operand refuse ill-formed ones, the worked examples of the manual come out
of the model, each as far as one step or one operation goes, and every statement's hypotheses are met by a concrete
state (`witness_<Name>` for Obligations.<Name>). Expected values are the manual's, section by section. -/

open Sys2Proof Sys2Proof.Machine

namespace Sys2Proof.Tests

-- one theorem after another: evaluated side by side, these take a thread each
set_option Elab.async false

/-! ## The states and frames the tests share -/

def e1 : Addr := 0x0200000000E1#48
def supervisor : Addr := 0x0200000000A0#48
def terminal : Addr := 0x0200000000B0#48
def stranger : Addr := 0x0200000000F0#48
def capper : Addr := 0x020000000103#48
def filler : Addr := 0x020000000105#48

def rights (manage param write mode force : Bool) : Rights :=
  { manage := manage, param := param, write := write, mode := mode, force := force }

/-- The two controllers, the three stations and the four grants of the examples of sections 2.10 and 3.11, with one
grant more for FORCE and one for learning at controller 5. -/
def bank : Bank where
  definitions := (Bank.empty.definitions.set 3 (some
      { addr := capper, statusOffset := 12, quietSet := [2#8, 5#8], scanInterval := 3600 })).set 5 (some
      { addr := filler, statusOffset := 45, quietSet := [2#8], scanInterval := 3600 })
  stations := ((Bank.empty.stations.set 0 (some
      { addr := e1, level := 1, rights := rights false true true true false })).set 1 (some
      { addr := supervisor, level := 0, rights := rights true false false true true })).set 2 (some
      { addr := terminal, level := 2, rights := rights false true false false false })
  grants := (((((Bank.empty.grants.set 0 (some
      { controller := some 3, cls := some 20, low := 0, high := 99, operations := rights false false true false false
        level := 1, needed := true, check := .required })).set 1 (some
      { controller := none, cls := some 20, low := 0, high := 65535
        operations := rights false true true false false, level := 2, needed := true, check := .none })).set 2 (some
      { controller := none, cls := none, low := 0, high := 65535, operations := rights false false false true false
        level := 1, needed := false, check := .none })).set 3 (some
      { controller := some 3, cls := some 30, low := 0, high := 15, operations := rights false true false false false
        level := 2, needed := false, check := .none })).set 4 (some
      { controller := some 3, cls := some 41, low := 0, high := 9, operations := rights false false false false true
        level := 1, needed := true, check := .none })).set 5 (some
      { controller := some 5, cls := some 21, low := 0, high := 9, operations := rights false false true false false
        level := 1, needed := true, check := .learn })
  images := ((Bank.empty.images.set 0 (some
      { controller := 3, cls := 20, idx := 7, length := 4, fingerprint := 0x123C923A#32, status := .approved })).set 1
      (some { controller := 5, cls := 21, idx := 5, length := 9, fingerprint := 7#32, status := .candidate 7 })).set 2
      (some { controller := 3, cls := 20, idx := 8, length := 5, fingerprint := 9#32, status := .approved })

/-- A controller in LOCKED, its deadlines some way off. -/
def quietController : Controller :=
  { window := .locked, mismatches := 0
    monitor := { observed := .none, lastFrame := none, stale := 100250000, quiet := none }
    schedule := { nextDue := 160000000, postponed := 0, overdue := false } }

/-- The filter at work under that bank, 100 s after its power-on, with both links up. -/
def live : State := { State.reset with
  time := 100000000, fallback := false, generation := 14, active := bank, destination := supervisor
  controllers := (State.reset.controllers.set 3 (some quietController)).set 5 (some quietController)
  plant := { PortState.reset with up := true }, line := { PortState.reset with up := true } }

/-- The filter as delivered, with both links up. -/
def fresh : State := { State.reset with
  plant := { PortState.reset with up := true }, line := { PortState.reset with up := true } }

/-- The capper in a window state. -/
def withWindow (w : Window) : State := live.setWindow 3 w

/-- The capper in OPENING, in a quiet run since a time. -/
def opening (q : Option QuietRun) : State := (withWindow (.opening .span 1800 160000000)).setQuiet 3 q

/-- The capper in OPEN. -/
def opened : State := withWindow (.opened .span 1903030000)

def download (words : Nat) : Transfer :=
  { controller := 3, requester := e1, tid := 0x41, cls := 20, idx := 7, declared := 4, check := .required
    words := words }

/-- The values after the four words of the worked case (section 5.2). -/
def fourWords : Sums := { a := 102965#32, b := 266808#32, i := 4 }

/-- A download to the capper in slot 0, in BEGUN or, without an answer deadline, in LOADING. -/
def taking (words : Nat) (sums : Sums) (pending expected : Nat) (last answer : Option Nat) : State :=
  (withWindow (.transfer .span 1903030000 0)).setSlot 0
    (.taking (download words) sums pending { expected := expected, last := last, idle := 105000000, answer := answer })

def header (o : Operation) : OxHeader :=
  { OxHeader.blank with operation := o.code, tag := 0x0A21, tid := 0x41, cls := 20, idx := 7 }

def oxFrame (dst src : Addr) (h : OxHeader) (ws : List Word) : Frame :=
  buildFrame dst src Config.oxType
    (oxHeaderBytes { h with words := ws.length } ++ ws.flatMap (fun w => bytesOf 2 w.toNat))

/-- A request of E1 to the capper. -/
def request (h : OxHeader) (ws : List Word) : Frame := oxFrame capper e1 h ws

def simple (o : Operation) : Frame := request (header o) []
def param : Frame := request { header .setParam with cls := 30, idx := 4 } []
def force : Frame := oxFrame capper supervisor { header .force with cls := 41, idx := 1 } []
def begin4 : Frame := request { header .begins with declared := 4 } []
def segment (n : Nat) (ws : List Word) : Frame := request { header .segment with number := n } ws
def commit4 : Frame := request { header .commit with declared := 4 } []

/-- A response of the capper to a station. -/
def response (dst : Addr) (h : OxHeader) (ws : List Word) : Frame :=
  oxFrame dst capper { h with response := 1 } ws

/-- The capper's answer to the scanner's SUMMARY with a tag. -/
def summaryAnswer (tag status : Nat) (ws : List Word) : Frame :=
  response Identity.chosen.station { header .summary with tag := tag, status := status } ws

/-- A management request. -/
def management (src : Addr) (code : Nat) (args : List Byte) : Frame :=
  buildFrame Identity.chosen.station src Config.managementType
    (bytesOf 1 1 ++ bytesOf 1 code ++ bytesOf 2 0x77 ++ [0#8, 0#8] ++ bytesOf 2 args.length ++ args)

def order (code : Nat) (args : List Byte) : Frame := management supervisor code args

/-- The capper's cyclic frame with a run-state byte. -/
def cyclic (b : Byte) : Frame := buildFrame supervisor capper Config.cyclicType (List.replicate 12 0#8 ++ [b])

/-- The state a command answers. -/
def after : Host.Outcome State Fault Refusal → State
  | .next t => t
  | .fault _ => State.reset
  | .refused _ => State.reset

/-- The frames a port has begun to send or will send, those the filter built and those that go across. -/
def built (q : PortState) : List OrigFrame := sendingOriginated q.sending ++ q.originate
def crossing (q : PortState) : List Frame := sendingForwarded q.sending ++ q.forwarded

/-- A Plant port that is sending, with replies in so many places of its originate queue; with all eight it is full. -/
def holding (k : Nat) : PortState :=
  { live.plant with originate := List.replicate k { kind := .reply, frame := param }, sending := some (.forwarded param) }
def loaded : PortState := holding 8

/-- A state in which notices wait in the Notice Queue, behind a full Plant originate queue (R141). -/
def behind (s : State) : State := { s with plant := loaded }

/-- What the newest frame the filter built for the Plant port carries as its status and results. -/
def answered (s : State) : Nat × List Byte :=
  match (built s.plant).getLast? with
  | some o =>
    ((managementHeader o.frame.payload).status,
      (o.frame.payload.drop 8).take (managementHeader o.frame.payload).length)
  | none => (255, [])

/-! ## Ill-formed operands (R1, R4, R173, R174) -/

theorem test_wellformed_rows :
    (Instr.oxBegin begin4).wellFormed ∧ (Instr.identify .plant (order 1 [])).wellFormed
      ∧ (Instr.cyclicStatusFrame (cyclic 2#8)).wellFormed
      ∧ (Instr.beginResponse (response e1 (header .begins) [])).wellFormed := by decide +kernel

theorem test_refuses_short_frame :
    (Instr.forwardFrame .plant { begin4 with payload := begin4.payload.take 45 }).wellFormed = false := by
  decide +kernel

theorem test_refuses_long_frame :
    (Instr.forwardFrame .plant { begin4 with payload := List.replicate 1505 0#8 }).wellFormed = false := by
  decide +kernel

theorem test_refuses_management_as_discard :
    (Instr.filterAddressedDiscard .plant (order 1 [])).wellFormed = false := by decide +kernel

theorem test_refuses_request_of_another_type :
    (Instr.oxRead (cyclic 2#8)).wellFormed = false := by decide +kernel

theorem test_refuses_request_of_another_operation :
    (Instr.oxRead begin4).wellFormed = false ∧ (Instr.oxCommit begin4).wellFormed = false := by decide +kernel

theorem test_refuses_response_of_another_operation :
    (Instr.commitResponse (response e1 (header .begins) [])).wellFormed = false := by decide +kernel

theorem test_refuses_cyclic_of_another_type : (Instr.cyclicStatusFrame begin4).wellFormed = false := by decide +kernel

theorem test_refuses_management_of_another_code :
    (Instr.restart .plant (order 1 [])).wellFormed = false
      ∧ (Instr.restart .plant begin4).wellFormed = false := by decide +kernel

/-- No row of the table gives bits. -/
theorem test_no_word_is_a_command : decodeTableWord 16 0x9A31 = none := rfl

/-! ## Fingerprints (section 5.2, cases 1 to 3; section 13.4) -/

theorem test_fingerprint_case_1 :
    Sums.zero.takeAll [0x1234#16, 0xFFFF#16, 0x0002#16, 0x8000#16] = fourWords
      ∧ fingerprint fourWords 4 = 0x123C923A#32 := by decide +kernel

theorem test_fingerprint_case_2 :
    fingerprint (Sums.zero.takeAll (List.replicate 65 0xFFFF#16)) 65 = 0xFFFF0040#32 := by decide +kernel

theorem test_fingerprint_case_3 :
    Sums.zero.takeAll [0x1234#16, 0xFFFF#16] = { a := 70195#32, b := 135730#32, i := 2 }
      ∧ (Sums.takeAll { a := 70195#32, b := 135730#32, i := 2 } [0x0002#16, 0x8000#16]) = fourWords := by decide +kernel

theorem test_fingerprint_of_the_old_file :
    fingerprint (Sums.zero.takeAll [0x1234#16, 0xFFFF#16, 0x0003#16, 0x8000#16]) 4 = 0x123F923B#32 := by decide +kernel

/-! ## Frames -/

/-- The published check value of the CRC-32 of IEEE 802.3. -/
theorem test_crc_check_value :
    crc32 [0x31#8, 0x32#8, 0x33#8, 0x34#8, 0x35#8, 0x36#8, 0x37#8, 0x38#8, 0x39#8] = 0xCBF43926#32 := by decide +kernel

/-- Section 12.5: the refusal response, the counter and the notice of E1's SET-PARAM (30, 4). -/
theorem test_refusal_on_the_wire :
    let f := request { header .setParam with cls := 30, idx := 4, claimed := 3, tid := 0 } []
    let t := after (exec (.oxSetParam f) live)
    ((built t.plant).take 1).map (fun o => (o.frame.dst, o.frame.src, o.frame.payload)) =
        [(e1, Identity.chosen.station,
          [1#8, 3#8, 1#8, 3#8, 4#8, 3#8, 0x0A#8, 0x21#8, 0#8, 0#8, 30#8, 0#8, 0#8, 4#8, 0#8, 0#8, 0#8, 0#8, 0#8, 0#8,
            0#8, 0#8, 2#8, 0#8, 0#8, 0#8, 1#8, 3#8] ++ List.replicate 18 0#8)]
      ∧ (t.count 3).refusals = 1
      ∧ t.notices = [] ∧ ((built t.plant).drop 1).map (fun o => (o.frame.dst, o.frame.payload.take 6)) =
          [(supervisor, [3#8, 1#8, 23#8, 0#8, 3#8, 0#8])] := by decide +kernel

/-- Section 1.3: a frame of the Plant side for an unprotected station crosses, whatever its type. -/
theorem test_forwards_unprotected :
    (after (exec (.forwardFrame .plant (oxFrame stranger e1 (header .setParam) [])) live)).line.sending
      = some (.forwarded (oxFrame stranger e1 (header .setParam) [])) := by
  decide +kernel

theorem test_discards_own_source :
    (after (exec (.frameCheckDiscard .line
      (let f := oxFrame e1 Identity.chosen.station (header .read) []
       coveredBytes f ++ (bytesOf 4 f.fcs.toNat).reverse)) live)).device.receivedDiscarded = 1 := by decide +kernel

/-! ## Admission (section 3.11) -/

def judged (src : Addr) (o : Operation) (cls idx claimed : Nat) : Disposition :=
  (live.judge src 3 o cls idx claimed).outcome

theorem test_policy_example :
    judged e1 .begins 20 7 0 = .refuse .locked ∧ judged terminal .setParam 30 4 0 = .pass
      ∧ judged terminal .setParam 30 4 3 = .refuse .level ∧ judged terminal .mode 0 0 0 = .refuse .level
      ∧ judged supervisor .mode 0 0 0 = .pass ∧ judged e1 .force 40 1 0 = .refuse .noGrant
      ∧ judged stranger .setParam 30 4 0 = .refuse .unknownSource := by decide +kernel

theorem test_segment_without_transfer :
    (live.requestSlot 3 (segment 0 [1#16])) = none
      ∧ (after (exec (.oxSegment (segment 0 [1#16])) (behind live))).notices.map (fun n => n.reason)
          = [some (.reason .noTransfer)] := by decide +kernel

theorem test_matched_grant_of_example : (live.matchedGrant 3 .setParam 30 4).map Prod.fst = some 3 := by decide +kernel

/-- Section 12, R173: code 16 is CLOSED. -/
theorem test_fallback_refuses_closed :
    ((built (after (exec (.oxMode (simple .mode)) fresh)).plant).map (fun o => fieldAt o.frame.payload 5 1)) = [16]
      ∧ crossing (after (exec (.oxRead (simple .read)) fresh)).line = [simple .read] := by decide +kernel

/-! ## Windows (sections 2.10, 2.11) -/

theorem test_window_waits_for_quiet :
    let t := after (exec (.cyclicStatusFrame (cyclic 2#8)) { opening none with time := 101030000 })
    t.quietRun 3 = some { since := 101030000, settle := 103030000 }
      ∧ (after (exec (.cyclicStatusFrame (cyclic 1#8)) { t with time := 101050000 })).quietRun 3 = none
      ∧ (after (exec (.cyclicStatusFrame (cyclic 2#8)) { t with time := 103010000 })).window? 3
          = some (.opening .span 1800 160000000)
      ∧ (after (exec (.settleDeadline 3) { t with time := 103030000 })).window? 3
          = some (.opened .span 1903030000) := by decide +kernel

theorem test_stale_closes_the_window :
    let t := after (exec (.staleDeadline 3) (behind { opened with time := 103760000 }))
    t.window? 3 = some .locked ∧ (t.controller 3).map (fun c => c.monitor.stale) = some 104010000
      ∧ t.notices.map (fun n => n.reason) = [some (.window .stale)]
      ∧ (after (exec (.staleDeadline 3) { t with time := 104010000 })).notices = t.notices := by decide +kernel

def fourOpenings : State := { live with history := [1000000000, 1100000000, 1150000000, 1400000000] }

theorem test_opening_rate_example :
    ({ fourOpenings with time := 1500000000 }).rateRefusal = some 1600000000
      ∧ ({ fourOpenings with time := 1600000000 }).rateRefusal = none
      ∧ ({ fourOpenings with time := 1600000000 }).recordOpening.history
          = [1100000000, 1150000000, 1400000000, 1600000000]
      ∧ ({ fourOpenings with
            time := 1650000000, history := [1100000000, 1150000000, 1400000000, 1600000000] }).rateRefusal
          = some 1700000000 := by decide +kernel

theorem test_open_window_rate_reply :
    answered (after (exec (.openWindow .plant (order 8 [3#8, 0#8, 0#8, 2#8])) { fourOpenings with time := 1500000000 }))
      = (6, bytesOf 8 1600000000) := by decide +kernel

theorem test_open_window_accepts :
    let t := after (exec (.openWindow .plant (order 8 [3#8, 0#8, 0#8, 2#8])) live)
    t.window? 3 = some (.opening .span 1800 160000000) ∧ t.history = [100000000] ∧ answered t = (0, []) := by
  decide +kernel

/-! ## Downloads and fingerprint lanes (sections 4.13, 4.14, 5.7, 13.4) -/

theorem test_begin_starts_transfer :
    let t := after (exec (.oxBegin begin4) opened)
    t.window? 3 = some (.transfer .span 1903030000 0)
      ∧ t.slot 0 = .taking (download 0) Sums.zero 0
          { expected := 0, last := none, idle := 105000000, answer := some 102000000 }
      ∧ crossing t.line = [begin4] := by decide +kernel

theorem test_segment_is_taken_by_lane_0 :
    let t := after (exec (.oxSegment (segment 0 [0x1234#16, 0xFFFF#16])) (taking 0 Sums.zero 0 0 none (some 102000000)))
    (t.slot 0).live = some (download 2) ∧ (t.lane 0).isSome = true
      ∧ (after (exec (.laneFinish 0) t)).slot 0 = .taking (download 2) { a := 70195#32, b := 135730#32, i := 2 } 0
          { expected := 1, last := some 0, idle := 105000000, answer := some 102000000 } := by decide +kernel

theorem test_repeated_segment_is_forwarded_only :
    let t := after (exec (.oxSegment (segment 1 [1#16])) (taking 2 Sums.zero 0 2 (some 1) none))
    crossing t.line = [segment 1 [1#16]] ∧ t.segmentsHeld = 0 ∧ (t.slot 0).live = some (download 2) := by decide +kernel

theorem test_commit_completes_at_once :
    let t := after (exec (.oxCommit commit4) (behind (taking 4 fourWords 0 2 (some 1) none)))
    t.slot 0 = .released (download 4) 102000000 ∧ t.window? 3 = some (.commitWait .span (some 1903030000) 0 none)
      ∧ (t.count 3).released = 1
      ∧ t.notices.map (fun n => (n.kind, n.first, n.second)) = [(.commitReleased, some 0x123C923A#32, some 4#32)] := by
  decide +kernel

theorem test_mismatch_is_refused :
    let t := after (exec (.oxCommit commit4)
      (behind (taking 4 { a := 102966#32, b := 266811#32, i := 4 } 0 2 (some 1) none)))
    t.slot 0 = .free ∧ t.window? 3 = some (.opened .span 1903030000) ∧ (t.count 3).mismatches = 1
      ∧ (built t.line).map (fun o => o.kind) = [.abandon] ∧ crossing t.line = []
      ∧ t.notices.map (fun n => (n.kind, n.reason)) = [(.imageMismatch, some (.reason .mismatch)),
          (.refused, some (.reason .mismatch)), (.transferAborted, some (.reason .mismatch))] := by decide +kernel

def lane (k : Fin 8) (n : Nat) : LaneWork := { entry := { slot := k, number := n, words := [] }, sums := Sums.zero }
def entry (k : Fin 8) (n : Nat) : SegmentEntry := { slot := k, number := n, words := [] }

/-- The lanes' and waiting entries' slot and segment numbers. -/
def shape (s : State) : List (Option (Nat × Nat)) × List (Nat × Nat) :=
  (s.lanes.toList.map (Option.map (fun w => (w.entry.slot.val, w.entry.number))),
    s.waiting.map (fun e => (e.slot.val, e.number)))

theorem test_arbiter_example :
    let a := ((live.appendSegment (entry 0 0)).appendSegment (entry 0 1)).appendSegment (entry 1 0)
    let b := (a.appendSegment (entry 1 1)).appendSegment (entry 2 0)
    shape a = ([some (0, 0), some (1, 0)], [(0, 1)])
      ∧ shape b = ([some (0, 0), some (1, 0)], [(0, 1), (1, 1), (2, 0)])
      ∧ shape ((b.setLane 1 none).giveNext 1) = ([some (0, 0), some (1, 1)], [(0, 1), (2, 0)])
      ∧ shape ((((b.setLane 1 none).giveNext 1).setLane 0 none).giveNext 0) = ([some (0, 1), some (1, 1)], [(2, 0)]) := by
  decide +kernel

theorem test_abort_while_a_lane_is_busy :
    let s := { (taking 3 Sums.zero 4 3 (some 2) none).setLane 1 (some (lane 0 4)) with
      waiting := [entry 0 5, entry 1 9, entry 0 6] }
    let t := after (exec (.cyclicStatusFrame (cyclic 1#8)) s)
    t.slot 0 = .draining ∧ t.waiting = [entry 1 9] ∧ t.window? 3 = some .locked
      ∧ (built t.line).map (fun o => o.frame.dst) = [capper]
      ∧ (after (exec (.laneFinish 1) t)).slot 0 = .free := by decide +kernel

/-! ## Learning (sections 6.5, 13.4) -/

theorem test_learns_candidate :
    let x : Transfer := { download 720 with controller := 5, cls := 21, idx := 6, check := .learn }
    let t := ((behind live).decideImage x 720 7#32).1
    (live.decideImage x 720 7#32).2 = .release
      ∧ t.active.images[3]? = some (some { controller := 5, cls := 21, idx := 6, length := 720, fingerprint := 7#32
                                           status := .candidate 100000000 })
      ∧ t.notices.map (fun n => n.kind) = [.imageLearned] := by decide +kernel

theorem test_approve_candidate :
    let t := after (exec (.approveCandidate .plant (order 12 [0#8, 1#8])) live)
    t.active.images[1]? = some (some { controller := 5, cls := 21, idx := 5, length := 9, fingerprint := 7#32
                                       status := .approved })
      ∧ answered t = (0, [5#8, 0#8, 21#8, 0#8, 5#8, 0#8, 0#8, 0#8, 9#8, 0#8, 0#8, 0#8, 7#8]) := by decide +kernel

/-! ## Drift scanning (section 7.8) -/

/-- The capper due at 7,200 s, with records at positions 0 and 2 and the other controller not due. -/
def due (w : Window) (count : Nat) : State :=
  (({ withWindow w with time := 7200000000 }).updateSchedule 3 (fun _ =>
    { nextDue := 7200000000, postponed := count, overdue := false })).updateSchedule 5 (fun _ =>
    { nextDue := 9000000000, postponed := 0, overdue := false })

def schedule (s : State) : Option (Nat × Nat) :=
  (s.controller 3).map (fun c => (c.schedule.nextDue, c.schedule.postponed))

theorem test_scan_is_postponed :
    schedule (after (exec (.nextDueExpiry 3) (due (.opening .span 1800 9000000000) 0))) = some (7260000000, 1) := by
  decide +kernel

theorem test_scan_round :
    let t := after (exec (.nextDueExpiry 3) (due .locked 1))
    let answer := after (exec (.summaryResponse (summaryAnswer 1 0 [0#16, 4#16, 0x123C#16, 0x923A#16])) t)
    t.round = some { controller := 3, start := 7200000000, position := 0, attempt := 1, tag := 1, deadline := 7202000000 }
      ∧ answer.round.map (fun r => (r.position, r.attempt, r.tag)) = some (2, 1, 2)
      ∧ (after (exec .scanResponseDeadline { answer with time := 7203000000 })).round.map
          (fun r => (r.position, r.attempt, r.tag)) = some (2, 2, 3)
      ∧ schedule (after (exec (.summaryResponse (response Identity.chosen.station
          { header .summary with tag := 2, idx := 8 } [0#16, 5#16, 0#16, 9#16])) answer)) = some (10800000000, 0) := by
  decide +kernel

theorem test_drift_quarantines :
    let t := after (exec (.summaryResponse (summaryAnswer 1 0 [0#16, 4#16, 0x123F#16, 0x923B#16]))
      (after (exec (.nextDueExpiry 3) (behind (due .locked 0)))))
    t.window? 3 = some (.quarantined .drift) ∧ t.round = none
      ∧ t.notices.map (fun n => (n.kind, n.reason)) =
          [(.drift, some (.reason .mismatch)), (.quarantined, some (.quarantine .drift))] := by decide +kernel

/-! ## Notices and watches (sections 8.7, 8.8) -/

def noticeNumber (k : NoticeKind) (n : Nat) : Notice := { kind := k, time := n }

/-- Three watch notices and 28 routine ones, behind a full Plant originate queue. -/
def crowded : State := { behind live with
  notices := (List.range 3).map (noticeNumber .watchHit) ++ (List.range 28).map (noticeNumber .refused) }

theorem test_full_notice_queue :
    let full := crowded.post (noticeNumber .refused 28)
    let lost := full.post (noticeNumber .imageMismatch 29)
    let displaced := lost.post (noticeNumber .watchHit 3)
    let moved := after (exec (.frameSent .plant) displaced)
    full.notices.length = 32 ∧ lost.notices = full.notices ∧ lost.dropped = 1
      ∧ displaced.notices.map (fun n => n.time) = List.range 4 ++ List.range 28 ∧ displaced.dropped = 2
      ∧ moved.notices = displaced.notices.drop 1 ∧ moved.dropped = 0
      ∧ (moved.plant.originate.drop 7).map (fun o => o.kind) = [.notice 2] := by decide +kernel

/-- Section 8.7: the first notice to leave after the link loss carries what was lost, 8 + 2 (R142; L28). -/
theorem test_notices_lost_with_the_link :
    let t := after (exec (.linkDown .plant) { crowded with
      plant := { live.plant with
        originate := { kind := .notice 2, frame := param } :: List.replicate 7 { kind := .notice 0, frame := param } } })
    t.plant.originate.map (fun o => o.kind) = .notice 10 :: List.replicate 7 (.notice 0) ∧ t.dropped = 0
      ∧ t.notices = crowded.notices.drop 8 := by decide +kernel

/-- R139, R141: a burst passes straight on through the queue while the Plant port has places, and only what finds none
waits; a notice moves before the next is posted. -/
theorem test_burst_passes_through :
    let t := ((List.range 42).map (noticeNumber .windowClosed)).foldl State.post live
    (built t.plant).map (fun o => fieldAt o.frame.payload 6 8) = List.range 9
      ∧ t.notices.map (fun n => n.time) = (List.range 32).map (· + 9) ∧ t.dropped = 1 := by decide +kernel

/-- The three watches of section 8.8. -/
def watching : State := ((live.setWatch 0 (some
    { controller := 3, cls := some 20, low := 7, high := 7, all := false, repeats := true })).setWatch 1 (some
    { controller := 3, cls := none, low := 0, high := 65535, all := true, repeats := false })).setWatch 2 (some
    { controller := 3, cls := some 20, low := 0, high := 99, all := true, repeats := true })

/-- The watch numbers that the queued notices carry. -/
def hits (s : State) : List (Option Nat) := s.notices.map (fun n => n.first.map (fun v => v.toNat / 16777216))

def watchingAfterRead : State := after (exec (.oxRead (simple .read)) (behind watching))

theorem test_watches_over_a_read : hits watchingAfterRead = [some 1, some 2] ∧ watchingAfterRead.watch 1 = none := by
  decide +kernel

theorem test_watches_over_a_begin :
    hits (({ watchingAfterRead with notices := [] }).offer 3 .begins begin4 .start) = [some 0, some 2] := by
  decide +kernel

/-! ## Ports (section 9.7) -/

theorem test_egress_turns :
    let o : OrigFrame := { kind := .summary, frame := param }
    let at2 := { live with line := { live.line with
      forwarded := [param, force, begin4], originate := [o], sending := some (.forwarded param), turns := 2 } }
    let next := fun s => after (exec (.frameSent .line) s)
    (next at2).line.turns = 3 ∧ (next (next at2)).line.turns = 4
      ∧ (next (next (next at2))).line.sending = some (.originated o) ∧ (next (next (next at2))).line.turns = 0
      ∧ (next (next (next at2))).line.forwarded.length = 1 := by decide +kernel

/-- R146, a placement and a freeing at one device time: a new forwarded frame takes part in the choice only when it is
placed first. -/
theorem test_placement_and_freeing :
    let o : OrigFrame := { kind := .abandon, frame := force }
    let q := { live.line with originate := [o], sending := some (.forwarded begin4) }
    (q.placeForwarded param 7).finish.sending = some (.forwarded param)
      ∧ (q.finish.placeForwarded param 7).sending = some (.originated o)
      ∧ ({ q with originate := [] }.finish.placeForwarded param 7).sending = some (.forwarded param) := by
  decide +kernel

/-- R146, a frame placed in each queue of an idle port at one device time: the first is sent; an originated frame behind a
forwarded one has waited one turn, and at a later time it has waited none. -/
theorem test_two_placements_at_an_idle_port :
    let o : OrigFrame := { kind := .abandon, frame := force }
    let first := live.line.placeForwarded param 7
    (first.sending = some (.forwarded param) ∧ (first.placeOriginated o 7).turns = 1
      ∧ (first.placeOriginated o 7).originate = [o] ∧ (first.placeOriginated o 8).turns = 0)
    ∧ (let first := live.line.placeOriginated o 7
       first.sending = some (.originated o) ∧ (first.placeForwarded param 7).forwarded = [param]
         ∧ (first.placeForwarded param 7).turns = 0) := by decide +kernel

/-- R149: frames appended while the link was down are sent when it comes up. -/
theorem test_link_up_chooses :
    let o : OrigFrame := { kind := .reply, frame := param }
    (after (exec (.linkUp .plant) { live with plant := PortState.reset.placeOriginated o 7 })).plant.sending
      = some (.originated o) := by decide +kernel

/-! ## Management, store and restart (sections 10.6, 11.8) -/

theorem test_set_timing_example :
    let t := after (exec (.setTiming .plant (order 19 [3#8, 0#8, 0#8, 0#8, 5#8])) live)
    t.timing.stale = 10 ∧ answered t = (2, [3#8, 0#8, 0#8, 0#8, 10#8]) ∧ t.storeBusy = true
      ∧ (answered (after (exec (.setTiming .plant (order 19 [6#8, 0#8, 0#8, 0x1F#8, 0x40#8])) t))).1 = 5 := by
  decide +kernel

theorem test_read_counters_out_of_range :
    (answered (after (exec (.readCounters .plant (order 18 [40#8, 0#8])) live))).1 = 9 := by decide +kernel

theorem test_unknown_command :
    (answered (after (exec (.identify .plant (order 14 [])) live))).1 = 8 := by decide +kernel

theorem test_management_without_right :
    let t := after (exec (.identify .plant (management e1 1 [])) (behind live))
    t.plant = loaded ∧ t.notices.map (fun n => (n.kind, n.first)) = [(.mgmtRefused, some 1#32)] := by
  decide +kernel

theorem test_identify_as_delivered :
    answered (after (exec (.identify .plant (management stranger 1 [])) fresh)) =
      (0, [0x24#8, 0x08#8, 1#8, 1#8, 2#8, 0x4D#8, 0x42#8, 0#8, 0x24#8, 8#8, 0#8, 32#8, 0#8, 64#8, 0#8, 128#8, 1#8, 0#8,
        0#8, 8#8, 0#8, 16#8, 0#8, 2#8, 0#8, 8#8, 0#8, 32#8, 0#8, 9#8, 0#8, 8#8, 0#8, 0#8, 0#8, 0#8, 1#8, 0#8, 0#8]) := by
  decide +kernel

theorem test_restart_waits_for_its_reply :
    let t := after (exec (.restart .plant (order 21 [])) live)
    answered t = (0, []) ∧ t.restartPending = true
      ∧ (answered (after (exec (.restart .plant (order 21 [])) t))).1 = 1
      ∧ (after (exec .warmRestart t)).restartPending = true
      ∧ (after (exec .warmRestart { t with plant := live.plant })).restartPending = false := by decide +kernel

/-- R171: each closing during a store write causes its own restart when the write ends. With a round in flight, each sends
its SUMMARY anew. -/
theorem test_restart_for_each_closing :
    let s := { after (exec (.nextDueExpiry 3) (due .locked 0)) with writing := some live.image }
    let closed := after (exec .restartInputClosed s)
    let twice := after (exec .restartInputClosed (after (exec .restartInputOpened closed)))
    s.tagCounter = 1 ∧ (after (exec (.storeWriteEnd true) closed)).tagCounter = 2
      ∧ (after (exec (.storeWriteEnd true) twice)).tagCounter = 3
      ∧ (after (exec (.storeWriteEnd true) { twice with restartPending := true })).tagCounter = 3
      ∧ (after (exec .restartInputClosed closed)).lineWaiting = 1 := by decide +kernel

theorem test_load_record_repeated_quiet_value :
    (answered (after (exec (.loadRecord .plant (order 5 ([1#8, 0#8, 5#8, 1#8] ++ addrBytes filler
      ++ [0#8, 12#8, 2#8, 2#8, 2#8, 0#8, 0#8, 0#8, 0#8, 0#8, 0x0E#8, 0x10#8]))) live))).1 = 9
    ∧ (after (exec (.loadRecord .plant (order 5 ([1#8, 0#8, 5#8, 1#8] ++ addrBytes filler
      ++ [0#8, 12#8, 1#8, 2#8, 0#8, 0#8, 0#8, 0#8, 0#8, 0#8, 0x0E#8, 0x10#8]))) live)).shadow.definitions[5]
      = some { addr := filler, statusOffset := 12, quietSet := [2#8], scanInterval := 3600 } := by decide +kernel

/-- The grants of a bank that names controller 7, which no definition defines. -/
def badBank : Bank := { bank with
  grants := Bank.empty.grants.set 0 (some
    { controller := some 7, cls := some 20, low := 0, high := 99, operations := rights false false true false false
      level := 1, needed := true, check := .required }) }

/-- A bank that passes the bank check: no CANDIDATE in it. -/
def goodBank : Bank := { bank with images := bank.images.set 1 none }

def select (s : State) : State := after (exec (.selectBank .plant (order 7 [0#8, 0#8, 0#8, 15#8])) s)

theorem test_select_bank_example :
    answered (select { opened with shadow := goodBank }) = (4, [0#8, 0#8, 0#8, 14#8])
      ∧ answered (select { live with shadow := badBank }) = (11, [3#8, 1#8, 0#8, 0#8])
      ∧ answered (select { live with shadow := goodBank }) = (0, [0#8, 0#8, 0#8, 15#8, 2#8])
      ∧ answered (select { live with generation := 15 }) = (1, [0#8, 0#8, 0#8, 15#8])
      ∧ (select { live with shadow := goodBank }).storeBusy = true := by decide +kernel

theorem test_power_restores_the_stored_image :
    let t := after (exec .powerOnReset { State.reset with stored := some live.image })
    t.fallback = false ∧ t.generation = 14 ∧ t.destination = supervisor ∧ t.window? 3 = some .locked
      ∧ t.window? 4 = none := by decide +kernel

/-- A step takes the front command, and with none waiting device time counts (R17). -/
theorem test_step_takes_the_front :
    (after (step { live with pending := [.frameSent .line, .powerLoss] })).pending = [.powerLoss]
      ∧ (after (step State.reset)).time = 1 := by decide +kernel

/-! ## Witnesses: the machine and its invariants -/

/-- A state in the midst of its work: a transfer with a segment in a lane, a watch, a notice, a waiting SUMMARY. -/
def busy (pending : List Instr) : State :=
  { ((taking 2 Sums.zero 1 1 (some 0) (some 102000000)).setLane 0 (some
        { entry := { slot := 0, number := 0, words := [0x1234#16, 0xFFFF#16] }, sums := Sums.zero })).setWatch 7 (some
        { controller := 3, cls := none, low := 0, high := 65535, all := true, repeats := false }) with
    notices := [noticeNumber .watchHit 1, noticeNumber .malformed 2], history := [90000000], plant := loaded
    line := { live.line with
      originate := [{ kind := .summary, frame := param }], sending := some (.forwarded param), turns := 4 }
    stored := some live.image, pending := pending }

theorem witness_StepRunsFrontCommand :
    (busy [.laneFinish 0, .powerLoss]).pending = .laneFinish 0 :: [.powerLoss] := rfl

theorem witness_IdleStepRaisesOwedEventOrCounts :
    (State.reset.pending = [] ∧ State.reset.owed = [] ∧ State.reset.powered = true)
      ∧ ({ State.reset with powered := false }.owed = []) ∧ { opened with time := 100250000 }.owed ≠ [] := by
  decide +kernel

theorem witness_CommandsKeepQueueIdentityAndTime :
    Instr.frameSent .line ≠ .powerOnReset ∧ Instr.frameSent .line ≠ .powerLoss := by decide

theorem witness_StepsKeepQueuesGood :
    (busy [.oxCommit commit4]).PortsGood ∧ (busy [.oxCommit commit4]).NoticesGood
      ∧ ∃ t, step (busy [.oxCommit commit4]) = .next t := ⟨by decide +kernel, by decide +kernel, _, rfl⟩

theorem witness_StepsKeepSegmentsGood :
    (busy [.laneFinish 0]).SegmentsGood ∧ ∃ t, step (busy [.laneFinish 0]) = .next t := ⟨by decide +kernel, _, rfl⟩

theorem witness_StepsKeepOwnersGood :
    (busy [.oxCommit commit4]).OwnersGood ∧ ∃ t, step (busy [.oxCommit commit4]) = .next t :=
  ⟨by decide +kernel, _, rfl⟩

theorem witness_StepsKeepFieldsGood :
    (busy [.oxCommit commit4]).FieldsGood ∧ (busy [.oxCommit commit4]).HistoryGood
      ∧ ∃ t, step (busy [.oxCommit commit4]) = .next t :=
  ⟨⟨by decide +kernel, by decide +kernel, by decide +kernel, by decide +kernel, by decide +kernel, by decide +kernel,
    by decide +kernel, by decide +kernel⟩, by decide +kernel, _, rfl⟩

theorem witness_StepsKeepBanksGood :
    (busy [.powerOnReset]).BanksGood ∧ (busy [.powerOnReset]).DefinedGood
      ∧ ∃ t, step (busy [.powerOnReset]) = .next t := ⟨by decide +kernel, by decide +kernel, _, rfl⟩

/-- A slot that an abort can end is not RELEASED. -/
theorem not_released {x : Slot} (h : x.abortable.isSome = true) : ∀ y e, x ≠ .released y e := by
  intro y e he
  rw [he] at h
  cases h

/-- A download whose last segment is in lane 0, and whose commit is held. -/
def verifying (pending : Nat) (frames : List Instr) : State :=
  { ((withWindow (.verify .span (some 1903030000) 0 none)).setSlot 0
      (.verifying (download 4) { a := 70195#32, b := 135730#32, i := 2 } pending commit4)).setLane 0 (some
      { entry := { slot := 0, number := 1, words := [0x0002#16, 0x8000#16] }
        sums := { a := 70195#32, b := 135730#32, i := 2 } }) with pending := frames }

/-- By the COMMIT itself, and by a lane that finishes the last segment. -/
theorem witness_RequiredCommitIsReleasedOnlyOnMatch :
    (∀ y e, (taking 4 fourWords 0 2 (some 1) none).slot 0 ≠ .released y e)
    ∧ (after (step { taking 4 fourWords 0 2 (some 1) none with pending := [.oxCommit commit4] })).slot 0
        = .released (download 4) 102000000
    ∧ (∀ y e, (verifying 1 [.laneFinish 0]).slot 0 ≠ .released y e)
    ∧ (after (step (verifying 1 [.laneFinish 0]))).slot 0 = .released (download 4) 102000000
    ∧ (download 4).check = .required :=
  ⟨not_released (by decide +kernel), by decide +kernel, not_released (by decide +kernel), by decide +kernel, rfl⟩

theorem witness_WindowOpensOnlyAfterQuietRun :
    let s := { opening (some { since := 101030000, settle := 103030000 }) with
      time := 103030000, pending := [.settleDeadline 3] }
    s.timing.Good ∧ s.window? 3 = some (.opening .span 1800 160000000)
      ∧ (after (step s)).window? 3 = some (.opened .span 1903030000) := by decide +kernel

theorem witness_NoWritePassesAClosedWindow :
    ((withWindow (.quarantined .manual)).OwnersGood
      ∧ (withWindow (.quarantined .manual)).takesRequest .setParam param 3
      ∧ (withWindow (.quarantined .manual)).window? 3 = some (.quarantined .manual))
    ∧ (live.OwnersGood ∧ live.takesRequest .begins begin4 3 ∧ live.window? 3 = some .locked)
    ∧ ((opening none).takesRequest .setParam (simple .setParam) 3
      ∧ ((opening none).matchedGrant 3 .setParam 20 7).map (fun x => x.2.needed) = some true) := by decide +kernel

theorem witness_OpeningsAreRateLimited :
    { fourOpenings with time := 1500000000 }.HistoryGood
      ∧ { fourOpenings with time := 1500000000 }.rateRefusal = some 1600000000
      ∧ { fourOpenings with time := 1600000000 }.HistoryGood
      ∧ { fourOpenings with time := 1600000000 }.rateRefusal = none
      ∧ fourOpenings.history.length = 4 ∧ (busy []).HistoryGood ∧ (busy []).history.length < 4 := by decide +kernel

/-! ## Witnesses: frames and requests -/

/-- A frame of the capper with the management type, one that is no response, one of another version. -/
def unsorted : List Frame :=
  [buildFrame e1 capper Config.managementType [], oxFrame e1 capper (header .begins) [],
    response e1 { header .begins with version := 2 } []]

/-- A RELEASED slot of a download to the capper, its window in COMMIT-WAIT. -/
def released : State := (withWindow (.commitWait .span (some 1903030000) 0 none)).setSlot 0
  (.released (download 4) 102000000)

/-- A response at the Line port to the filter's own address. -/
def toFilter (h : OxHeader) : Frame := response Identity.chosen.station h []

/-- What is kept of the frames addressed to the filter is padded or longer than 46 bytes, to its last word. -/
theorem witness_FramesAreSortedByTheirTables :
    (live.passesCheck (order 1 []) = true ∧ (order 1 []).dst = live.identity.station
      ∧ (order 1 []).etype = Config.managementType)
    ∧ (∀ f ∈ [toFilter { header .summary with status := 1 }, summaryAnswer 1 0 [0#16, 4#16, 0#16, 0#16],
          toFilter (header .abandon), response Identity.chosen.station (header .abandon) (List.replicate 9 0#16),
          response Identity.chosen.station (header .abandon) (List.replicate 10 0#16)],
        live.passesCheck f = true ∧ f.dst = live.identity.station ∧ f.etype = Config.oxType
          ∧ (oxHeader f.payload).response = 1 ∧ (oxHeader f.payload).version = 1
          ∧ (if f.payload.length = 46 then 2 * (oxHeader f.payload).words ≤ 18
            else f.payload.length - 28 = 2 * (oxHeader f.payload).words))
    ∧ live.BanksGood ∧ live.protectedBy capper = some 3 ∧ live.protectedBy stranger = none
    ∧ live.takes .plant = true ∧ live.takes .line = true ∧ fresh.takes .plant = true ∧ fresh.fallback = true
    ∧ (∀ f ∈ [cyclic 2#8, begin4, oxFrame stranger e1 (header .read) [], response e1 (header .begins) [],
          response e1 (header .read) []] ++ unsorted,
        live.passesCheck f = true ∧ f.dst ≠ live.identity.station)
    ∧ (taking 0 Sums.zero 0 0 none (some 102000000)).beginSlot 3 (response e1 (header .begins) []) = some 0
    ∧ live.beginSlot 3 (response e1 (header .begins) []) = none
    ∧ released.commitSlot 3 (response e1 (header .commit) []) = some 0
    ∧ live.commitSlot 3 (response e1 (header .commit) []) = none :=
  ⟨by decide +kernel, by decide +kernel, by decide +kernel⟩

theorem witness_DiscardedFramesAreCounted :
    frameOfBytes (List.replicate 17 0#8) = none
    ∧ (frameOfBytes (List.replicate 63 0#8)).map Frame.legalLength = some false
    ∧ (frameOfBytes (List.replicate 64 0#8)).map (fun f => decide (f.fcs = goodFcs f)) = some false
    ∧ (∀ f ∈ [toFilter (header .read), toFilter { header .summary with version := 2 },
          toFilter { header .read with operation := 10 }, toFilter (header .summary),
          buildFrame Identity.chosen.station capper Config.oxType (oxHeaderBytes
            { header .abandon with response := 1, words := 10 }),
          buildFrame Identity.chosen.station capper Config.oxType (oxHeaderBytes
            { header .abandon with response := 1 } ++ List.replicate 20 0#8),
          oxFrame Identity.chosen.station capper (header .read) [],
          buildFrame Identity.chosen.station capper Config.cyclicType []],
        live.passesCheck f = true ∧ f.dst = live.identity.station ∧ f.etype ≠ Config.managementType)
    ∧ (toFilter (header .read)).code = 1
    ∧ wellFormedResponse (toFilter { header .summary with version := 2 }).payload = false
    ∧ (oxHeader (oxFrame Identity.chosen.station capper (header .read) []).payload).response = 0 := by decide +kernel

/-- Frames that cross in each direction. -/
def across : Frame := oxFrame stranger e1 (header .read) []

theorem witness_ForwardedFrameIsPlacedOrCounted :
    live.rowOf .plant across = .forward ∧ live.line.forwarded.length < 256
    ∧ (live.line.up = true ∧ live.line.sending = none ∧ live.line.forwarded = [] ∧ live.line.originate = [])
    ∧ ((busy []).rowOf .plant across = .forward ∧ (busy []).line.sending ≠ none ∧ (busy []).line.up = true)
    ∧ live.device.linkDiscarded < 4294967295
    ∧ { live with line := { live.line with forwarded := List.replicate 256 across } }.rowOf .plant across = .forward
    ∧ { live with line := PortState.reset }.rowOf .plant across = .forward
    ∧ live.rowOf .line across = .forward ∧ live.plant.forwarded.length < 256
    ∧ { live with plant := { live.plant with forwarded := List.replicate 256 across } }.rowOf .line across = .forward
    ∧ { live with plant := PortState.reset }.rowOf .line across = .forward := by decide +kernel

/-- One of each form that R11 calls malformed, and the longest that is not. -/
theorem witness_MalformedAndClosedRequests :
    (∀ f ∈ [request { header .segment with version := 2 } [], request { header .segment with operation := 10 } [],
          buildFrame capper e1 Config.oxType (oxHeaderBytes { header .segment with words := 10 }),
          buildFrame capper e1 Config.oxType (oxHeaderBytes (header .segment) ++ List.replicate 20 0#8),
          request { header .segment with response := 1 } []],
        live.rowOf .plant f = .request f.requestRow ∧ live.malformed f = true)
    ∧ live.malformed (segment 0 (List.replicate 721 0#16)) = true
    ∧ (∀ f ∈ [segment 0 (List.replicate 720 0#16), segment 0 (List.replicate 9 0#16), segment 0 (List.replicate 10 0#16)],
        live.malformed f = false)
    ∧ (∀ o ∈ [Operation.read, .segment],
        fresh.rowOf .plant (simple o) = .request o ∧ fresh.malformed (simple o) = false ∧ fresh.fallback = true) := by
  decide +kernel

/-- Steps 2, 4, 5 and 6 find what a request needs, and step 7 disposes of it. -/
def reaches (s : State) (o : Operation) (f : Frame) (d : Disposition) : Bool :=
  (s.station f.src).any fun e => (s.matchedGrant 3 o (oxHeader f.payload).cls (oxHeader f.payload).idx).any fun x =>
    decide (max e.level (min (oxHeader f.payload).claimed 3) ≤ x.2.level) && e.rights.allow o
      && dispose o x.2.needed (s.windowOf 3) == d

def mode : Frame := oxFrame capper supervisor (header .mode) []

theorem witness_ReadsAndSingleWritesPass :
    (live.takesRequest .read (simple .read) 3 ∧ live.takesRequest .summary (simple .summary) 3
      ∧ live.line.up = true ∧ live.line.forwarded.length < 256 ∧ ∀ w : Fin 8, live.watch w = none)
    ∧ (live.takesRequest .setParam param 3 ∧ reaches live .setParam param .pass = true)
    ∧ (live.takesRequest .mode mode 3 ∧ reaches live .mode mode .pass = true)
    ∧ (opened.takesRequest .force force 3 ∧ reaches opened .force force .pass = true) := by decide +kernel

theorem witness_FirstFailedStepRefuses :
    (live.BanksGood ∧ ((live.active.stations[0]?).bind id).map (fun e => e.addr) = some e1)
    ∧ (∀ f ∈ [oxFrame capper stranger (header .begins) [], request { header .begins with cls := 9 } [],
          request { header .begins with claimed := 3 } [], oxFrame capper supervisor (header .begins) [], begin4],
        live.takesRequest .begins f 3)
    ∧ live.station stranger = none ∧ (live.station supervisor).map (fun e => e.rights.write) = some false
    ∧ live.matchedGrant 3 .begins 9 7 = none
    ∧ (live.matchedGrant 3 .begins 20 7).map (fun x => x.2.level) = some 1
    ∧ (live.station e1).map (fun e => (e.level, e.rights.write)) = some (1, true)
    ∧ reaches live .begins begin4 (.refuse .locked) = true
    ∧ (live.takesRequest .force force 3 ∧ reaches live .force force (.refuse .locked) = true)
    ∧ ((taking 0 Sums.zero 0 0 none none).takesRequest .mode mode 3
      ∧ reaches (taking 0 Sums.zero 0 0 none none) .mode mode (.refuse .busy) = true)
    ∧ (live.takesRequest .setParam (simple .setParam) 3
      ∧ reaches { live with active := { bank with grants := bank.grants.set 1 (some
            { controller := none, cls := some 20, low := 7, high := 7, operations := rights false true false false false
              level := 1, needed := true, check := .none }) } } .setParam (simple .setParam) (.refuse .locked) = true) :=
  ⟨⟨by decide +kernel, by decide +kernel⟩, by decide +kernel⟩

theorem witness_DispositionFollowsItsTable : ∀ c, Window.locked ≠ .quarantined c := by
  intro c h
  cases h

/-- The slot and check of a start, or the reason it is refused. -/
def started (s : State) (f : Frame) (check : ImageCheck) : Option (Fin 8 × ImageCheck) ⊕ Reason :=
  match s.startChecks 3 f check with
  | .ok x => .inl (some x)
  | .error r => .inr r

theorem witness_BeginStartsTransfer :
    opened.takesRequest .begins begin4 3 ∧ reaches opened .begins begin4 .start = true
      ∧ opened.window? 3 = some (.opened .span 1903030000)
      ∧ started opened begin4 .required = .inl (some (0, .required)) := by decide +kernel

/-- Every slot live. -/
def fullSlots : State := { opened with slots := Vector.replicate 8 (.released (download 4) 102000000) }

theorem witness_BeginStartChecks :
    (live.BanksGood ∧ ((live.active.images[2]?).bind id).map (fun r => (r.key, r.status)) = some ((3, 20, 8), .approved))
    ∧ fullSlots.freeSlot = none ∧ opened.freeSlot = some 0
    ∧ (oxHeader (simple .begins).payload).declared = 0
    ∧ (∀ d ∈ [1, 262144, 262145, 4294967295],
        (oxHeader (request { header .begins with declared := d } []).payload).declared = d)
    ∧ opened.approved 3 20 9 = none ∧ (opened.approved 3 20 7).map (fun r => r.length) = some 4
    ∧ (opened.takesRequest .begins (simple .begins) 3 ∧ reaches opened .begins (simple .begins) .start = true
      ∧ started opened (simple .begins) .required = .inr .length)
    ∧ started fullSlots begin4 .required = .inr .slotsFull
    ∧ started opened (request { header .begins with declared := 262145 } []) .required = .inr .tooLong
    ∧ started opened (request { header .begins with declared := 4, idx := 9 } []) .required = .inr .noImage :=
  ⟨⟨by decide +kernel, by decide +kernel⟩, by decide +kernel⟩

/-- One window state of each kind. -/
def windows : List Window :=
  [.locked, .opening .span 1800 160000000, .opened .span 1903030000, .transfer .span 1903030000 0,
    .verify .span none 0 (some .command), .commitWait .span none 0 none, .quarantined .drift]

theorem witness_SharedOperationsHaveTheirEffects :
    ∀ w ∈ windows, (withWindow w).window? 3 = some w := by decide +kernel

/-! ## Witnesses: downloads -/

/-- A transfer that an undischarged quarantine has left with a live slot (R38: RELEASED). -/
def releasedInQuarantine : State := (withWindow (.quarantined .manual)).setSlot 0 (.released (download 4) 102000000)

/-- Steps 2 and 3 hand a request to a slot. -/
def handedTo (s : State) (f : Frame) : Option (Fin 8) :=
  match s.stepThree 3 f with
  | .ok k => some k
  | .error _ => none

theorem witness_DownloadRequestsNeedALiveTransfer :
    (∀ o ∈ [Operation.segment, .commit, .abandon],
      live.takesRequest o (oxFrame capper stranger (header o) []) 3 ∧ live.station stranger = none
      ∧ live.takesRequest o (simple o) 3 ∧ live.station e1 ≠ none ∧ (∀ k : Fin 8, (live.slot k).live = none)
      ∧ releasedInQuarantine.takesRequest o (simple o) 3)
    ∧ releasedInQuarantine.window? 3 = some (.quarantined .manual)
    ∧ (releasedInQuarantine.slot 0).live = some (download 4)
    ∧ (∀ s ∈ [taking 4 fourWords 0 2 (some 1) none, released], s.OwnersGood ∧ s.takesRequest .commit commit4 3
      ∧ s.station commit4.src ≠ none ∧ (s.slot 0).live = some (download 4) ∧ (s.window? 3).map Window.code ≠ some 7) := by
  decide +kernel

/-- Too long by one, exactly fitting, dropped for a full queue, repeated, out of sequence, and in VERIFYING. -/
theorem witness_SegmentsAreSequenced :
    let s := taking 3 Sums.zero 0 2 (some 1) none
    let full := { s with waiting := List.replicate 16 (entry 5 0) }
    (∀ f ∈ [segment 2 [1#16, 2#16], segment 2 [1#16], segment 1 [1#16], segment 0 [1#16]],
      s.takesRequest .segment f 3 ∧ handedTo s f = some 0)
    ∧ (full.takesRequest .segment (segment 2 [1#16]) 3 ∧ handedTo full (segment 2 [1#16]) = some 0
      ∧ 16 ≤ full.segmentsHeld)
    ∧ ((verifying 1 []).takesRequest .segment (segment 2 [1#16]) 3 ∧ handedTo (verifying 1 []) (segment 2 [1#16]) = some 0)
    ∧ ∀ x sums pending q, (verifying 1 []).slot 0 ≠ .taking x sums pending q :=
  ⟨by decide +kernel, by decide +kernel, by decide +kernel, fun _ _ _ _ h => by cases h⟩

theorem witness_CommitsAndAbandonsReachTheirSlot :
    (∀ s ∈ [taking 4 fourWords 0 2 (some 1) none, taking 4 fourWords 1 2 (some 1) none, taking 3 fourWords 0 2 (some 1) none,
        verifying 1 [], released],
      s.takesRequest .commit commit4 3 ∧ handedTo s commit4 = some 0
      ∧ s.takesRequest .abandon (simple .abandon) 3 ∧ handedTo s (simple .abandon) = some 0)
    ∧ (oxHeader commit4.payload).declared = 4 := by decide +kernel

theorem witness_AbortHasItsEffects :
    (live.slot 0).abortable = none ∧ ((verifying 1 []).slot 0).abortable = some (download 4) := by decide +kernel

theorem witness_ControllerResponsesReachTheirSlot :
    ((taking 0 Sums.zero 0 0 none (some 102000000)).OwnersGood ∧ released.OwnersGood)
    ∧ live.protectedBy capper = some 3
    ∧ (∀ f ∈ [response e1 (header .begins) [], response e1 { header .begins with status := 255 } []],
        (taking 0 Sums.zero 0 0 none (some 102000000)).rowOf .line f = .beginResponse
        ∧ (taking 0 Sums.zero 0 0 none (some 102000000)).beginSlot 3 f = some 0)
    ∧ (∀ f ∈ [response e1 (header .commit) [], response e1 { header .commit with status := 1 } []],
        released.rowOf .line f = .commitResponse ∧ released.commitSlot 3 f = some 0) := by decide +kernel

theorem witness_SlotDeadlinesEndTheirTransfer :
    ({ taking 0 Sums.zero 0 0 none (some 102000000) with time := 105000000 }.slot 0).live = some (download 0)
    ∧ (released.slot 0).live = some (download 4) ∧ live.powered = true := by decide +kernel

theorem witness_TransfersEndAtTheWindow :
    (∀ w ∈ windows ++ [.verify .single (some 1) 0 none, .verify .single none 0 (some .expired),
        .commitWait .single none 0 (some .runAfterCommit)], (withWindow w).window? 3 = some w)
    ∧ live.window? 4 = none
    ∧ ((withWindow (.verify .single (some 1) 1 none)).slot 1).abortable = none := by decide +kernel

/-! ## Witnesses: lanes, fingerprints and images -/

/-- A slot whose one segment is in lane 1. -/
def inLane (x : Slot) : State := (live.setSlot 0 x).setLane 1 (some (lane 0 4))

theorem witness_LaneFinishReachesItsSlot :
    ∀ x ∈ [(taking 2 Sums.zero 1 1 (some 0) none).slot 0, .verifying (download 4) Sums.zero 1 commit4,
        .verifying (download 4) Sums.zero 2 commit4, .draining],
      (inLane x).powered = true ∧ (inLane x).lane 1 = some (lane 0 4) ∧ (inLane x).slot (lane 0 4).entry.slot = x := by
  decide +kernel

theorem witness_ArbiterGivesOldestEligibleEntry :
    let one := live.setLane 0 (some (lane 0 0))
    let two := one.setLane 1 (some (lane 1 0))
    (two.lane 0 ≠ none ∧ two.lane 1 ≠ none) ∧ (one.laneHolds 0 = true ∧ one.laneHolds 1 = false ∧ one.lane 1 = none)
    ∧ (∀ e ∈ [entry 0 1, entry 0 2], one.laneHolds e.slot = true)
    ∧ ({ one with waiting := [entry 0 1, entry 2 0, entry 1 0] }.waiting = [entry 0 1] ++ entry 2 0 :: [entry 1 0]
      ∧ one.laneHolds 2 = false) := by decide +kernel

/-- A download under LEARN to the filler. -/
def learning (idx : Nat) : Transfer := { download 4 with controller := 5, cls := 21, idx := idx, check := .learn }

theorem witness_ImageDecisionFollowsTheTable :
    (live.approved 3 20 7).map (fun r => (r.length, r.fingerprint)) = some (4, 0x123C923A#32)
    ∧ (live.approved 5 21 5 = none ∧ live.approved 5 21 6 = none)
    ∧ ((live.active.images[1]?).bind id).map (fun r => (r.key, r.isApproved)) = some ((5, 21, 5), false)
    ∧ (∀ r ∈ records live.active.images, r.key ≠ (5, 21, 6))
    ∧ (live.active.images[3]? = some none ∧ ∀ j < 3, live.active.images[j]? ≠ some none)
    ∧ (∀ x ∈ Vector.toList (Vector.replicate 256 (live.active.images[0])), x ≠ none)
    ∧ (learning 5).check = .learn := by decide +kernel

/-- What is decided for a slot that completes with these values. -/
def decided (x : Transfer) (sums : Sums) (full : Bool) : Decision :=
  ({ live with active := { bank with
      images := if full then Vector.replicate 256 (bank.images[0]) else bank.images } }.decideImage x sums.i
    (fingerprint sums sums.i)).2

theorem witness_CompletionFollowsTheImageDecision :
    (live.setSlot 0 (.verifying (download 4) fourWords 0 commit4)).slot 0 = .verifying (download 4) fourWords 0 commit4
    ∧ decided (download 4) fourWords false = .release ∧ decided (download 4) Sums.zero false = .mismatch
    ∧ decided (learning 6) fourWords true = .imageFull := by decide +kernel

/-! ## Witnesses: windows and scanning -/

/-- A counting frame whose status byte is the last of its payload, and one a byte too short to count. -/
theorem witness_CyclicFramesAndStaleDeadlinesObserve :
    (live.controller 5).isSome = true ∧ (live.definition 5).map (fun d => d.statusOffset) = some 45
    ∧ (let f := buildFrame supervisor filler Config.cyclicType []
       live.rowOf .line f = .cyclicStatus ∧ live.protectedBy f.src = some 5 ∧ f.payload.length = 46
         ∧ f.payload[45]? = some 0#8)
    ∧ (let s := { live with active := { bank with definitions := bank.definitions.set 5 (some
           { addr := filler, statusOffset := 46, quietSet := [2#8], scanInterval := 0 }) } }
       let f := buildFrame supervisor filler Config.cyclicType []
       s.rowOf .line f = .cyclicStatus ∧ (s.definition 5).map (fun d => d.statusOffset) = some f.payload.length)
    ∧ (live.controller 3).map (fun c => c.monitor.stale) = some 100250000 := by decide +kernel

theorem witness_ObservationsMoveTheWindow :
    (∀ w ∈ windows ++ [.commitWait .span none 0 (some .runAfterCommit)], (withWindow w).window? 3 = some w)
    ∧ 0 < live.timing.settle ∧ (opening none).quietRun 3 = none
    ∧ { opening (some { since := 100000000, settle := 102000000 }) with time := 101999999 }.quietRun 3
        = some { since := 100000000, settle := 102000000 }
    ∧ live.timing.settle * 1000 = 2000000 := by decide +kernel

theorem witness_WindowDeadlinesTakeEffect :
    (∀ w ∈ [.opening .span 1800 160000000, .opened .span 160000000, .transfer .span 160000000 0,
        .verify .span (some 160000000) 0 none, .commitWait .span (some 160000000) 0 (some .command)],
      { withWindow w with time := 160000000 }.window? 3 = some w
        ∧ { withWindow w with time := 160000000 }.powered = true)
    ∧ (opening (some { since := 98000000, settle := 100000000 })).quietRun 3
        = some { since := 98000000, settle := 100000000 }
    ∧ (opening (some { since := 98000001, settle := 100000000 })).quietRun 3
        = some { since := 98000001, settle := 100000000 } := by decide +kernel

/-- The capper is due: in LOCKED with a record, in LOCKED without one, and in OPENING at each count. -/
theorem witness_ScanRoundBeginsOrIsPostponed :
    (∀ s ∈ [due .locked 0, due (.opening .span 1800 9000000000) 7, due (.opening .span 1800 9000000000) 8,
        { due .locked 0 with line := PortState.reset },
        { due .locked 0 with active := { bank with images := Bank.empty.images } }],
      s.powered = true ∧ s.round = none ∧ s.scanDue 3 = true ∧ (∀ m, m < 3 → s.scanDue m = false)
        ∧ ∀ m, 3 < m → s.scanDue m = false)
    ∧ (let both := { withWindow (.opening .span 1800 9000000000) with time := 7200000000 }
       both.round = none ∧ both.scanDue 3 = true ∧ both.scanDue 5 = true ∧ ∀ j, j < 3 → both.scanDue j = false)
    ∧ ({ live with active := { bank with definitions := bank.definitions.set 5 (some
           { addr := filler, statusOffset := 0, quietSet := [2#8], scanInterval := 0 }) } }.definition 5).map
        ControllerDef.scanInterval = some 0
    ∧ ((live.active.images[0]?).bind id).map (fun r => (r.controller, r.isApproved)) = some (3, true)
    ∧ (live.definition 3).map (fun d => d.scanInterval) = some 3600 := by decide +kernel

/-- A round of the capper about its record at position 0 or 2. -/
def scanning (position attempt : Nat) : State := { live with
  tagCounter := 65535
  round := some { controller := 3, start := 99000000, position := position, attempt := attempt, tag := 65535
                  deadline := 100000000 } }

theorem witness_ScannerOperationsHaveTheirEffects :
    (live.controller 3).isSome = true ∧ (live.definition 3).isSome = true
    ∧ (live.line.originate.filter (fun o => !o.isSummary)).length < 9
    ∧ (scanning 0 1).round.map (fun r => r.controller) = some 3 ∧ live.round = none
    ∧ (∀ m : Fin 32, live.scanDue m = false)
    ∧ (∀ c ∈ [0, 6, 7, 8], schedule (live.updateSchedule 3 (fun _ =>
        { nextDue := 1, postponed := c, overdue := true })) = some (1, c)) := by decide +kernel

theorem witness_AnswersToTheFilterAreJudged :
    ((scanning 0 1).powered = true ∧ (scanning 0 2).round.map (fun r => (r.attempt, r.deadline)) = some (2, 100000000)
      ∧ ((scanning 0 1).active.images[0]?).bind id = bank.images[0])
    ∧ (∀ f ∈ [summaryAnswer 65535 0 [0#16, 4#16, 0x123C#16, 0x923A#16], summaryAnswer 65535 0 [0#16, 5#16, 0#16, 0#16],
          summaryAnswer 65535 0 [0#16, 4#16, 0#16, 0#16], summaryAnswer 65535 2 [], summaryAnswer 65535 1 [],
          summaryAnswer 0 0 [0#16, 4#16, 0x123C#16, 0x923A#16]],
        (scanning 0 1).rowOf .line f = .summaryResponse ∧ live.rowOf .line f = .summaryResponse
          ∧ (oxHeader f.payload).cls = 20 ∧ (oxHeader f.payload).idx = 7)
    ∧ ((scanning 0 1).approvedFrom 3 0).map Prod.fst = some 0 ∧ ((scanning 0 1).approvedFrom 3 1).map Prod.fst = some 2 ∧ (scanning 2 1).approvedFrom 3 3 = none
    ∧ reportedFingerprint (summaryAnswer 65535 0 [0#16, 4#16, 0x123C#16, 0x923A#16]).payload = 0x123C923A#32 := by
  decide +kernel

/-! ## Witnesses: notices, watches and ports -/

theorem witness_PostedNoticeIsPlacedOrLost :
    ({ live with destination := 0#48 }.NoticesGood ∧ { live with destination := 0#48 }.destination = 0#48)
    ∧ (∀ k ∈ [0, 7], { live with plant := holding k }.NoticesGood ∧ live.destination ≠ 0#48
      ∧ (holding k).originate.length < 8)
    ∧ (crowded.NoticesGood ∧ crowded.destination ≠ 0#48 ∧ crowded.plant.originate.length = 8
      ∧ crowded.notices.length = 31)
    ∧ ((crowded.post (noticeNumber .refused 28)).NoticesGood
      ∧ (crowded.post (noticeNumber .refused 28)).plant = loaded
      ∧ (crowded.post (noticeNumber .refused 28)).notices.length = 32)
    ∧ ({ behind live with notices := List.replicate 32 (noticeNumber .watchHit 1) }.NoticesGood
      ∧ ∀ a ∈ List.replicate 32 (noticeNumber .watchHit 1), a.kind = .watchHit) := by decide +kernel

theorem witness_WatchesHitInAscendingOrder :
    (watching.watch 0).isSome = true ∧ watching.watch 7 = none ∧ watching.destination ≠ 0#48
      ∧ (behind watching).plant.originate.length = 8 ∧ (behind watching).notices.length + 8 ≤ 32 := by decide +kernel

theorem witness_PortsSendInTheirOrder :
    let o : OrigFrame := { kind := .abandon, frame := param }
    let filled := fun (fs : List Frame) (os : List OrigFrame) (turns : Nat) =>
      { live with line := { live.line with forwarded := fs, originate := os, turns := turns } }
    (∀ s ∈ [filled [param] [] 0, filled [] [o] 0, filled [param] [o] 3, filled [param] [o] 4],
      s.powered = true ∧ (s.port .line).up = true ∧ (s.port .line).sending = none)
    ∧ ((busy []).line.up = true ∧ (busy []).line.sending ≠ none)
    ∧ (live.line.up = true ∧ live.line.sending = none ∧ live.line.forwarded = [] ∧ live.line.originate = [])
    ∧ PortState.reset.up = false
    ∧ (live.notices = [] ∧ crowded.notices ≠ [] ∧ 8 ≤ crowded.plant.originate.length)
    ∧ ∀ k ∈ [0, 7], crowded.powered = true ∧ { crowded with plant := holding k }.notices ≠ []
      ∧ { crowded with plant := holding k }.plant.originate.length < 8 := by decide +kernel

theorem witness_LinkChangesTakeEffect :
    live.powered = true ∧ live.plant.up = true ∧ live.line.up = true ∧ State.reset.powered = true
    ∧ live.destination ≠ 0#48 ∧ fresh.line.up = true ∧ fresh.destination = 0#48
    ∧ ((State.reset.port .line).up = false ∧ (State.reset.port .line).forwarded = []
      ∧ (State.reset.port .line).sending = none ∧ (State.reset.port .line).originate = [])
    ∧ (PortState.reset.placeOriginated { kind := .reply, frame := param } 7).originate.length = 1
    ∧ ((live.slot 0 = .free ∧ (taking 2 Sums.zero 1 1 (some 0) none).slot 0 ≠ .free)
      ∧ (verifying 1 []).slot 0 = .verifying (download 4) { a := 70195#32, b := 135730#32, i := 2 } 1 commit4
      ∧ released.slot 0 = .released (download 4) 102000000)
    ∧ (∀ w ∈ windows ++ [.commitWait .span none 0 (some .runAfterCommit), .verify .span none 0 (some .runAfterCommit)],
        (withWindow w).window? 3 = some w)
    ∧ live.window? 4 = none ∧ live.round = none ∧ (scanning 0 1).round ≠ none := by decide +kernel

/-! ## Witnesses: store, restart and power -/

/-- A store write in flight. -/
def writing : State := { live with writing := some live.image, stored := some live.image }

theorem witness_StoreWritesAndPowerTakeEffect :
    (writing.powered = true ∧ writing.writing = some live.image
      ∧ State.restartDue { writing with writing := none } = false
      ∧ State.restartDue { writing with lineWaiting := 1, writing := none } = true)
    ∧ live.stored = none ∧ writing.writing.isSome = true
    ∧ { writing with writing := none }.stored = some live.image :=
  ⟨⟨rfl, rfl, by decide +kernel, by decide +kernel⟩, rfl, rfl, rfl⟩

theorem witness_RestartsTakeEffect :
    live.round = none ∧ (scanning 0 1).round ≠ none ∧ { live with restartPending := true }.restartDue = true
    ∧ { live with lineWaiting := 2 }.restartDue = true ∧ live.restartDue = false
    ∧ { writing with restartPending := true, lineWaiting := 1 }.restartDue = false
    ∧ (let o : OrigFrame := { kind := .restartReply, frame := param }
       { live with plant := { live.plant with sending := some (.originated o) } }.restartReplyWaits = true
       ∧ { live with plant := { live.plant with originate := [o] } }.restartReplyWaits = true)
    ∧ live.lineClosed = false ∧ live.writing = none ∧ writing.writing ≠ none ∧ live.lineWaiting = 0
    ∧ live.takesCommand .restart .plant (order 21 [])
    ∧ (let full := { live with plant := { live.plant with
         originate := List.replicate 8 { kind := .reply, frame := param } } }
       full.takesCommand .restart .plant (order 21 []) ∧ 8 ≤ full.plant.originate.length
         ∧ full.restartReplyWaits = false) := by decide +kernel

/-! ## Witnesses: management -/

/-- A management request with a header given in full. -/
def rawOrder (kind code status reserved length : Nat) (args : List Byte) : Frame :=
  buildFrame Identity.chosen.station supervisor Config.managementType
    (bytesOf 1 kind ++ bytesOf 1 code ++ bytesOf 2 1 ++ bytesOf 1 status ++ bytesOf 1 reserved ++ bytesOf 2 length ++ args)

theorem witness_ManagementFramesAreCheckedAndAnswered :
    (live.rowOf .plant (order 1 []) = .management .identify ∧ live.accepts .plant (order 1 []) = true)
    ∧ (live.rowOf .plant (management e1 1 []) = .management .identify
      ∧ live.accepts .plant (management e1 1 []) = false)
    ∧ (live.rowOf .line (order 1 []) = .management .identify ∧ live.accepts .line (order 1 []) = false)
    ∧ [rawOrder 1 1 1 0 0 [], rawOrder 1 1 0 1 0 [], rawOrder 2 1 0 0 0 [], rawOrder 1 1 0 0 39 [], rawOrder 1 14 0 0 0 [],
        rawOrder 1 8 0 0 3 []].map live.requestCheck
      = [some .badFormat, some .badFormat, some .badFormat, some .badFormat, some .unknownCommand, some .badFormat]
    ∧ live.requestCheck (rawOrder 1 1 0 0 38 []) = none
    ∧ fresh.requestCheck (order 8 [3#8, 0#8, 0#8, 2#8]) = some .fallback := by decide +kernel

/-- Argument bytes at both ends of the controller numbers and the positions. -/
theorem witness_ReadingCommandsOnlyReply :
    live.takesCommand .identify .plant (order 1 []) ∧ live.takesCommand .readTime .plant (order 2 [])
    ∧ (∀ a ∈ [[3#8], [31#8], [32#8]], live.takesCommand .readController .plant (order 3 a))
    ∧ (live.controller 31 = none ∧ (live.controller 3).isSome = true)
    ∧ (∀ w ∈ windows, ({ quietController with window := w }).window = w)
    ∧ (((taking 2 Sums.zero 1 1 (some 0) none).slot 0).live = some (download 2) ∧ ∀ k : Fin 8, (live.slot k).live = none)
    ∧ (bank.definitions[0]? = some none ∧ bank.stations[3]? = some none ∧ bank.grants[6]? = some none
      ∧ bank.images[255]? = some none)
    ∧ (((bank.definitions[3]?).bind id).isSome = true ∧ ((bank.stations[0]?).bind id).isSome = true
      ∧ ((bank.grants[5]?).bind id).isSome = true ∧ ((bank.images[1]?).bind id).isSome = true)
    ∧ (∀ a ∈ [[0#8, 1#8, 0#8, 31#8], [1#8, 4#8, 0#8, 255#8], [2#8, 1#8, 0#8, 0#8], [0#8, 5#8, 0#8, 0#8],
          [0#8, 1#8, 0#8, 32#8]], live.takesCommand .readRecord .plant (order 4 a))
    ∧ (∀ a ∈ [[3#8], [31#8], [32#8]], live.takesCommand .probe .plant
        (order 17 (addrBytes e1 ++ a ++ [4#8, 0#8, 20#8, 0#8, 7#8, 3#8])))
    ∧ live.takesCommand .probe .plant (order 17 (addrBytes e1 ++ [3#8, 5#8, 1#8, 0#8, 0#8, 7#8, 4#8]))
    ∧ fresh.takesCommand .probe .plant (order 17 (addrBytes e1 ++ [31#8, 9#8, 0#8, 255#8, 0#8, 7#8, 0#8])) := by
  decide +kernel

theorem witness_ProbeForetellsAdmission :
    fresh.fallback = true ∧ live.fallback = false ∧ live.station stranger = none ∧ (live.station e1).isSome = true
    ∧ live.matchedGrant 3 .force 20 7 = none
    ∧ ((live.matchedGrant 3 .begins 20 7).map (fun x => x.2.check) = some .required
      ∧ (live.approved 3 20 7).isSome = true)
    ∧ ((live.matchedGrant 3 .begins 20 9).map (fun x => x.2.check) = some .required ∧ live.approved 3 20 9 = none)
    ∧ ((live.matchedGrant 5 .begins 21 5).map (fun x => x.2.check) = some .learn ∧ live.approved 5 21 5 = none)
    ∧ (live.station e1).map (fun e => e.rights.allow .begins) = some true ∧ opened.freeSlot = some 0 := by decide +kernel

/-- The bytes of a record and of an empty position at the highest position of each table. -/
theorem witness_ShadowBankIsLoaded :
    live.takesCommand .clearShadow .plant (order 6 [])
    ∧ (∀ a ∈ [[1#8, 0#8, 31#8, 0#8], [2#8, 0#8, 63#8, 0#8], [3#8, 0#8, 127#8, 0#8], [4#8, 0#8, 255#8, 0#8],
          [1#8, 0#8, 31#8, 1#8] ++ definitionBytes
            { addr := filler, statusOffset := 1499, quietSet := [1#8, 2#8, 3#8, 4#8], scanInterval := 86400 },
          [2#8, 0#8, 63#8, 1#8] ++ stationBytes { addr := e1, level := 3, rights := rights true true true true true },
          [3#8, 0#8, 127#8, 1#8] ++ grantBytes
            { controller := none, cls := some 255, low := 65535, high := 65535
              operations := rights false true true true true, level := 3, needed := true, check := .learn },
          [4#8, 0#8, 255#8, 1#8] ++ (bytesOf 1 31 ++ bytesOf 1 255 ++ bytesOf 2 65535 ++ bytesOf 4 262144
            ++ bytesOf 4 7 ++ List.replicate 10 0#8)],
        live.takesCommand .loadRecord .plant (order 5 a) ∧ ((order 5 a).payload.drop 8).take a.length = a) := by
  decide +kernel

/-- Arguments of LOAD-RECORD that are refused: a table or position that is none, a presence byte that is neither, and
records one value away from the check they fail. -/
def refusedRecords : List (List Byte) :=
  [[0#8, 0#8, 0#8, 0#8], [5#8, 0#8, 0#8, 0#8], [1#8, 0#8, 0#8, 2#8], [1#8, 0#8, 32#8, 0#8], [2#8, 0#8, 64#8, 0#8],
    [3#8, 0#8, 128#8, 0#8], [4#8, 1#8, 0#8, 0#8], [1#8, 0#8, 0#8, 1#8] ++ List.replicate 18 0#8]
  ++ [[2#8, 0#8, 0#8, 1#8] ++ addrBytes 0xFFFFFFFFFFFF#48 ++ [3#8, 31#8], [2#8, 0#8, 0#8, 1#8] ++ addrBytes e1 ++ [4#8, 31#8],
    [2#8, 0#8, 0#8, 1#8] ++ addrBytes e1 ++ [3#8, 32#8]]
  ++ [[32#8, 0#8, 20#8, 0#8, 1#8, 0#8, 2#8, 4#8, 3#8, 1#8, 1#8, 0#8], [3#8, 0#8, 20#8, 0#8, 2#8, 0#8, 1#8, 4#8, 3#8, 1#8, 1#8, 0#8],
      [3#8, 0#8, 20#8, 0#8, 1#8, 0#8, 2#8, 5#8, 3#8, 1#8, 1#8, 0#8], [3#8, 0#8, 20#8, 0#8, 1#8, 0#8, 2#8, 4#8, 3#8, 0#8, 1#8, 0#8],
      [3#8, 0#8, 20#8, 0#8, 1#8, 0#8, 2#8, 2#8, 3#8, 1#8, 2#8, 0#8]].map ([3#8, 0#8, 0#8, 1#8] ++ ·)
  ++ [[4#8, 0#8, 0#8, 1#8] ++ (bytesOf 1 3 ++ bytesOf 1 20 ++ bytesOf 2 7 ++ bytesOf 4 262145 ++ List.replicate 14 0#8)]

theorem witness_ShadowBankIsLoaded_refusals :
    ∀ a ∈ refusedRecords, live.takesCommand .loadRecord .plant (order 5 a)
      ∧ (answered (after (exec (.loadRecord .plant (order 5 a)) live))).1 = 9 := by decide +kernel

/-- SELECT-BANK for a generation. -/
def selecting (g : Nat) : Frame := order 7 (bytesOf 4 g)

/-- Banks that fail the bank check at each of the other tables, and one whose source would not hold MANAGE. -/
def failing : List (Bank × Table × Option Nat) :=
  [({ goodBank with definitions := goodBank.definitions.set 31 (goodBank.definitions[3]) }, .definitions, some 31),
    ({ goodBank with stations := goodBank.stations.set 63 (goodBank.stations[0]) }, .stations, some 63),
    (bank, .images, some 1),
    ({ goodBank with stations := goodBank.stations.set 1 none }, .stations, none)]

theorem witness_SelectBankDecidesInOrder :
    (∀ x ∈ failing, bankCheck x.1 supervisor = some x.2) ∧
    ((scanning 0 1).round.map (fun r => r.controller) = some 3 ∧ (scanning 0 1).takesCommand .selectBank .plant (selecting 15)
      ∧ (∀ n : Fin 32, (scanning 0 1).window? n = none ∨ (scanning 0 1).window? n = some .locked)
      ∧ ({ goodBank with definitions := goodBank.definitions.set 3 none }).definitions[3] = none) ∧
    (∀ g ∈ [14, 15, 16], live.takesCommand .selectBank .plant (selecting g))
    ∧ fresh.takesCommand .selectBank .plant (selecting 1)
    ∧ (opened.window? 3 = some (.opened .span 1903030000) ∧ (inLane .draining).slot 0 ≠ .free)
    ∧ (∀ n : Fin 32, live.window? n = none ∨ live.window? n = some .locked) ∧ (∀ k : Fin 8, live.slot k = .free)
    ∧ writing.writing ≠ none ∧ bankCheck badBank supervisor = some (.grants, some 0)
    ∧ bankCheck goodBank supervisor = none
    ∧ goodBank.definitions[4] = none ∧ (goodBank.definitions[3]).isSome = true ∧ live.controller 4 = none := by
  decide +kernel

/-- OPEN-WINDOW of a controller, for a length, in a mode. -/
def openOrder (n : Byte) (length : Nat) (m : Byte) : Frame := order 8 ([n] ++ bytesOf 2 length ++ [m])

theorem witness_OpenWindowDecidesInOrder :
    (∀ f ∈ [openOrder 32#8 0 1#8, openOrder 3#8 0 0#8, openOrder 31#8 0 1#8, openOrder 3#8 0 2#8, openOrder 3#8 59 1#8,
        openOrder 3#8 60 1#8, openOrder 3#8 14401 1#8],
      live.takesCommand .openWindow .plant f)
    ∧ live.controller 31 = none ∧ live.rateRefusal = none ∧ live.window? 3 = some .locked
    ∧ (opened.takesCommand .openWindow .plant (openOrder 3#8 0 2#8)
      ∧ releasedInQuarantine.takesCommand .openWindow .plant (openOrder 3#8 0 2#8))
    ∧ ({ fourOpenings with time := 1500000000 }.takesCommand .openWindow .plant (openOrder 3#8 0 2#8)
      ∧ { fourOpenings with time := 1500000000 }.rateRefusal = some 1600000000) := by decide +kernel

theorem witness_WindowsCloseAndQuarantine :
    (∀ w ∈ windows, (withWindow w).window? 3 = some w
      ∧ (withWindow w).takesCommand .closeWindow .plant (order 9 [3#8])
      ∧ (withWindow w).takesCommand .quarantine .plant (order 10 [3#8])
      ∧ (withWindow w).takesCommand .release .plant (order 11 [3#8]))
    ∧ live.takesCommand .release .plant (order 11 [32#8]) ∧ live.takesCommand .release .plant (order 11 [31#8])
    ∧ live.window? 31 = none
    ∧ (releasedInQuarantine.slot 0 = .released (download 4) 102000000
      ∧ releasedInQuarantine.takesCommand .release .plant (order 11 [3#8])) := by decide +kernel

theorem witness_CandidatesAndWatches :
    (∀ i ∈ [0, 1, 255, 256], live.takesCommand .approveCandidate .plant (order 12 (bytesOf 2 i)))
    ∧ (∀ b ∈ [0, 1, 2], live.takesCommand .discardCandidate .plant (order 13 (bytesOf 1 b ++ bytesOf 2 1)))
    ∧ ((live.active.images[0]?).bind id).map (fun r => r.status) = some .approved
    ∧ ((live.active.images[1]?).bind id).map (fun r => r.status) = some (.candidate 7)
    ∧ ((({ live with shadow := bank }).shadow.images[1]?).bind id).map (fun r => r.status) = some (.candidate 7)
    ∧ (∀ a ∈ [[7#8, 31#8] ++ bytesOf 2 65535 ++ bytesOf 2 9 ++ bytesOf 2 9 ++ [1#8, 0#8],
          [0#8, 3#8] ++ bytesOf 2 255 ++ bytesOf 2 0 ++ bytesOf 2 65535 ++ [0#8, 1#8],
          [8#8, 31#8] ++ bytesOf 2 256 ++ bytesOf 2 9 ++ bytesOf 2 8 ++ [2#8, 2#8]],
        live.takesCommand .armWatch .plant (order 15 a))
    ∧ live.takesCommand .disarmWatch .plant (order 16 [7#8])
    ∧ live.takesCommand .disarmWatch .plant (order 16 [8#8]) := by decide +kernel

theorem witness_CountersAndSettings :
    (∀ a ∈ [[31#8, 0#8], [31#8, 1#8], [32#8, 0#8], [254#8, 1#8], [255#8, 0#8], [255#8, 1#8], [0#8, 2#8]],
      live.takesCommand .readCounters .plant (order 18 a))
    ∧ (∀ q ∈ List.range 9, live.takesCommand .setTiming .plant (order 19 (bytesOf 1 q ++ bytesOf 4 4294967295)))
    ∧ writing.takesCommand .setTiming .plant (order 19 (bytesOf 1 1 ++ bytesOf 4 100))
    ∧ (∀ a ∈ [supervisor, 0#48, 0xFFFFFFFFFFFF#48, Identity.chosen.station].map addrBytes,
      live.takesCommand .setNoticeDestination .plant (order 20 a)
      ∧ writing.takesCommand .setNoticeDestination .plant (order 20 a)
      ∧ fresh.takesCommand .setNoticeDestination .plant (order 20 a)) := by decide +kernel

/-- A header, a transfer, and a notice with each of its fields. -/
theorem witness_BuiltFramesCarryTheirFields :
    let h := header .begins
    let x : Notice := { noticeNumber .watchHit 7 with
      controller := some 31, station := some e1, object := some (255, 65535), tid := some 65535
      reason := some (.reason .timeout), first := some 1#32, second := some 2#32 }
    h.version < 256 ∧ h.operation < 256 ∧ h.tag < 65536 ∧ h.declared < 4294967296 ∧ (download 4).tid < 65536
    ∧ x.time < 18446744073709551616 ∧ (∀ o ∈ x.object, o.1 < 256 ∧ o.2 < 65536) ∧ (∀ t ∈ x.tid, t < 65536)
    ∧ (noticeFrame supervisor e1 x 255).payload.take 8 = [3#8, 18#8, 127#8, 255#8, 17#8, 0#8, 0#8, 0#8] := by
  decide

end Sys2Proof.Tests
end

section
/-! PROOFS. What every step keeps of the queue, the policy banks and the dynamic state (O3, O9): the frame of each
shared operation for who is defined, the Image Table under learning, what a plain step keeps, and what a command can
do. -/

namespace Sys2Proof.Machine

/-- Which controller numbers a table of dynamic state holds (R20). -/
def definedIn (v : Vector (Option Controller) 32) : Vector Bool 32 := v.map Option.isSome

theorem definedIn_getElem (v : Vector (Option Controller) 32) (n : Fin 32) : (definedIn v)[n] = v[n].isSome := by
  simp [definedIn]

@[simp] theorem State.updateController_defined (s : State) (n : Fin 32) (f : Controller → Controller) :
    definedIn (s.updateController n f).controllers = definedIn s.controllers := by
  refine Vector.ext fun i hi => ?_
  have h := s.controller_updateController n ⟨i, hi⟩ f
  simp only [State.controller, Fin.getElem_fin] at h
  simp only [definedIn, Vector.getElem_map, h]
  split <;> simp

@[simp] theorem State.setWindow_defined (s : State) (n : Fin 32) (w : Window) :
    definedIn (s.setWindow n w).controllers = definedIn s.controllers := by
  simp only [State.setWindow]; repeat' split
  all_goals simp

@[simp] theorem State.setQuiet_defined (s : State) (n : Fin 32) (q : Option QuietRun) :
    definedIn (s.setQuiet n q).controllers = definedIn s.controllers := by
  simp [State.setQuiet]

@[simp] theorem State.updateSchedule_defined (s : State) (n : Fin 32) (f : Schedule → Schedule) :
    definedIn (s.updateSchedule n f).controllers = definedIn s.controllers := by
  simp [State.updateSchedule]

@[simp] theorem State.closeNow_defined (s : State) (n : Fin 32) (w : Window) (c : WindowCause) :
    definedIn (s.closeNow n w c).controllers = definedIn s.controllers := by
  simp [State.closeNow]

@[simp] theorem State.acceptOpening_defined (s : State) (n : Fin 32) (m : WindowMode) (a : Nat) :
    definedIn (s.acceptOpening n m a).controllers = definedIn s.controllers := by
  simp [State.acceptOpening]

@[simp] theorem State.settle_defined (s : State) (n : Fin 32) (m : WindowMode) (l : Nat) :
    definedIn (s.settle n m l).controllers = definedIn s.controllers := by
  simp [State.settle]

@[simp] theorem State.observeQuiet_defined (s : State) (n : Fin 32) (m : WindowMode) (l : Nat) :
    definedIn (s.observeQuiet n m l).controllers = definedIn s.controllers := by
  simp only [State.observeQuiet]; repeat' split
  all_goals simp

@[simp] theorem State.runAfterCommit_defined (s : State) (n : Fin 32) (m : WindowMode) (d : Option Nat)
    (k : Fin 8) (c : Option CloseCause) :
    definedIn (s.runAfterCommit n m d k c).controllers = definedIn s.controllers := by
  simp only [State.runAfterCommit]; repeat' split
  all_goals simp

@[simp] theorem State.observe_defined (s : State) (n : Fin 32) (o : Observation) :
    definedIn (s.observe n o).controllers = definedIn s.controllers := by
  simp only [State.observe]; repeat' split
  all_goals simp

@[simp] theorem State.monitorObserves_defined (s : State) (n : Fin 32) (o : Observation) (b : Bool) :
    definedIn (s.monitorObserves n o b).controllers = definedIn s.controllers := by
  simp only [State.monitorObserves]; repeat' split
  all_goals simp

@[simp] theorem State.transferStarted_defined (s : State) (n : Fin 32) (k : Fin 8) :
    definedIn (s.transferStarted n k).controllers = definedIn s.controllers := by
  simp only [State.transferStarted]; repeat' split
  all_goals simp

@[simp] theorem State.commitHeld_defined (s : State) (n : Fin 32) :
    definedIn (s.commitHeld n).controllers = definedIn s.controllers := by
  simp only [State.commitHeld]; repeat' split
  all_goals simp

@[simp] theorem State.commitReleased_defined (s : State) (n : Fin 32) :
    definedIn (s.commitReleased n).controllers = definedIn s.controllers := by
  simp only [State.commitReleased]; repeat' split
  all_goals simp

@[simp] theorem State.endTransfer_defined (s : State) (n : Fin 32) (m : WindowMode) (d : Option Nat)
    (c : Option CloseCause) (b : Bool) :
    definedIn (s.endTransfer n m d c b).controllers = definedIn s.controllers := by
  simp only [State.endTransfer]; repeat' split
  all_goals simp

@[simp] theorem State.transferEnded_defined (s : State) (n : Fin 32) (b : Bool) :
    definedIn (s.transferEnded n b).controllers = definedIn s.controllers := by
  simp only [State.transferEnded]; repeat' split
  all_goals simp

@[simp] theorem State.enterQuarantine_defined (s : State) (n : Fin 32) (c : QuarantineCause) :
    definedIn (s.enterQuarantine n c).controllers = definedIn s.controllers := by
  simp only [State.enterQuarantine]; repeat' split
  all_goals simp

@[simp] theorem State.reportMismatch_defined (s : State) (n : Fin 32) :
    definedIn (s.reportMismatch n).controllers = definedIn s.controllers := by
  simp only [State.reportMismatch]; repeat' split
  all_goals simp

@[simp] theorem State.linkLossWindow_defined (s : State) (n : Fin 32) :
    definedIn (s.linkLossWindow n).controllers = definedIn s.controllers := by
  simp only [State.linkLossWindow]; repeat' split
  all_goals simp

@[simp] theorem State.startTransfer_defined (s : State) (n : Fin 32) (k : Fin 8) (f : Frame) (c : ImageCheck) :
    definedIn (s.startTransfer n k f c).controllers = definedIn s.controllers := by
  simp [State.startTransfer]

@[simp] theorem State.releaseCommit_defined (s : State) (k : Fin 8) (x : Transfer) (h : Frame) (f : Quad) :
    definedIn (s.releaseCommit k x h f).controllers = definedIn s.controllers := by
  simp [State.releaseCommit]

@[simp] theorem State.completeVerifying_defined (s : State) (k : Fin 8) :
    definedIn (s.completeVerifying k).controllers = definedIn s.controllers :=
  State.completeVerifying_keeps (fun s => definedIn s.controllers) (by simp) (by simp) (by simp) (by simp) (by simp) s k

@[simp] theorem State.laneReports_defined (s : State) (w : LaneWork) :
    definedIn (s.laneReports w).controllers = definedIn s.controllers := by
  simp only [State.laneReports]; repeat' split
  all_goals simp

@[simp] theorem State.finishLane_defined (s : State) (l : Fin 2) :
    definedIn (s.finishLane l).controllers = definedIn s.controllers := by
  simp only [State.finishLane]; repeat' split
  all_goals simp

@[simp] theorem State.refuseAndAbort_defined (s : State) (n : Fin 32) (k : Fin 8) (o : Operation)
    (f : Frame) (r : Reason) :
    definedIn (s.refuseAndAbort n k o f r).controllers = definedIn s.controllers := by
  simp [State.refuseAndAbort]

@[simp] theorem State.newSegment_defined (s : State) (n : Fin 32) (k : Fin 8) (x : Transfer) (z : Sums)
    (p : Nat) (q : Intake) (f : Frame) :
    definedIn (s.newSegment n k x z p q f).1.controllers = definedIn s.controllers := by
  simp only [State.newSegment]; repeat' split
  all_goals simp

@[simp] theorem State.sequenceSegment_defined (s : State) (n : Fin 32) (k : Fin 8) (x : Transfer) (z : Sums)
    (p : Nat) (q : Intake) (f : Frame) :
    definedIn (s.sequenceSegment n k x z p q f).1.controllers = definedIn s.controllers := by
  simp only [State.sequenceSegment]; repeat' split
  all_goals simp

@[simp] theorem State.segmentAt_defined (s : State) (n : Fin 32) (k : Fin 8) (f : Frame) :
    definedIn (s.segmentAt n k f).1.controllers = definedIn s.controllers := by
  simp only [State.segmentAt]; repeat' split
  all_goals simp

@[simp] theorem State.commitAt_defined (s : State) (n : Fin 32) (k : Fin 8) (f : Frame) :
    definedIn (s.commitAt n k f).1.controllers = definedIn s.controllers := by
  simp only [State.commitAt]; repeat' split
  all_goals simp

@[simp] theorem State.abandonAt_defined (s : State) (n : Fin 32) (k : Fin 8) (f : Frame) :
    definedIn (s.abandonAt n k f).1.controllers = definedIn s.controllers := by
  simp only [State.abandonAt]; repeat' split
  all_goals simp

@[simp] theorem State.takeBeginResponse_defined (s : State) (n : Fin 32) (k : Fin 8) (v : Nat) :
    definedIn (s.takeBeginResponse n k v).controllers = definedIn s.controllers := by
  simp only [State.takeBeginResponse]; repeat' split
  all_goals simp

@[simp] theorem State.endReleased_defined (s : State) (k : Fin 8) (x : Option (NoticeKind × Option Quad)) :
    definedIn (s.endReleased k x).controllers = definedIn s.controllers := by
  simp only [State.endReleased]; repeat' split
  all_goals simp

@[simp] theorem State.takeCommitResponse_defined (s : State) (k : Fin 8) (v : Nat) :
    definedIn (s.takeCommitResponse k v).controllers = definedIn s.controllers := by
  simp only [State.takeCommitResponse]; repeat' split
  all_goals simp

@[simp] theorem State.timeoutSlot_defined (s : State) (k : Fin 8) :
    definedIn (s.timeoutSlot k).controllers = definedIn s.controllers := by
  simp only [State.timeoutSlot]; repeat' split
  all_goals simp

@[simp] theorem State.postponeScan_defined (s : State) (n : Fin 32) :
    definedIn (s.postponeScan n).controllers = definedIn s.controllers := by
  simp only [State.postponeScan]; repeat' split
  all_goals simp

@[simp] theorem State.endRound_defined (s : State) (n : Fin 32) (v : Nat) (b : Bool) :
    definedIn (s.endRound n v b).controllers = definedIn s.controllers := by
  simp only [State.endRound]; repeat' split
  all_goals simp

@[simp] theorem State.continueRound_defined (s : State) (n : Fin 32) (v l : Nat) :
    definedIn (s.continueRound n v l).controllers = definedIn s.controllers := by
  simp only [State.continueRound]; repeat' split
  all_goals simp

@[simp] theorem State.checkController_defined (s : State) (n : Fin 32) :
    definedIn (s.checkController n).controllers = definedIn s.controllers := by
  simp only [State.checkController]; repeat' split
  all_goals simp

@[simp] theorem State.scheduleCheck_defined (s : State) :
    definedIn s.scheduleCheck.controllers = definedIn s.controllers :=
  foldl_keeps (fun s => definedIn s.controllers) _ (by simp) _ s

@[simp] theorem State.cancelRound_defined (s : State) :
    definedIn s.cancelRound.controllers = definedIn s.controllers := by
  simp only [State.cancelRound]; repeat' split
  all_goals simp

@[simp] theorem State.cancelRoundOf_defined (s : State) (n : Fin 32) :
    definedIn (s.cancelRoundOf n).controllers = definedIn s.controllers := by
  simp only [State.cancelRoundOf]; repeat' split
  all_goals simp

@[simp] theorem State.drift_defined (s : State) (r : Round) (i : ImageRecord) (x : Option Reason) (a b : Quad) :
    definedIn (s.drift r i x a b).controllers = definedIn s.controllers := by
  simp [State.drift]

@[simp] theorem State.miss_defined (s : State) (r : Round) (i : ImageRecord) (v : Option Nat) :
    definedIn (s.miss r i v).controllers = definedIn s.controllers := by
  simp only [State.miss]; repeat' split
  all_goals simp

@[simp] theorem State.judgeSummary_defined (s : State) (r : Round) (i : ImageRecord) (f : Frame) :
    definedIn (s.judgeSummary r i f).controllers = definedIn s.controllers := by
  simp only [State.judgeSummary]; repeat' split
  all_goals simp

@[simp] theorem State.takeSummaryResponse_defined (s : State) (f : Frame) :
    definedIn (s.takeSummaryResponse f).controllers = definedIn s.controllers := by
  simp only [State.takeSummaryResponse]; repeat' split
  all_goals simp

@[simp] theorem State.scanTimeout_defined (s : State) :
    definedIn s.scanTimeout.controllers = definedIn s.controllers := by
  simp only [State.scanTimeout]; repeat' split
  all_goals simp

/-! ## The tables of a bank -/

/-- The records of a table are those its positions hold. -/
theorem mem_records_iff {α : Type} {n : Nat} (t : Vector (Option α) n) (a : α) :
    a ∈ records t ↔ ∃ i : Nat, t[i]? = some (some a) := by
  rw [records, List.mem_filterMap]
  simp [List.mem_iff_getElem?]

/-- The keys of a table's records are distinct when no two positions hold records of one key. -/
theorem nodup_records_iff {α β : Type} {n : Nat} (t : Vector (Option α) n) (key : α → β) :
    ((records t).map key).Nodup ↔
      ∀ (i j : Nat) (a b : α), t[i]? = some (some a) → t[j]? = some (some b) → key a = key b → i = j := by
  rw [records, List.Nodup, List.pairwise_map, List.pairwise_filterMap, List.pairwise_iff_getElem]
  simp only [id, ← Vector.getElem?_toList, List.getElem?_eq_some_iff]
  constructor
  · rintro h i j a b ⟨hi, ha⟩ ⟨hj, hb⟩ hk
    rcases Nat.lt_trichotomy i j with hlt | heq | hlt
    · exact absurd hk (h i j hi hj hlt a ha b hb)
    · exact heq
    · exact absurd hk.symm (h j i hj hi hlt b hb a ha)
  · intro h i j hi hj hlt a ha b hb hk
    exact absurd (h i j a b ⟨hi, ha⟩ ⟨hj, hb⟩ hk) (Nat.ne_of_lt hlt)

/-- A record written where its key stands already, or stands nowhere, leaves the keys distinct; so does a position
emptied. -/
theorem nodup_records_set {α β : Type} {n : Nat} {t : Vector (Option α) n} {key : α → β} {i : Nat} {o : Option α}
    (h : ((records t).map key).Nodup)
    (ho : ∀ a ∈ o, ∀ (j : Nat) (b : α), t[j]? = some (some b) → key b = key a → j = i) :
    ((records (t.setIfInBounds i o)).map key).Nodup := by
  rw [nodup_records_iff] at h ⊢
  intro j k a b ha hb hk
  simp only [Vector.getElem?_setIfInBounds] at ha hb
  split at ha <;> split at hb
  · omega
  · have hmem : a ∈ o := by simp_all
    have := ho a hmem k b hb hk.symm
    omega
  · have hmem : b ∈ o := by simp_all
    have := ho b hmem j a ha hk
    omega
  · exact h j k a b ha hb hk

/-- A bank that differs from another in its Image Table alone, whose keys are distinct when the other's were. -/
structure Bank.Relearned (b b' : Bank) : Prop where
  definitions : b'.definitions = b.definitions
  stations : b'.stations = b.stations
  grants : b'.grants = b.grants
  keys : ((records b.images).map ImageRecord.key).Nodup → ((records b'.images).map ImageRecord.key).Nodup

@[simp] theorem Bank.Relearned.refl (b : Bank) : b.Relearned b := ⟨rfl, rfl, rfl, id⟩

theorem Bank.Relearned.trans {a b c : Bank} (h : a.Relearned b) (h' : b.Relearned c) : a.Relearned c :=
  ⟨h'.definitions.trans h.definitions, h'.stations.trans h.stations, h'.grants.trans h.grants, h'.keys ∘ h.keys⟩

theorem Bank.Relearned.good {b b' : Bank} (h : b.Relearned b') (hb : b.Good) : b'.Good := by
  obtain ⟨⟨hd, hs, hi⟩, hc, hg⟩ := hb
  refine ⟨⟨?_, ?_, h.keys hi⟩, ?_, ?_⟩
  · rw [h.definitions]; exact hd
  · rw [h.stations]; exact hs
  · rw [Bank.GrantsChecked, h.grants]; exact hc
  · rw [Bank.GrantsDefined, h.grants, h.definitions]; exact hg

/-- An Image Table written at one position, with a record whose key stands at no other, or emptied there. -/
theorem Bank.relearned_set (b : Bank) (i : Nat) (o : Option ImageRecord)
    (ho : ((records b.images).map ImageRecord.key).Nodup → ∀ r ∈ o, ∀ (j : Nat) (x : ImageRecord),
      b.images[j]? = some (some x) → x.key = r.key → j = i) :
    b.Relearned { b with images := b.images.setIfInBounds i o } :=
  ⟨rfl, rfl, rfl, fun h => nodup_records_set h (ho h)⟩

theorem ImageRecord.hasKey_iff (r : ImageRecord) (n : Fin 32) (cls idx : Nat) :
    r.hasKey n cls idx = true ↔ r.key = (n, cls, idx) := by
  simp [ImageRecord.hasKey, ImageRecord.key, and_assoc]

/-- A key has no APPROVED record when every record of the key in the active bank is a CANDIDATE. -/
theorem State.approved_eq_none_iff (s : State) (n : Fin 32) (cls idx : Nat) :
    s.approved n cls idx = none ↔
      ∀ (i : Nat) (r : ImageRecord), s.active.images[i]? = some (some r) → r.key = (n, cls, idx) →
        r.isApproved = false := by
  have hmem : ∀ r, r ∈ s.active.images.toList.filterMap id ↔ _ := mem_records_iff s.active.images
  simp only [State.approved, List.find?_eq_none, hmem, Bool.and_eq_true, ImageRecord.hasKey_iff, not_and,
    Bool.not_eq_true]
  exact ⟨fun h i r hi => h r ⟨i, hi⟩, fun h r ⟨i, hi⟩ => h i r hi⟩

/-- The place learning writes to holds the only record of its key: the key's CANDIDATE, or nothing of the key at all. -/
theorem State.learnPosition_of_key {s : State} {x : Transfer} {i : Nat}
    (ha : s.approved x.controller x.cls x.idx = none) (hk : ((records s.active.images).map ImageRecord.key).Nodup)
    (hi : (s.candidatePosition x <|> s.emptyPosition) = some i) (j : Nat) (r : ImageRecord)
    (hr : s.active.images[j]? = some (some r)) (hkey : r.key = (x.controller, x.cls, x.idx)) : j = i := by
  have hcand := (s.approved_eq_none_iff ..).1 ha j r hr hkey
  cases hc : s.candidatePosition x with
  | none =>
    rw [State.candidatePosition, List.findIdx?_eq_none_iff] at hc
    have := hc (some r) (List.mem_iff_getElem?.2 ⟨j, by simpa using hr⟩)
    simp [(r.hasKey_iff ..).2 hkey, hcand] at this
  | some k =>
    obtain rfl : k = i := by simpa [hc] using hi
    rw [State.candidatePosition, List.findIdx?_eq_some_iff_getElem] at hc
    obtain ⟨hlt, hp, -⟩ := hc
    obtain ⟨c, hget, hck⟩ := (Option.any_eq_true _ _).1 hp
    simp only [Bool.and_eq_true, ImageRecord.hasKey_iff] at hck
    have hcandidate : s.active.images[k]? = some (some c) := by
      rw [← Vector.getElem?_toList]; exact List.getElem?_eq_some_iff.2 ⟨hlt, hget⟩
    exact (nodup_records_iff ..).1 hk j k r c hr hcandidate (hkey.trans hck.1.symm)

theorem State.learnImage_relearned (s : State) (x : Transfer) (n : Nat) (f : Quad)
    (ha : s.approved x.controller x.cls x.idx = none) : s.active.Relearned (s.learnImage x n f).1.active := by
  unfold State.learnImage
  split
  · rename_i i hi
    rw [State.post_active]
    refine s.active.relearned_set i _ fun hk r hr j y hy hkey => ?_
    obtain rfl : s.candidateFor x n f = r := by simpa using hr
    exact State.learnPosition_of_key ha hk hi j y hy hkey
  · exact .refl _

/-- The image decision writes the Image Table only where it learns. -/
theorem State.decideImage_relearned (s : State) (x : Transfer) (n : Nat) (f : Quad) :
    s.active.Relearned (s.decideImage x n f).1.active := by
  have hcompare : ∀ r, s.active.Relearned (s.compareImage x r n f).1.active := fun r => by simp
  unfold State.decideImage
  split
  · exact .refl _
  · split
    · exact hcompare _
    · exact .refl _
  · split
    · exact hcompare _
    · exact s.learnImage_relearned x n f ‹_›


theorem State.completeVerifying_relearned (s : State) (k : Fin 8) :
    s.active.Relearned (s.completeVerifying k).active := by
  unfold State.completeVerifying
  split
  · rename_i x sums held _
    have hd := s.decideImage_relearned x sums.i (fingerprint sums sums.i)
    dsimp only
    split <;> rename_i h <;> simpa [h] using hd
  · exact .refl _

theorem State.laneReports_relearned (s : State) (w : LaneWork) : s.active.Relearned (s.laneReports w).active := by
  unfold State.laneReports
  dsimp only
  split
  case h_2 x sums pending held _ =>
    exact State.completeVerifying_relearned
      (s.setSlot w.entry.slot (.verifying x (w.sums.takeAll w.entry.words) (pending - 1) held)) w.entry.slot
  all_goals simp

theorem State.finishLane_relearned (s : State) (l : Fin 2) : s.active.Relearned (s.finishLane l).active := by
  unfold State.finishLane
  split
  · simpa using (s.setLane l none).laneReports_relearned _
  · exact .refl _

theorem State.commitAt_relearned (s : State) (n : Fin 32) (k : Fin 8) (f : Frame) :
    s.active.Relearned (s.commitAt n k f).1.active := by
  unfold State.commitAt
  split
  · rename_i x sums pending _ _
    split
    · dsimp only
      split
      · simpa using ((s.setSlot k (.verifying x sums pending f)).commitHeld n).completeVerifying_relearned k
      · simp
    · simp
  all_goals simp

/-! ## What every effect outside management, power and the store keeps -/

/-- The state `t` has the queue of commands of `s`, its identity, device time and power, its shadow bank, its store, the
role of its banks and the controllers it defines; its active bank is that of `s`, but for its Image Table. -/
structure State.Keeps (s t : State) : Prop where
  identity : t.identity = s.identity
  powered : t.powered = s.powered
  time : t.time = s.time
  fallback : t.fallback = s.fallback
  generation : t.generation = s.generation
  shadow : t.shadow = s.shadow
  stored : t.stored = s.stored
  writing : t.writing = s.writing
  pending : t.pending = s.pending
  choices : t.choices = s.choices
  defined : definedIn t.controllers = definedIn s.controllers
  bank : s.active.Relearned t.active

theorem State.Keeps.refl (s : State) : s.Keeps s := by constructor <;> simp

theorem State.Keeps.trans {s t u : State} (h : s.Keeps t) (h' : t.Keeps u) : s.Keeps u where
  identity := h'.identity.trans h.identity
  powered := h'.powered.trans h.powered
  time := h'.time.trans h.time
  fallback := h'.fallback.trans h.fallback
  generation := h'.generation.trans h.generation
  shadow := h'.shadow.trans h.shadow
  stored := h'.stored.trans h.stored
  writing := h'.writing.trans h.writing
  pending := h'.pending.trans h.pending
  choices := h'.choices.trans h.choices
  defined := h'.defined.trans h.defined
  bank := h.bank.trans h'.bank

theorem State.post_keeps (s : State) (n : Notice) : s.Keeps (s.post n) := by constructor <;> simp

theorem State.forward_keeps (s : State) (p : Port) (f : Frame) : s.Keeps (s.forward p f) := by constructor <;> simp

theorem State.offer_keeps (s : State) (n : Fin 32) (o : Operation) (f : Frame) (e : Ending) :
    s.Keeps (s.offer n o f e) := by constructor <;> simp

theorem State.refuse_keeps (s : State) (n : Option (Fin 32)) (o : Operation) (f : Frame) (r : Reason) :
    s.Keeps (s.refuse n o f r) := by constructor <;> simp

/-! ### Requests -/

theorem State.refuseAndOffer_keeps (s : State) (n : Fin 32) (o : Operation) (f : Frame) (r : Reason) :
    s.Keeps (s.refuseAndOffer n o f r) := (s.refuse_keeps (some n) o f r).trans (State.offer_keeps ..)

theorem State.passRead_keeps (s : State) (n : Fin 32) (o : Operation) (f : Frame) : s.Keeps (s.passRead n o f) :=
  (s.forward_keeps .line f).trans (State.offer_keeps ..)

theorem State.admitSingle_keeps (s : State) (n : Fin 32) (o : Operation) (f : Frame) :
    s.Keeps (s.admitSingle n o f) := by
  unfold State.admitSingle
  split
  · constructor <;> simp [State.passAndOffer]
  · exact s.refuseAndOffer_keeps n o f _
  · exact .refl s

theorem State.admitBegin_keeps (s : State) (n : Fin 32) (f : Frame) : s.Keeps (s.admitBegin n f) := by
  unfold State.admitBegin
  dsimp only
  split
  · exact s.refuseAndOffer_keeps n .begins f _
  · exact .refl s
  · split
    · exact s.refuseAndOffer_keeps n .begins f _
    · constructor <;> simp

theorem State.handToTracker_keeps (s : State) (n : Fin 32) (o : Operation) (f : Frame)
    {tracker : State → Fin 8 → State × Ending} (h : ∀ k, s.Keeps (tracker s k).1) :
    s.Keeps (s.handToTracker n o f tracker) := by
  unfold State.handToTracker
  split
  · exact s.refuseAndOffer_keeps n o f _
  · exact (h _).trans (State.offer_keeps ..)

theorem State.segmentAt_keeps (s : State) (n : Fin 32) (k : Fin 8) (f : Frame) : s.Keeps (s.segmentAt n k f).1 := by
  constructor <;> simp

theorem State.commitAt_keeps (s : State) (n : Fin 32) (k : Fin 8) (f : Frame) : s.Keeps (s.commitAt n k f).1 := by
  constructor <;> simp [State.commitAt_relearned]

theorem State.abandonAt_keeps (s : State) (n : Fin 32) (k : Fin 8) (f : Frame) : s.Keeps (s.abandonAt n k f).1 := by
  constructor <;> simp

theorem State.requestEffect_keeps (s : State) (o : Operation) (n : Fin 32) (f : Frame) :
    s.Keeps (s.requestEffect o n f) := by
  cases o with
  | read => exact s.passRead_keeps n .read f
  | summary => exact s.passRead_keeps n .summary f
  | setParam => exact s.admitSingle_keeps n .setParam f
  | mode => exact s.admitSingle_keeps n .mode f
  | force => exact s.admitSingle_keeps n .force f
  | begins => exact s.admitBegin_keeps n f
  | segment =>
    exact s.handToTracker_keeps n .segment f (tracker := fun s k => s.segmentAt n k f) fun k => s.segmentAt_keeps n k f
  | commit =>
    exact s.handToTracker_keeps n .commit f (tracker := fun s k => s.commitAt n k f) fun k => s.commitAt_keeps n k f
  | abandon =>
    exact s.handToTracker_keeps n .abandon f (tracker := fun s k => s.abandonAt n k f) fun k => s.abandonAt_keeps n k f


/-! ## Closed fallback -/

/-- What Closed fallback leaves of policy and transfers: nothing (R62, R159). -/
structure State.Closed (s : State) : Prop where
  active : s.active = Bank.empty
  defined : definedIn s.controllers = Vector.replicate 32 false
  slots : s.slots = Vector.replicate 8 .free
  watches : s.watches = Vector.replicate 8 none

namespace State.Closed
variable {s : State}

theorem controller (h : s.Closed) (n : Fin 32) : s.controller n = none := by
  have hn := definedIn_getElem s.controllers n
  rw [h.defined] at hn
  simpa [State.controller] using hn.symm

theorem window (h : s.Closed) (n : Fin 32) : s.window? n = none := by simp [State.window?, h.controller]

theorem slot (h : s.Closed) (k : Fin 8) : s.slot k = .free := by simp [State.slot, h.slots]

theorem protectedBy (h : s.Closed) (a : Addr) : s.protectedBy a = none := by
  simp [State.protectedBy, State.definition, h.active, Bank.empty]

end State.Closed

/-- The state `t` keeps what every effect outside management, power and the store keeps, and Closed fallback with it. -/
structure State.Plain (s t : State) : Prop where
  keeps : s.Keeps t
  closed : s.Closed → t.Closed

theorem State.Plain.refl (s : State) : s.Plain s := ⟨.refl s, id⟩

theorem State.Plain.trans {s t u : State} (h : s.Plain t) (h' : t.Plain u) : s.Plain u :=
  ⟨h.keeps.trans h'.keeps, h'.closed ∘ h.closed⟩

/-- Where the active bank, the slots and the watches stay as they are, what is closed stays closed. -/
theorem State.Keeps.plain {s t : State} (h : s.Keeps t) (ha : t.active = s.active) (hs : t.slots = s.slots)
    (hw : t.watches = s.watches) : s.Plain t :=
  ⟨h, fun hc => ⟨ha.trans hc.active, h.defined.trans hc.defined, hs.trans hc.slots, hw.trans hc.watches⟩⟩

/-- What takes place outside Closed fallback alone says nothing about it. -/
theorem State.Keeps.plain_of_open {s t : State} (h : s.Keeps t) (ho : ¬ s.Closed) : s.Plain t :=
  ⟨h, fun hc => absurd hc ho⟩

theorem State.Plain.ite {s t : State} {c : Prop} [Decidable c] (h : c → s.Plain t) : s.Plain (if c then t else s) := by
  split
  · exact h ‹_›
  · exact .refl s

theorem State.post_plain (s : State) (n : Notice) : s.Plain (s.post n) :=
  (s.post_keeps n).plain (by simp) (by simp) (by simp)

theorem State.forward_plain (s : State) (p : Port) (f : Frame) : s.Plain (s.forward p f) :=
  (s.forward_keeps p f).plain (by simp) (by simp) (by simp)

theorem State.countDiscarded_plain (s : State) : s.Plain s.countDiscarded :=
  State.Keeps.plain (by constructor <;> simp) (by simp) (by simp) (by simp)

theorem State.reply_plain (s : State) (f : Frame) (k : OrigKind) (r : Reply) : s.Plain (s.reply f k r) :=
  State.Keeps.plain (by constructor <;> simp [State.reply]) (by simp [State.reply]) (by simp [State.reply])
    (by simp [State.reply])

/-! ### Frames -/

theorem State.dropMalformed_plain (s : State) (f : Frame) : s.Plain (s.dropMalformed f) :=
  State.Keeps.plain (by constructor <;> simp [State.dropMalformed]) (by simp [State.dropMalformed])
    (by simp [State.dropMalformed]) (by simp [State.dropMalformed])

theorem State.closedRequest_plain (s : State) (o : Operation) (f : Frame) : s.Plain (s.closedRequest o f) := by
  unfold State.closedRequest
  split
  · exact (s.refuse_keeps none o f .closed).plain (by simp) (by simp) (by simp)
  · exact s.forward_plain .line f

theorem State.whenRow_plain (s : State) (p : Port) (f : Frame) (row : FrameRow) {effect : State → State}
    (h : s.Plain (effect s)) : s.Plain (s.whenRow p f row effect) := .ite fun _ => h

theorem State.takeRequest_plain (s : State) (o : Operation) (f : Frame) :
    s.Plain (s.takeRequest o f fun s n => s.requestEffect o n f) := by
  refine s.whenRow_plain _ _ _ ?_
  split
  · exact s.dropMalformed_plain f
  · split
    · exact s.closedRequest_plain o f
    · split
      · rename_i n hn
        exact (s.requestEffect_keeps o n f).plain_of_open fun hc => by simp [hc.protectedBy] at hn
      · exact .refl s

theorem State.monitorObserves_keeps (s : State) (n : Fin 32) (o : Observation) (b : Bool) :
    s.Keeps (s.monitorObserves n o b) := by constructor <;> simp

theorem State.takeBeginResponse_keeps (s : State) (n : Fin 32) (k : Fin 8) (v : Nat) :
    s.Keeps (s.takeBeginResponse n k v) := by constructor <;> simp

theorem State.takeCommitResponse_keeps (s : State) (k : Fin 8) (v : Nat) : s.Keeps (s.takeCommitResponse k v) := by
  constructor <;> simp

theorem State.takeSummaryResponse_plain (s : State) (f : Frame) : s.Plain (s.takeSummaryResponse f) := by
  refine ⟨by constructor <;> simp, fun hc => ?_⟩
  have hsame : s.takeSummaryResponse f = s := by
    unfold State.takeSummaryResponse
    split
    · rfl
    · simp [State.answersRound, hc.protectedBy]
  rw [hsame]; exact hc

/-! ### Deadlines and lanes -/

theorem State.settleExpiry_keeps (s : State) (n : Fin 32) : s.Keeps (s.settleExpiry n) := by
  unfold State.settleExpiry
  split
  · split <;> constructor <;> simp
  · exact .refl s

theorem State.closeOrPend_keeps (s : State) (n : Fin 32) (w : Window) (c : CloseCause) (g : Option Nat → Option Nat) :
    s.Keeps (s.closeOrPend n w c g) := by
  cases w <;> constructor <;> simp [State.closeOrPend]

theorem State.finishLane_plain (s : State) (l : Fin 2) : s.Plain (s.finishLane l) := by
  refine ⟨by constructor <;> simp [State.finishLane_relearned], fun hc => ?_⟩
  unfold State.finishLane
  split
  · rename_i w _
    have hfree : (s.setLane l none).slot w.entry.slot = .free := hc.slot _
    have hsame : (s.setLane l none).laneReports w = s.setLane l none := by simp [State.laneReports, hfree]
    rw [hsame]
    exact ⟨by simp [hc.active], by simp [hc.defined], by simp [hc.slots], by simp [hc.watches]⟩
  · exact hc

theorem State.scheduleCheck_plain (s : State) : s.Plain s.scheduleCheck :=
  State.Keeps.plain (by constructor <;> simp) (by simp) (by simp) (by simp)

/-! ### Restarts -/

theorem State.restartBlocks_plain (s : State) : s.Plain s.restartBlocks := by
  have hd : definedIn s.restartBlocks.controllers = definedIn s.controllers := by
    simp [definedIn, State.restartBlocks, Function.comp_def]
  exact ⟨⟨rfl, rfl, rfl, rfl, rfl, rfl, rfl, rfl, rfl, rfl, hd, .refl _⟩,
    fun hc => ⟨hc.active, hd.trans hc.defined, rfl, rfl⟩⟩

theorem State.warmRestart_plain (s : State) : s.Plain s.warmRestart := by
  unfold State.warmRestart
  split
  · exact s.restartBlocks_plain.trans (State.scheduleCheck_plain _)
  · exact s.restartBlocks_plain

theorem State.warmRestarts_plain (k : Nat) (s : State) : s.Plain (s.warmRestarts k) := by
  induction k generalizing s with
  | zero => exact .refl s
  | succ k ih => exact s.warmRestart_plain.trans (ih _)

theorem State.takeDueRestart_plain (s : State) : s.Plain s.takeDueRestart := .ite fun _ => s.warmRestarts_plain _

theorem State.doRestart_plain (s : State) (f : Frame) : s.Plain (s.doRestart f) := by
  unfold State.doRestart
  split
  · exact s.reply_plain f _ _
  · have h : s.Plain { s with restartPending := true } := State.Keeps.plain (by constructor <;> simp) rfl rfl rfl
    exact (h.trans (State.reply_plain ..)).trans (State.takeDueRestart_plain _)

/-! ### Ports -/

theorem State.setPort_plain (s : State) (p : Port) (x : PortState) : s.Plain (s.setPort p x) :=
  State.Keeps.plain (by constructor <;> simp) (by simp) (by simp) (by simp)

theorem State.offerPlaces_plain (s : State) (p : Port) : s.Plain (s.offerPlaces p) := by
  cases p
  · exact State.Keeps.plain (by constructor <;> simp [State.offerPlaces]) (by simp [State.offerPlaces])
      (by simp [State.offerPlaces]) (by simp [State.offerPlaces])
  · exact .refl s

theorem State.moveNotice_plain (s : State) : s.Plain s.moveNotice := by
  obtain ⟨q, d, x, h⟩ := s.moveNotice_shape
  rw [h]
  exact State.Keeps.plain (by constructor <;> simp) rfl rfl rfl

theorem State.dropPort_plain (s : State) (p : Port) : s.Plain (s.dropPort p) := by
  cases p <;>
    exact State.Keeps.plain (by constructor <;> simp [State.dropPort]) (by simp [State.dropPort])
      (by simp [State.dropPort]) (by simp [State.dropPort])

theorem State.linkLossSlot_plain (s : State) (k : Fin 8) : s.Plain (s.linkLossSlot k) := by
  refine ⟨by constructor <;> simp, fun hc => ?_⟩
  have hsame : s.linkLossSlot k = s := by simp [State.linkLossSlot, hc.slot]
  rw [hsame]; exact hc

theorem State.linkLossWindow_plain (s : State) (n : Fin 32) : s.Plain (s.linkLossWindow n) :=
  State.Keeps.plain (by constructor <;> simp) (by simp) (by simp) (by simp)

/-- A fold over plain steps is plain. -/
theorem State.Plain.foldl {α : Type} {f : State → α → State} (h : ∀ (s : State) a, s.Plain (f s a)) (l : List α)
    (s : State) : s.Plain (l.foldl f s) := by
  induction l generalizing s with
  | nil => exact .refl s
  | cons a l ih => exact (h s a).trans (ih _)

theorem State.lineLinkLoss_plain (s : State) : s.Plain s.lineLinkLoss := by
  have hslots := State.Plain.foldl State.linkLossSlot_plain (List.finRange 8) s
  have hwindows := hslots.trans (State.Plain.foldl State.linkLossWindow_plain (List.finRange 32) _)
  unfold State.lineLinkLoss
  dsimp only
  split
  · exact hwindows.trans (State.Keeps.plain (by constructor <;> simp) (by simp) (by simp) (by simp))
  · exact hwindows


/-! ## What a command can do -/

/-- What a command can do to a state: a plain step; the body and the reply of a management command other than RESTART; the
end of a store write, with the restarts that waited for it; or a change of power. -/
inductive State.Took (s : State) (i : Instr) : State → Prop where
  | plain {t : State} : s.Plain t → State.Took s i t
  | command (c : Command) (p : Port) (f : Frame) : i = managementInstr c p f → c ≠ .restart → s.takesCommand c p f →
      State.Took s i ((s.commandBody c f).1.reply f .reply (s.commandBody c f).2)
  | storeWriteEnd (success : Bool) : i = .storeWriteEnd success → State.Took s i (s.endWrite success).takeDueRestart
  | powerOn : i = .powerOnReset → State.Took s i s.powerOn
  | powerLoss : i = .powerLoss → State.Took s i s.losePower

/-- A request changes nothing but in a plain step. -/
theorem exec_request_took (o : Operation) (f : Frame) (s : State) :
    ∃ t, exec (requestInstr o f) s = .next t ∧ s.Took (requestInstr o f) t :=
  ⟨_, exec_requestInstr o f s, .plain (s.takeRequest_plain o f)⟩

/-- A management frame that is not carried out leaves a plain step: not of its row, not accepted, or refused a check. -/
theorem exec_management_took (c : Command) (p : Port) (f : Frame) (s : State) :
    ∃ t, exec (managementInstr c p f) s = .next t ∧ s.Took (managementInstr c p f) t := by
  by_cases hc : c = .restart
  · subst hc
    refine ⟨_, rfl, .plain (s.whenRow_plain _ _ _ ?_)⟩
    split
    · split
      · exact s.reply_plain f _ _
      · exact s.doRestart_plain f
    · exact s.post_plain _
  · by_cases ht : s.takesCommand c p f
    · exact ⟨_, exec_managementInstr_taken ht hc, .command c p f rfl hc ht⟩
    · have hbody : ∀ body, s.Plain (s.takeCommand c p f body) := fun body => by
        refine .ite fun hr => ?_
        unfold State.manage
        split
        · rename_i ha
          split
          · exact s.reply_plain f _ _
          · rename_i hk
            exact absurd ⟨hr, ha, hk⟩ ht
        · exact s.post_plain _
      cases c <;> first | exact absurd rfl hc | exact ⟨_, rfl, .plain (hbody _)⟩

/-- Every command answers a next state, and does one of these things. -/
theorem exec_took (i : Instr) (s : State) : ∃ t, exec i s = .next t ∧ s.Took i t := by
  cases i with
  | frameCheckDiscard p bytes =>
    refine ⟨_, rfl, .plain ?_⟩
    split
    · exact .ite fun _ => s.countDiscarded_plain
    · exact s.whenRow_plain _ _ _ s.countDiscarded_plain
  | forwardFrame p f => exact ⟨_, rfl, .plain (s.whenRow_plain _ _ _ (s.forward_plain _ f))⟩
  | filterAddressedDiscard p f => exact ⟨_, rfl, .plain (s.whenRow_plain _ _ _ s.countDiscarded_plain)⟩
  | oxRead f => exact exec_request_took .read f s
  | oxSummary f => exact exec_request_took .summary f s
  | oxSetParam f => exact exec_request_took .setParam f s
  | oxMode f => exact exec_request_took .mode f s
  | oxForce f => exact exec_request_took .force f s
  | oxBegin f => exact exec_request_took .begins f s
  | oxSegment f => exact exec_request_took .segment f s
  | oxCommit f => exact exec_request_took .commit f s
  | oxAbandon f => exact exec_request_took .abandon f s
  | cyclicStatusFrame f =>
    refine ⟨_, rfl, .plain (s.whenRow_plain _ _ _ (State.Plain.trans ?_ (State.forward_plain _ _ f)))⟩
    split
    · rename_i n hn
      split
      · exact (s.monitorObserves_keeps n _ true).plain_of_open fun hc => by simp [hc.protectedBy] at hn
      · exact .refl s
    · exact .refl s
  | beginResponse f =>
    refine ⟨_, rfl, .plain (s.whenRow_plain _ _ _ (State.Plain.trans ?_ (State.forward_plain _ _ f)))⟩
    split
    · rename_i n hn
      split
      · exact (s.takeBeginResponse_keeps n _ _).plain_of_open fun hc => by simp [hc.protectedBy] at hn
      · exact .refl s
    · exact .refl s
  | commitResponse f =>
    refine ⟨_, rfl, .plain (s.whenRow_plain _ _ _ (State.Plain.trans ?_ (State.forward_plain _ _ f)))⟩
    split
    · rename_i n hn
      split
      · exact (s.takeCommitResponse_keeps _ _).plain_of_open fun hc => by simp [hc.protectedBy] at hn
      · exact .refl s
    · exact .refl s
  | summaryResponse f => exact ⟨_, rfl, .plain (s.whenRow_plain _ _ _ (s.takeSummaryResponse_plain f))⟩
  | abandonResponse f => exact ⟨_, rfl, .plain (.refl s)⟩
  | staleDeadline n =>
    refine ⟨_, rfl, .plain (.ite fun hd => (s.monitorObserves_keeps n _ false).plain_of_open fun hc => ?_)⟩
    simp [State.staleDue, State.reached?, hc.controller] at hd
  | settleDeadline n =>
    refine ⟨_, rfl, .plain (.ite fun hd => (s.settleExpiry_keeps n).plain_of_open fun hc => ?_)⟩
    simp [State.settleDue, hc.window] at hd
  | openingDeadline n =>
    exact ⟨_, rfl, .plain (.ite fun _ =>
      State.Keeps.plain (by constructor <;> simp) (by simp) (by simp) (by simp))⟩
  | windowDeadline n =>
    refine ⟨_, rfl, .plain (.ite fun _ => ?_)⟩
    split
    · rename_i w hw
      exact (s.closeOrPend_keeps n w _ _).plain_of_open fun hc => by simp [hc.window] at hw
    · exact .refl s
  | idleDeadline k =>
    refine ⟨_, rfl, .plain (.ite fun hd => State.Keeps.plain_of_open (by constructor <;> simp) fun hc => ?_)⟩
    simp [State.idleDue, State.reached?, Slot.idleDeadline?, hc.slot] at hd
  | beginResponseDeadline k =>
    refine ⟨_, rfl, .plain (.ite fun hd => State.Keeps.plain_of_open (by constructor <;> simp) fun hc => ?_)⟩
    simp [State.beginResponseDue, Slot.abortable, hc.slot] at hd
  | commitResponseDeadline k =>
    refine ⟨_, rfl, .plain (.ite fun hd => State.Keeps.plain_of_open (by constructor <;> simp) fun hc => ?_)⟩
    simp [State.commitResponseDue, State.reached?, Slot.responseDeadline?, hc.slot] at hd
  | laneFinish l => exact ⟨_, rfl, .plain (.ite fun _ => s.finishLane_plain l)⟩
  | nextDueExpiry n => exact ⟨_, rfl, .plain (.ite fun _ => s.scheduleCheck_plain)⟩
  | scanResponseDeadline =>
    exact ⟨_, rfl, .plain (.ite fun _ =>
      State.Keeps.plain (by constructor <;> simp) (by simp) (by simp) (by simp))⟩
  | identify p f => exact exec_management_took .identify p f s
  | readTime p f => exact exec_management_took .readTime p f s
  | readController p f => exact exec_management_took .readController p f s
  | readRecord p f => exact exec_management_took .readRecord p f s
  | loadRecord p f => exact exec_management_took .loadRecord p f s
  | clearShadow p f => exact exec_management_took .clearShadow p f s
  | selectBank p f => exact exec_management_took .selectBank p f s
  | openWindow p f => exact exec_management_took .openWindow p f s
  | closeWindow p f => exact exec_management_took .closeWindow p f s
  | quarantine p f => exact exec_management_took .quarantine p f s
  | release p f => exact exec_management_took .release p f s
  | approveCandidate p f => exact exec_management_took .approveCandidate p f s
  | discardCandidate p f => exact exec_management_took .discardCandidate p f s
  | armWatch p f => exact exec_management_took .armWatch p f s
  | disarmWatch p f => exact exec_management_took .disarmWatch p f s
  | probe p f => exact exec_management_took .probe p f s
  | readCounters p f => exact exec_management_took .readCounters p f s
  | setTiming p f => exact exec_management_took .setTiming p f s
  | setNoticeDestination p f => exact exec_management_took .setNoticeDestination p f s
  | restart p f => exact exec_management_took .restart p f s
  | warmRestart => exact ⟨_, rfl, .plain (.ite fun _ => s.takeDueRestart_plain)⟩
  | restartInputClosed =>
    have h : s.Plain { s with lineClosed := true } := State.Keeps.plain (by constructor <;> simp) rfl rfl rfl
    refine ⟨_, rfl, .plain ?_⟩
    split
    · exact .refl s
    · refine h.trans ?_
      dsimp only
      split
      · exact .refl _
      · split
        · exact State.Keeps.plain (by constructor <;> simp) rfl rfl rfl
        · exact State.warmRestart_plain _
  | storeWriteEnd success =>
    by_cases h : (s.powered && s.storeBusy) = true
    · exact ⟨_, congrArg Host.Outcome.next (if_pos h), .storeWriteEnd success rfl⟩
    · exact ⟨_, congrArg Host.Outcome.next (if_neg h), .plain (.refl s)⟩
  | powerOnReset => exact ⟨_, rfl, .powerOn rfl⟩
  | linkDown p =>
    refine ⟨_, rfl, .plain (.ite fun _ => ?_)⟩
    cases p with
    | plant => exact (s.dropPort_plain .plant).trans (State.offerPlaces_plain _ _)
    | line => exact (s.dropPort_plain .line).trans (State.lineLinkLoss_plain _)
  | linkUp p =>
    exact ⟨_, rfl, .plain (.ite fun _ => (s.setPort_plain p _).trans (State.offerPlaces_plain _ _))⟩
  | egressChoice p =>
    exact ⟨_, rfl, .plain (.ite fun _ => (s.setPort_plain p _).trans (State.offerPlaces_plain _ _))⟩
  | frameSent p =>
    exact ⟨_, rfl, .plain (.ite fun _ => (s.setPort_plain p _).trans (State.offerPlaces_plain _ _))⟩
  | noticeLeavesQueue => exact ⟨_, rfl, .plain (.ite fun _ => s.moveNotice_plain)⟩
  | restartInputOpened =>
    exact ⟨_, rfl, .plain (State.Keeps.plain (by constructor <;> simp) rfl rfl rfl)⟩
  | powerLoss => exact ⟨_, rfl, .powerLoss rfl⟩


/-! ## Management commands -/

/-- The code of a frame is the byte at offset 1 of its payload; a payload that ends before it reads 0 (R173, R174). -/
theorem Frame.code_eq (f : Frame) : f.code = fieldAt f.payload 1 1 := by
  unfold Frame.code fieldAt natOf
  rcases f.payload with _ | ⟨_, _ | ⟨_, _⟩⟩ <;> simp

/-- A frame under a management command's row is under it by its code. -/
theorem State.commandRow_of_rowOf {s : State} {p : Port} {f : Frame} {c : Command} (h : s.rowOf p f = .management c) :
    f.commandRow = c := by
  unfold State.rowOf rowOfAddressed State.rowAtPlant State.rowAtLine at h
  repeat' split at h
  all_goals simp_all

/-- A command refused in Closed fallback is carried out outside it alone (R159, R162). -/
theorem State.open_of_takesCommand {s : State} {c : Command} {p : Port} {f : Frame} (h : s.takesCommand c p f)
    (hc : refusedInFallback c = true) : s.fallback = false := by
  obtain ⟨hr, -, hk⟩ := h
  have hrow := State.commandRow_of_rowOf hr
  unfold State.requestCheck at hk
  dsimp only at hk
  repeat' split at hk
  all_goals cases hk
  rename_i c' hc' _ hf
  have hcode : f.code = (managementHeader f.payload).code := Frame.code_eq f
  rw [Frame.commandRow, hcode, hc'] at hrow
  obtain rfl : c' = c := hrow
  simpa [hc] using hf

/-- Where a store write begins outside Closed fallback, nothing changes but the image it takes. -/
theorem State.beginWriteOutside_shape (s : State) :
    ∃ w, s.beginWriteOutside = { s with writing := w } ∧ (w = s.writing ∨ w = some s.image) := by
  unfold State.beginWriteOutside
  split
  · exact ⟨s.writing, rfl, .inl rfl⟩
  · exact ⟨_, rfl, .inr rfl⟩

/-- What the body of a management command other than RESTART can do to the state. -/
inductive State.Changed (s : State) (c : Command) : State → Prop where
  | plain {t : State} : s.Plain t → State.Changed s c t
  | outside {t : State} : refusedInFallback c = true → s.Keeps t → State.Changed s c t
  | shadow (b : Bank) : (s.shadow.GrantsChecked → b.GrantsChecked) → State.Changed s c { s with shadow := b }
  | write {t : State} : s.Plain t → State.Changed s c t.beginWriteOutside
  | selection (src : Addr) : bankCheck s.shadow src = none → State.Changed s c s.makeSelection

theorem State.Changed.same (s : State) (c : Command) : s.Changed c s := .plain (.refl s)

/-- A record loaded into the shadow bank passed the static checks of its table (R152). -/
theorem loadInto_grantsChecked {own : Addr} {b b' : Bank} {t : Table} {i : Nat} {o : Option (List Byte)}
    (h : loadInto own b t i o = some b') (hb : b.GrantsChecked) : b'.GrantsChecked := by
  have hset : ∀ r : Option Grant, (∀ g ∈ r, grantOk g = true) →
      Bank.GrantsChecked { b with grants := b.grants.setIfInBounds i r } := by
    intro r hr g hg
    obtain ⟨j, hj⟩ := (mem_records_iff ..).1 hg
    simp only [Vector.getElem?_setIfInBounds] at hj
    split at hj
    · exact hr g (by simp_all)
    · exact hb g ((mem_records_iff ..).2 ⟨j, hj⟩)
  unfold loadInto at h
  split at h
  case h_3 => cases h; exact hset none (by simp)
  case h_7 bs =>
    obtain ⟨g, hg, rfl⟩ := Option.map_eq_some_iff.1 h
    refine hset (some g) fun g' hg' => ?_
    obtain rfl : g = g' := by simpa using hg'
    unfold grantOf at hg
    dsimp only at hg
    repeat' split at hg
    all_goals simp_all
  case h_5 => obtain ⟨_, -, rfl⟩ := Option.map_eq_some_iff.1 h; exact hb
  case h_6 => obtain ⟨_, -, rfl⟩ := Option.map_eq_some_iff.1 h; exact hb
  case h_8 => obtain ⟨_, -, rfl⟩ := Option.map_eq_some_iff.1 h; exact hb
  all_goals cases h; exact hb

theorem State.doLoadRecord_changed (s : State) (c : Command) (args : List Byte) :
    s.Changed c (s.doLoadRecord args).1 := by
  unfold State.doLoadRecord
  split
  · split
    · split
      · exact .shadow _ (loadInto_grantsChecked ‹_›)
      · exact .same s c
    · exact .same s c
  · exact .same s c

/-- A record written where one of the same key stands, or a position emptied. -/
theorem State.setImage_keeps (s : State) (i : Nat) (o : Option ImageRecord)
    (ho : ∀ r ∈ o, ∃ x, (s.active.images[i]?).bind id = some x ∧ x.key = r.key) : s.Keeps (s.setImage i o) := by
  have hbank : s.active.Relearned (s.setImage i o).active := s.active.relearned_set i o fun hk r hr j y hy hkey => by
    obtain ⟨x, hx, hxr⟩ := ho r hr
    obtain ⟨_, hx, rfl⟩ := Option.bind_eq_some_iff.1 hx
    exact (nodup_records_iff ..).1 hk j i y x hy hx (hkey.trans hxr.symm)
  exact ⟨rfl, rfl, rfl, rfl, rfl, rfl, rfl, rfl, rfl, rfl, rfl, hbank⟩

theorem State.doApproveCandidate_changed (s : State) (args : List Byte) :
    s.Changed .approveCandidate (s.doApproveCandidate args).1 := by
  unfold State.doApproveCandidate
  dsimp only
  split
  · split
    · rename_i r hr
      split
      · exact .same s _
      · refine .outside rfl (s.setImage_keeps _ _ fun x hx => ⟨r, hr, ?_⟩)
        obtain rfl : { r with status := .approved } = x := by simpa using hx
        rfl
    · exact .same s _
  · exact .same s _

theorem State.doDiscardCandidate_changed (s : State) (args : List Byte) :
    s.Changed .discardCandidate (s.doDiscardCandidate args).1 := by
  unfold State.doDiscardCandidate
  dsimp only
  split
  · exact .same s _
  · split
    · split
      · dsimp only
        split
        · exact .outside rfl (s.setImage_keeps _ none (by simp))
        · exact .shadow _ fun h => h
      · exact .same s _
    · exact .same s _

theorem State.doOpenWindow_changed (s : State) (args : List Byte) : s.Changed .openWindow (s.doOpenWindow args).1 := by
  unfold State.doOpenWindow
  split
  · split
    · exact .same s _
    · split
      · exact .same s _
      · split
        · exact .outside rfl (s.post_keeps _)
        · exact .outside rfl (by constructor <;> simp)
      · exact .same s _
  · exact .same s _

/-- A command that names a controller changes what it changes of a defined one. -/
theorem State.forController_changed {s : State} {c : Command} {args : List Byte}
    {body : Fin 32 → Controller → State × Reply} (h : ∀ n x, s.Changed c (body n x).1) :
    s.Changed c (s.forController args body).1 := by
  unfold State.forController
  split
  · exact .same s c
  · split
    · exact .same s c
    · exact h _ _

theorem State.doCloseWindow_changed (s : State) (args : List Byte) :
    s.Changed .closeWindow (s.doCloseWindow args).1 :=
  State.forController_changed fun n c => .outside rfl (s.closeOrPend_keeps n c.window .command id)

theorem State.doQuarantine_changed (s : State) (args : List Byte) : s.Changed .quarantine (s.doQuarantine args).1 := by
  refine State.forController_changed fun n c => ?_
  split
  · exact .same s _
  · exact .outside rfl (by constructor <;> simp)

theorem State.doRelease_changed (s : State) (args : List Byte) : s.Changed .release (s.doRelease args).1 := by
  refine State.forController_changed fun n c => ?_
  split
  · split
    · exact .same s _
    · exact .outside rfl (by constructor <;> simp)
  · exact .same s _

theorem State.setWatch_keeps (s : State) (w : Fin 8) (x : Option Watch) : s.Keeps (s.setWatch w x) := by
  constructor <;> simp

theorem State.doArmWatch_changed (s : State) (args : List Byte) : s.Changed .armWatch (s.doArmWatch args).1 := by
  unfold State.doArmWatch
  split
  · exact .outside rfl (s.setWatch_keeps _ _)
  · exact .same s _

theorem State.doDisarmWatch_changed (s : State) (args : List Byte) :
    s.Changed .disarmWatch (s.doDisarmWatch args).1 := by
  unfold State.doDisarmWatch
  split
  · exact .outside rfl (s.setWatch_keeps _ _)
  · exact .same s _

theorem State.doReadController_same (s : State) (args : List Byte) : (s.doReadController args).1 = s := by
  unfold State.doReadController State.forController
  repeat' split
  all_goals rfl

theorem State.doReadRecord_same (s : State) (args : List Byte) : (s.doReadRecord args).1 = s := by
  unfold State.doReadRecord
  repeat' split
  all_goals rfl

theorem State.doProbe_same (s : State) (args : List Byte) : (s.doProbe args).1 = s := by
  unfold State.doProbe
  repeat' split
  all_goals rfl

theorem State.doReadCounters_changed (s : State) (c : Command) (args : List Byte) :
    s.Changed c (s.doReadCounters args).1 := by
  have hcount : ∀ n x, s.Plain (s.setCount n x) := fun n x =>
    State.Keeps.plain (by constructor <;> simp) (by simp) (by simp) (by simp)
  have hdevice : s.Plain { s with device := .zero } := State.Keeps.plain (by constructor <;> simp) rfl rfl rfl
  unfold State.doReadCounters
  split
  · exact .same s c
  · split
    · exact .plain (.ite fun _ => hdevice)
    · split
      · exact .same s c
      · exact .plain (.ite fun _ => hcount _ _)

theorem State.doSetTiming_changed (s : State) (c : Command) (args : List Byte) :
    s.Changed c (s.doSetTiming args).1 := by
  unfold State.doSetTiming
  split
  · exact .same s c
  · split
    · exact .same s c
    · exact .write (State.Keeps.plain (by constructor <;> simp) rfl rfl rfl)

theorem State.setDestination_plain (s : State) (a : Addr) : s.Plain (s.setDestination a) := by
  unfold State.setDestination
  split <;> exact State.Keeps.plain (by constructor <;> simp) rfl rfl rfl

theorem State.doSetNoticeDestination_changed (s : State) (c : Command) (args : List Byte) :
    s.Changed c (s.doSetNoticeDestination args).1 := by
  unfold State.doSetNoticeDestination
  dsimp only
  split
  · exact .same s c
  · split
    · exact .same s c
    · exact .write (s.setDestination_plain _)

theorem State.doSelectBank_changed (s : State) (c : Command) (src : Addr) (args : List Byte) :
    s.Changed c (s.doSelectBank src args).1 := by
  unfold State.doSelectBank
  dsimp only
  split
  · exact .same s c
  · split
    · exact .same s c
    · split
      · exact .same s c
      · split
        · exact .same s c
        · split
          · exact .same s c
          · exact .selection src ‹_›

/-- The body of a management command does one of these things. -/
theorem State.commandBody_changed (s : State) (c : Command) (f : Frame) : s.Changed c (s.commandBody c f).1 := by
  cases c with
  | identify => exact .same s _
  | readTime => exact .same s _
  | readController => rw [State.commandBody, State.doReadController_same]; exact .same s _
  | readRecord => rw [State.commandBody, State.doReadRecord_same]; exact .same s _
  | loadRecord => exact s.doLoadRecord_changed _ _
  | clearShadow => exact .shadow Bank.empty fun _ g hg => by simp [records, Bank.empty] at hg
  | selectBank => exact s.doSelectBank_changed _ _ _
  | openWindow => exact s.doOpenWindow_changed _
  | closeWindow => exact s.doCloseWindow_changed _
  | quarantine => exact s.doQuarantine_changed _
  | release => exact s.doRelease_changed _
  | approveCandidate => exact s.doApproveCandidate_changed _
  | discardCandidate => exact s.doDiscardCandidate_changed _
  | armWatch => exact s.doArmWatch_changed _
  | disarmWatch => exact s.doDisarmWatch_changed _
  | probe => rw [State.commandBody, State.doProbe_same]; exact .same s _
  | readCounters => exact s.doReadCounters_changed _ _
  | setTiming => exact s.doSetTiming_changed _ _
  | setNoticeDestination => exact s.doSetNoticeDestination_changed _ _
  | restart => exact .same s _

/-! ## Selection, the store and power -/

theorem State.cancelForSelection_keeps (s : State) (b : Bank) :
    s.Keeps (s.cancelForSelection b) ∧ (s.cancelForSelection b).active = s.active := by
  unfold State.cancelForSelection
  split
  · exact ⟨.refl s, rfl⟩
  · dsimp only
    split <;> exact ⟨by constructor <;> simp, by simp⟩

/-- What a selection sets, of the banks and of what they define (R20, R42, R156). -/
structure State.Selected (s t : State) : Prop where
  active : t.active = s.shadow
  shadow : t.shadow = s.active
  stored : t.stored = s.stored
  writing : ∃ i, t.writing = some i ∧ i.bank = s.shadow
  fallback : t.fallback = false
  defined : definedIn t.controllers = s.shadow.definitions.map Option.isSome

theorem State.makeSelection_selected (s : State) : s.Selected s.makeSelection := by
  obtain ⟨hk, ha⟩ := s.cancelForSelection_keeps s.shadow
  refine ⟨?_, ?_, ?_, ⟨_, rfl, ?_⟩, rfl, ?_⟩
  · simp [State.makeSelection, hk.shadow]
  · simp [State.makeSelection, ha]
  · simp [State.makeSelection, hk.stored]
  · simp [State.image, hk.shadow]
  · refine Vector.ext fun n hn => ?_
    simp only [State.makeSelection, State.beginWrite_controllers, State.post_controllers, definedIn, hk.shadow,
      Vector.getElem_map, Vector.getElem_ofFn, Fin.getElem_fin]
    unfold State.selectController
    split <;> simp_all

/-- What a change keeps of the queue, the identity and the device time. -/
structure State.KeepsQueue (s t : State) : Prop where
  pending : t.pending = s.pending
  choices : t.choices = s.choices
  identity : t.identity = s.identity
  time : t.time = s.time
  powered : t.powered = s.powered

theorem State.Keeps.queue {s t : State} (h : s.Keeps t) : s.KeepsQueue t :=
  ⟨h.pending, h.choices, h.identity, h.time, h.powered⟩

theorem State.KeepsQueue.trans {s t u : State} (h : s.KeepsQueue t) (h' : t.KeepsQueue u) : s.KeepsQueue u :=
  ⟨h'.pending.trans h.pending, h'.choices.trans h.choices, h'.identity.trans h.identity, h'.time.trans h.time,
    h'.powered.trans h.powered⟩

theorem State.makeSelection_keepsQueue (s : State) : s.KeepsQueue s.makeSelection := by
  obtain ⟨hk, -⟩ := s.cancelForSelection_keeps s.shadow
  constructor <;> simp [State.makeSelection, hk.pending, hk.choices, hk.identity, hk.time, hk.powered]

theorem State.Changed.keepsQueue {s t : State} {c : Command} (h : s.Changed c t) : s.KeepsQueue t := by
  cases h with
  | plain h => exact h.keeps.queue
  | outside _ h => exact h.queue
  | shadow b _ => exact ⟨rfl, rfl, rfl, rfl, rfl⟩
  | @write t h =>
    obtain ⟨w, hw, -⟩ := t.beginWriteOutside_shape
    rw [hw]
    exact h.keeps.queue.trans ⟨rfl, rfl, rfl, rfl, rfl⟩
  | selection => exact s.makeSelection_keepsQueue

/-- How a store write ends: none was in flight, its image is stored, or its failure leaves none and is posted (R158). -/
theorem State.endWrite_cases (s : State) (success : Bool) :
    s.endWrite success = s
      ∨ (∃ i, s.writing = some i ∧ s.endWrite success = { s with stored := some i, writing := none })
      ∨ ∃ n, s.endWrite success = State.post { s with stored := none, writing := none } n := by
  unfold State.endWrite
  split
  · exact .inl rfl
  · split
    · exact .inr (.inl ⟨_, ‹_›, rfl⟩)
    · exact .inr (.inr ⟨_, rfl⟩)

theorem State.endWrite_keepsQueue (s : State) (success : Bool) : s.KeepsQueue (s.endWrite success) := by
  obtain h | ⟨i, -, h⟩ | ⟨n, h⟩ := s.endWrite_cases success <;> rw [h] <;> constructor <;> simp

/-- A power-on reset: Closed fallback without a stored image, or a start from the stored bank (R157, R159). -/
theorem State.powerOn_cases (s : State) :
    s.powerOn = { s.losePower with powered := true }
      ∨ ∃ i m, s.stored = some i ∧ s.powerOn = { s.losePower with
          powered := true, timing := i.timing, fallback := false, generation := i.generation, active := i.bank
          destination := i.destination, controllers := i.bank.definitions.map (Option.map fun _ => m) } := by
  unfold State.powerOn
  dsimp only
  split
  · exact .inl rfl
  · rename_i i hi
    refine .inr ⟨i, _, ?_, rfl⟩
    simp only [State.losePower] at hi
    split at hi
    · cases hi
    · exact hi

/-- Every command keeps the queue, the count of choices and the identity, and one that is not of power device time. -/
theorem State.Took.keepsQueue {s t : State} {i : Instr} (h : s.Took i t) :
    t.pending = s.pending ∧ t.choices = s.choices ∧ t.identity = s.identity
      ∧ (i ≠ .powerOnReset → i ≠ .powerLoss → t.time = s.time ∧ t.powered = s.powered) := by
  have hkeeps : ∀ u, s.KeepsQueue u → u.pending = s.pending ∧ u.choices = s.choices ∧ u.identity = s.identity
      ∧ (i ≠ .powerOnReset → i ≠ .powerLoss → u.time = s.time ∧ u.powered = s.powered) :=
    fun u hu => ⟨hu.pending, hu.choices, hu.identity, fun _ _ => ⟨hu.time, hu.powered⟩⟩
  cases h with
  | plain h => exact hkeeps _ h.keeps.queue
  | command c p f =>
    exact hkeeps _ ((s.commandBody_changed c f).keepsQueue.trans (State.reply_plain ..).keeps.queue)
  | storeWriteEnd b => exact hkeeps _ ((s.endWrite_keepsQueue b).trans (State.takeDueRestart_plain _).keeps.queue)
  | powerOn h =>
    obtain hp | ⟨_, _, -, hp⟩ := s.powerOn_cases <;> rw [hp] <;> exact ⟨rfl, rfl, rfl, fun hne => absurd h hne⟩
  | powerLoss h => exact ⟨rfl, rfl, rfl, fun _ hne => absurd h hne⟩

/-! ## Good banks (R6, R43, R44, R109, R155) -/

theorem State.Keeps.banksGood {s t : State} (h : s.Keeps t) (hs : s.BanksGood) : t.BanksGood := by
  obtain ⟨ha, hsh, hst, hw⟩ := hs
  exact ⟨h.bank.good ha, by rw [h.shadow]; exact hsh, by rw [h.stored]; exact hst, by rw [h.writing]; exact hw⟩

/-- A table in which every record fails beside an earlier one of its key passes with distinct keys alone. -/
theorem nodup_of_firstFailure {α β : Type} {n : Nat} {t : Vector (Option α) n} {bad : List α → α → Bool} (key : α → β)
    (hbad : ∀ below r, ∀ x ∈ below, key x = key r → bad below r = true)
    (h : firstFailure bad [] 0 t.toList = none) : ((records t).map key).Nodup := by
  obtain ⟨-, -, hnone⟩ := firstFailure_spec bad t.toList [] 0
  have hpass := hnone.1 h
  have hne : ∀ (i j : Nat) (a b : α), i < j → t[i]? = some (some a) → t[j]? = some (some b) → key a ≠ key b := by
    intro i j a b hij ha hb hk
    refine hpass j ⟨b, by simpa using hb, hbad _ b a ?_ hk⟩
    rw [List.append_nil, mem_below]
    exact ⟨i, hij, by simpa using ha⟩
  refine (nodup_records_iff ..).2 fun i j a b ha hb hk => ?_
  rcases Nat.lt_trichotomy i j with hlt | heq | hlt
  · exact absurd hk (hne i j a b hlt ha hb)
  · exact heq
  · exact absurd hk.symm (hne j i b a hlt hb ha)

/-- No record of a table that passes fails its condition. -/
theorem passes_of_firstFailure {α : Type} {n : Nat} {t : Vector (Option α) n} {bad : List α → α → Bool}
    (h : firstFailure bad [] 0 t.toList = none) {r : α} (hr : r ∈ records t) : ∃ below, bad below r = false := by
  obtain ⟨i, hi⟩ := (mem_records_iff ..).1 hr
  obtain ⟨-, -, hnone⟩ := firstFailure_spec bad t.toList [] 0
  exact ⟨_, Bool.eq_false_iff.2 fun hb => hnone.1 h i ⟨r, by simpa using hi, hb⟩⟩

/-- A bank that passes the bank check, and whose grants were checked when they were loaded, is good. -/
theorem Bank.good_of_bankCheck {b : Bank} {src : Addr} (h : bankCheck b src = none) (hc : b.GrantsChecked) :
    b.Good := by
  unfold bankCheck at h
  repeat' split at h
  all_goals cases h
  rename_i _ hd _ hs _ hg _ hi _
  refine ⟨⟨nodup_of_firstFailure _ ?_ hd, nodup_of_firstFailure _ ?_ hs, nodup_of_firstFailure _ ?_ hi⟩, hc, ?_⟩
  · intro below r x hx hk
    exact List.any_eq_true.2 ⟨x, hx, by simpa using hk⟩
  · intro below r x hx hk
    exact List.any_eq_true.2 ⟨x, hx, by simpa using hk⟩
  · intro below r x hx hk
    have hany : below.any (fun x => x.hasKey r.controller r.cls r.idx) = true :=
      List.any_eq_true.2 ⟨x, hx, (x.hasKey_iff ..).2 hk⟩
    simp [imageFails, hany]
  · intro g hmem n hn
    obtain ⟨below, hpass⟩ := passes_of_firstFailure hg hmem
    obtain hn : g.controller = some n := hn
    simpa [grantFails, hn] using hpass

theorem State.Changed.banksGood {s t : State} {c : Command} (h : s.Changed c t) (hs : s.BanksGood) :
    t.BanksGood := by
  cases h with
  | plain h => exact h.keeps.banksGood hs
  | outside _ h => exact h.banksGood hs
  | shadow b hb =>
    obtain ⟨ha, hsh, hst, hw⟩ := hs
    exact ⟨ha, hb hsh, hst, hw⟩
  | @write u h =>
    obtain ⟨ha, hsh, hst, hw⟩ := h.keeps.banksGood hs
    obtain ⟨w, hu, rfl | rfl⟩ := u.beginWriteOutside_shape <;> rw [hu]
    · exact ⟨ha, hsh, hst, hw⟩
    · exact ⟨ha, hsh, hst, fun i hi => by cases hi; exact ha⟩
  | selection src hb =>
    obtain ⟨⟨-, hchecked, -⟩, hsh, hst, -⟩ := hs
    obtain ⟨hactive, hshadow, hstored, ⟨i, hi, hbank⟩, -, -⟩ := s.makeSelection_selected
    have hgood := Bank.good_of_bankCheck hb hsh
    refine ⟨?_, ?_, ?_, ?_⟩
    · rw [hactive]; exact hgood
    · rw [hshadow]; exact hchecked
    · rw [hstored]; exact hst
    · rw [hi]; rintro _ ⟨⟩; rw [hbank]; exact hgood

theorem Bank.empty_good : Bank.empty.Good := by
  have hnone : ∀ (α : Type) (n : Nat), records (Vector.replicate n (none : Option α)) = [] := fun α n => by
    simp [records]
  refine ⟨⟨?_, ?_, ?_⟩, ?_, ?_⟩ <;> simp [Bank.GrantsChecked, Bank.GrantsDefined, Bank.empty, hnone]

theorem State.endWrite_banksGood {s : State} (hs : s.BanksGood) (success : Bool) : (s.endWrite success).BanksGood := by
  obtain ⟨ha, hsh, hst, hw⟩ := hs
  obtain h | ⟨i, hi, h⟩ | ⟨n, h⟩ := s.endWrite_cases success <;> rw [h]
  · exact ⟨ha, hsh, hst, hw⟩
  · exact ⟨ha, hsh, by rintro _ ⟨⟩; exact hw i hi, by simp⟩
  · exact (State.post_keeps ..).banksGood ⟨ha, hsh, by simp, by simp⟩

theorem State.losePower_banksGood {s : State} (hs : s.BanksGood) : s.losePower.BanksGood := by
  obtain ⟨-, -, hst, -⟩ := hs
  obtain ⟨hd, hc, hg⟩ := Bank.empty_good
  refine ⟨⟨hd, hc, hg⟩, hc, fun i hi => ?_, fun i hi => by cases hi⟩
  simp only [State.losePower] at hi
  split at hi
  · cases hi
  · exact hst i hi

theorem State.powerOn_banksGood {s : State} (hs : s.BanksGood) : s.powerOn.BanksGood := by
  obtain ⟨ha, hsh, hst, hw⟩ := State.losePower_banksGood hs
  obtain ⟨-, -, hstored, -⟩ := hs
  obtain h | ⟨i, _, hi, h⟩ := s.powerOn_cases <;> rw [h]
  · exact ⟨ha, hsh, hst, hw⟩
  · exact ⟨hstored i hi, hsh, hst, hw⟩

theorem State.Took.banksGood {s t : State} {i : Instr} (h : s.Took i t) (hs : s.BanksGood) : t.BanksGood := by
  cases h with
  | plain h => exact h.keeps.banksGood hs
  | command c p f => exact (State.reply_plain ..).keeps.banksGood ((s.commandBody_changed c f).banksGood hs)
  | storeWriteEnd b => exact (State.takeDueRestart_plain _).keeps.banksGood (State.endWrite_banksGood hs b)
  | powerOn => exact State.powerOn_banksGood hs
  | powerLoss => exact State.losePower_banksGood hs

/-! ## Dynamic state for the defined controllers (R20, R42, R62, R159) -/

/-- The condition on definitions and Closed fallback, in terms of what a plain step keeps. -/
theorem State.definedGood_iff (s : State) :
    s.DefinedGood ↔ definedIn s.controllers = s.active.definitions.map Option.isSome
      ∧ (s.fallback = true → s.Closed ∧ s.generation = 0) := by
  have htable : (∀ n : Fin 32, (s.controller n).isSome = (s.definition n).isSome) ↔
      definedIn s.controllers = s.active.definitions.map Option.isSome := by
    refine ⟨fun h => Vector.ext fun n hn => ?_, fun h n => ?_⟩
    · simpa [definedIn, State.controller, State.definition] using h ⟨n, hn⟩
    · have hn := definedIn_getElem s.controllers n
      rw [h] at hn
      simpa [State.controller, State.definition] using hn.symm
  rw [State.DefinedGood, htable]
  refine and_congr_right fun hd => imp_congr_right fun _ => ⟨?_, ?_⟩
  · rintro ⟨ha, hg, hs, hw⟩
    refine ⟨⟨ha, ?_, Vector.ext fun k hk => ?_, Vector.ext fun w hw' => ?_⟩, hg⟩
    · rw [hd, ha]; simp [Bank.empty]
    · simpa [State.slot] using hs ⟨k, hk⟩
    · simpa [State.watch] using hw ⟨w, hw'⟩
  · rintro ⟨hc, hg⟩
    exact ⟨hc.active, hg, hc.slot, fun w => by simp [State.watch, hc.watches]⟩

/-- What keeps the definitions and who has dynamic state keeps the condition, where it keeps Closed fallback or there is
none. -/
theorem State.Keeps.definedGood {s t : State} (h : s.Keeps t) (hc : s.fallback = true → s.Closed → t.Closed)
    (hs : s.DefinedGood) : t.DefinedGood := by
  obtain ⟨hd, hf⟩ := s.definedGood_iff.1 hs
  refine t.definedGood_iff.2 ⟨by rw [h.defined, h.bank.definitions, hd], fun ht => ?_⟩
  rw [h.fallback] at ht
  exact ⟨hc ht (hf ht).1, h.generation.trans (hf ht).2⟩

theorem State.Plain.definedGood {s t : State} (h : s.Plain t) (hs : s.DefinedGood) : t.DefinedGood :=
  h.keeps.definedGood (fun _ => h.closed) hs

theorem State.Changed.definedGood {s t : State} {c : Command} (h : s.Changed c t)
    (ho : refusedInFallback c = true → s.fallback = false) (hs : s.DefinedGood) : t.DefinedGood := by
  cases h with
  | plain h => exact h.definedGood hs
  | outside hc h => exact h.definedGood (fun hf => by simp [ho hc] at hf) hs
  | shadow b _ => exact hs
  | @write u h =>
    obtain ⟨w, hw, -⟩ := u.beginWriteOutside_shape
    rw [hw]
    exact h.definedGood hs
  | selection src _ =>
    have hsel := s.makeSelection_selected
    exact (State.definedGood_iff _).2 ⟨by rw [hsel.defined, hsel.active], fun hf => by simp [hsel.fallback] at hf⟩

theorem State.endWrite_definedGood {s : State} (hs : s.DefinedGood) (success : Bool) :
    (s.endWrite success).DefinedGood := by
  obtain h | ⟨i, -, h⟩ | ⟨n, h⟩ := s.endWrite_cases success <;> rw [h]
  · exact hs
  · exact hs
  · exact (State.post_plain ..).definedGood hs

theorem State.losePower_definedGood (s : State) : s.losePower.DefinedGood := by
  refine (State.definedGood_iff _).2 ⟨?_, fun _ => ⟨⟨rfl, ?_, rfl, rfl⟩, rfl⟩⟩ <;>
    simp [State.losePower, State.reset, definedIn, Bank.empty]

theorem State.powerOn_definedGood (s : State) : s.powerOn.DefinedGood := by
  obtain h | ⟨i, m, -, h⟩ := s.powerOn_cases <;> rw [h]
  · exact s.losePower_definedGood
  · refine (State.definedGood_iff _).2 ⟨?_, fun hf => by cases hf⟩
    simp [definedIn, Function.comp_def]

theorem State.Took.definedGood {s t : State} {i : Instr} (h : s.Took i t) (hs : s.DefinedGood) : t.DefinedGood := by
  cases h with
  | plain h => exact h.definedGood hs
  | command c p f _ _ ht =>
    exact (State.reply_plain ..).definedGood
      ((s.commandBody_changed c f).definedGood (State.open_of_takesCommand ht) hs)
  | storeWriteEnd b => exact (State.takeDueRestart_plain _).definedGood (State.endWrite_definedGood hs b)
  | powerOn => exact s.powerOn_definedGood
  | powerLoss => exact s.losePower_definedGood

/-! ## Steps -/

/-- A step takes the command at the front of the queue, or changes the queue, the choices and device time alone. -/
theorem step_took {s t : State} (h : step s = .next t) :
    (∃ i rest, s.pending = i :: rest ∧ State.Took { s with pending := rest } i t)
      ∨ ∃ q k d, t = { s with pending := q, choices := k, time := d } := by
  unfold step at h
  split at h
  · rename_i i rest hp
    obtain ⟨u, hu, htook⟩ := exec_took i { s with pending := rest }
    rw [hu] at h
    cases h
    exact .inl ⟨i, rest, hp, htook⟩
  · cases h
    refine .inr ?_
    unfold State.idle
    split
    · split
      · exact ⟨s.pending, s.choices, _, rfl⟩
      · exact ⟨s.pending, s.choices, s.time, rfl⟩
    · exact ⟨_, _, s.time, rfl⟩

end Sys2Proof.Machine

open Sys2Proof Sys2Proof.Machine

/-- Settles O3: every command does one of the things `State.Took` lists, and each of them keeps the queue. -/
theorem commandsKeepQueueIdentityAndTime : Obligations.CommandsKeepQueueIdentityAndTime := by
  intro i s
  obtain ⟨t, ht, htook⟩ := exec_took i s
  exact ⟨t, ht, htook.keepsQueue⟩

/-- Settles O9: a step that takes a command keeps either condition because each thing a command can do keeps it; a step
with no command waiting reaches nothing that they speak of. -/
theorem stepsKeepBanksGood : Obligations.StepsKeepBanksGood := by
  refine ⟨fun s t hs h => ?_, fun s t hs h => ?_⟩
  · obtain ⟨i, rest, -, htook⟩ | ⟨q, k, d, rfl⟩ := step_took h
    · exact htook.banksGood hs
    · exact hs
  · obtain ⟨i, rest, -, htook⟩ | ⟨q, k, d, rfl⟩ := step_took h
    · exact htook.definedGood hs
    · exact hs
end

section
/-! PROOFS. The rows under which frames are taken, and what the frame rows do (O14, O15, O17, O18, O39). -/

namespace Sys2Proof.Machine

/-! ## What a frame's bytes say -/

theorem Frame.code_eq_operation (f : Frame) : f.code = (oxHeader f.payload).operation := Frame.code_eq f

theorem OxHeader.isResponse_iff (h : OxHeader) : h.isResponse = true ↔ h.response ≠ 0 := by
  simp [OxHeader.isResponse]

/-- The two length conditions of R11, for a payload of at least the minimum length: over 46 bytes the lengths are equal,
at exactly 46 the words fit into the 18 bytes that follow the header. -/
theorem lengthsAgree_iff {bs : List Byte} {words : Nat} (h : 46 ≤ bs.length) :
    lengthsAgree bs words = true ↔
      (46 < bs.length → bs.length - 28 = 2 * words) ∧ (bs.length = 46 → 2 * words ≤ 18) := by
  have hmin : Config.minPayload = 46 := rfl
  have hheader : Config.oxHeaderBytes = 28 := rfl
  unfold lengthsAgree
  split
  · rw [beq_iff_eq]; omega
  · rw [decide_eq_true_eq]; omega

theorem wellFormedOx_iff {bs : List Byte} (h : 46 ≤ bs.length) :
    wellFormedOx bs = true ↔ (oxHeader bs).version = 1 ∧ Operation.ofCode (oxHeader bs).operation ≠ none
      ∧ (oxHeader bs).words ≤ 720 ∧ (46 < bs.length → bs.length - 28 = 2 * (oxHeader bs).words)
      ∧ (bs.length = 46 → 2 * (oxHeader bs).words ≤ 18) := by
  simp only [wellFormedOx, Bool.and_eq_true, lengthsAgree_iff h, beq_iff_eq, decide_eq_true_eq,
    Option.isSome_iff_ne_none, and_assoc]
  rfl

theorem wellFormedResponse_iff {bs : List Byte} (h : 46 ≤ bs.length) :
    wellFormedResponse bs = true ↔ (oxHeader bs).version = 1 ∧ Operation.ofCode (oxHeader bs).operation ≠ none
      ∧ ((46 < bs.length → bs.length - 28 = 2 * (oxHeader bs).words)
        ∧ (bs.length = 46 → 2 * (oxHeader bs).words ≤ 18))
      ∧ ((oxHeader bs).operation = 2 → (oxHeader bs).status ≠ 0 ∨ (oxHeader bs).words = 4) := by
  simp only [wellFormedResponse, Bool.and_eq_true, lengthsAgree_iff h, beq_iff_eq, Option.isSome_iff_ne_none, and_assoc,
    Bool.not_eq_true', Bool.and_eq_false_iff, beq_eq_false_iff_ne, bne_eq_false_iff_eq, Operation.code]
  refine and_congr_right fun _ => and_congr_right fun _ => and_congr_right fun _ => and_congr_right fun _ => ?_
  omega

/-! ## Rows -/

section rows
variable {s : State} {p : Port} {f : Frame}

theorem State.legalLength_of_passesCheck (h : s.passesCheck f = true) : f.legalLength = true := by
  simp only [State.passesCheck, Bool.and_eq_true] at h
  exact h.1.1

/-- A frame that fails a check of its port is discarded, whatever else it is (R1). -/
theorem State.rowOf_of_fails (ht : s.takes p = true) (hc : s.passesCheck f = false) : s.rowOf p f = .checkDiscard := by
  simp [State.rowOf, ht, hc]

theorem State.rowOf_of_addressed (ht : s.takes p = true) (hc : s.passesCheck f = true)
    (ha : f.dst = s.identity.station) : s.rowOf p f = rowOfAddressed p f := by
  simp [State.rowOf, ht, hc, State.addressed, ha]

theorem State.rowOf_plant (ht : s.takes .plant = true) (hc : s.passesCheck f = true)
    (ha : f.dst ≠ s.identity.station) : s.rowOf .plant f = s.rowAtPlant f := by
  simp [State.rowOf, ht, hc, State.addressed, ha]

theorem State.rowOf_line (ht : s.takes .line = true) (hc : s.passesCheck f = true)
    (ha : f.dst ≠ s.identity.station) : s.rowOf .line f = s.rowAtLine f := by
  simp [State.rowOf, ht, hc, State.addressed, ha]

end rows

/-! ## Protected addresses (R6) -/

theorem State.protectedBy_eq_none_iff (s : State) (a : Addr) :
    s.protectedBy a = none ↔ ∀ n d, s.definition n = some d → d.addr ≠ a := by
  simp only [State.protectedBy, List.find?_eq_none, List.mem_finRange, true_imp_iff, Option.any_eq_true, beq_iff_eq,
    not_exists, not_and]

theorem State.definition_of_protectedBy {s : State} {a : Addr} {n : Fin 32} (h : s.protectedBy a = some n) :
    ∃ d, s.definition n = some d ∧ d.addr = a := by
  have hn := List.find?_some h
  simpa [Option.any_eq_true] using hn

/-- In a bank without duplicates one definition at most has an address. -/
theorem State.definition_unique {s : State} (h : s.BanksGood) {m n : Fin 32} {d e : ControllerDef}
    (hm : s.definition m = some d) (hn : s.definition n = some e) (ha : d.addr = e.addr) : m = n := by
  obtain ⟨⟨⟨hd, -⟩, -⟩, -⟩ := h
  refine Fin.ext ((nodup_records_iff ..).1 hd m n d e ?_ ?_ ha)
  · simpa [State.definition] using hm
  · simpa [State.definition] using hn

/-! ## Sorting (R7, R8, R9, R10, R70) -/

theorem State.rowAtPlant_of_ne {s : State} {f : Frame} (h : f.etype ≠ Config.oxType) : s.rowAtPlant f = .forward := by
  simp [State.rowAtPlant, h]

theorem State.rowAtPlant_open {s : State} {f : Frame} (h : f.etype = Config.oxType) (hf : s.fallback = false) :
    s.rowAtPlant f = if (s.protectedBy f.dst).isSome then .request f.requestRow else .forward := by
  simp [State.rowAtPlant, h, hf]

theorem State.rowAtPlant_closed {s : State} {f : Frame} (h : f.etype = Config.oxType) (hf : s.fallback = true) :
    s.rowAtPlant f = if (oxHeader f.payload).response ≠ 0 then .forward else .request f.requestRow := by
  simp [State.rowAtPlant, h, hf, OxHeader.isResponse_iff]

theorem cyclicType_ne_oxType : Config.cyclicType ≠ Config.oxType := by decide

/-- The row of a frame from a protected controller (R9). -/
theorem State.rowAtLine_protected {s : State} {f : Frame} {n : Fin 32} (hn : s.protectedBy f.src = some n) :
    s.rowAtLine f =
      if f.etype = Config.cyclicType then .cyclicStatus
      else if f.etype = Config.oxType ∧ (oxHeader f.payload).isResponse ∧ (oxHeader f.payload).version = 1 then
        if f.code = 4 ∧ (s.beginSlot n f).isSome then .beginResponse
        else if f.code = 6 ∧ (s.commitSlot n f).isSome then .commitResponse
        else .forward
      else .forward := by
  rw [State.rowAtLine, hn]
  rfl

/-- The row of a frame addressed to the filter, at a port, when it is no management frame (R10, R15). -/
theorem rowOfAddressed_of_ne {p : Port} {f : Frame} (h : f.etype ≠ Config.managementType) :
    rowOfAddressed p f =
      if p = .line ∧ f.etype = Config.oxType ∧ (oxHeader f.payload).isResponse ∧ wellFormedResponse f.payload then
        if f.code = 2 then .summaryResponse else if f.code = 7 then .abandonResponse else .addressedDiscard
      else .addressedDiscard := by
  rw [rowOfAddressed, if_neg h]
  rfl

theorem oxType_ne_managementType : Config.oxType ≠ Config.managementType := by decide

end Sys2Proof.Machine

open Sys2Proof Sys2Proof.Machine

/-- Settles O14: the protected lookup by what `find?` finds, and each table by its row equation. -/
theorem framesAreSortedByTheirTables : Obligations.FramesAreSortedByTheirTables := by
  refine ⟨fun s a => ⟨s.protectedBy_eq_none_iff a, fun n hn => ?_⟩, fun s f hc ha => ⟨fun ht => ?_, fun ht => ?_⟩,
    fun s p f ht hc ha => ⟨fun he => ?_, fun hp he hr hv hl => ?_⟩⟩
  · obtain ⟨d, hd, hda⟩ := State.definition_of_protectedBy hn
    exact ⟨⟨d, hd, hda⟩, fun hs m e he hea => State.definition_unique hs he hd (hea.trans hda.symm)⟩
  · rw [State.rowOf_plant ht hc ha]
    refine ⟨State.rowAtPlant_of_ne, fun he hf => ?_, fun he hf => ?_⟩
    · rw [State.rowAtPlant_open he hf]
      exact ⟨fun hn => by simp [hn], fun n hn => by simp [hn]⟩
    · rw [State.rowAtPlant_closed he hf]
      exact ⟨fun hr => if_pos hr, fun hr => if_neg (not_not_intro hr)⟩
  · rw [State.rowOf_line ht hc ha]
    refine ⟨fun hn => by simp [State.rowAtLine, hn], fun n hn => ?_⟩
    rw [State.rowAtLine_protected hn]
    refine ⟨fun he => if_pos he, fun he ho => by simp [he, ho], fun he h => ?_, fun he hr hv => ?_⟩
    · rw [if_neg (he ▸ cyclicType_ne_oxType.symm), if_neg]
      rintro ⟨-, hr, hv⟩
      exact h.elim ((OxHeader.isResponse_iff _).1 hr) (· hv)
    · rw [if_neg (he ▸ cyclicType_ne_oxType.symm), if_pos ⟨he, (OxHeader.isResponse_iff _).2 hr, hv⟩]
      refine ⟨fun h4 ⟨k, hk⟩ => ?_, fun h6 ⟨k, hk⟩ => ?_, fun h4 hk => ?_, fun h6 hk => ?_, fun h4 h6 => ?_⟩ <;>
        simp_all
  · rw [State.rowOf_of_addressed ht hc ha]
    simp [rowOfAddressed, he]
  · subst hp
    have hlen := Frame.length_bounds (State.legalLength_of_passesCheck hc)
    have hagree : (46 < f.payload.length → f.payload.length - 28 = 2 * (oxHeader f.payload).words)
        ∧ (f.payload.length = 46 → 2 * (oxHeader f.payload).words ≤ 18) := by
      split at hl <;> constructor <;> omega
    have hresp := (OxHeader.isResponse_iff _).2 hr
    rw [State.rowOf_of_addressed ht hc ha, rowOfAddressed_of_ne (he ▸ oxType_ne_managementType)]
    refine ⟨fun h2 hs => ?_, fun h7 => ?_⟩
    · have hw := (wellFormedResponse_iff hlen.1).2
        ⟨hv, by simp [← Frame.code_eq_operation, h2, Operation.ofCode], hagree, fun _ => hs⟩
      rw [if_pos ⟨rfl, he, hresp, hw⟩, if_pos h2]
    · have hw := (wellFormedResponse_iff hlen.1).2
        ⟨hv, by simp [← Frame.code_eq_operation, h7, Operation.ofCode], hagree,
          by simp [← Frame.code_eq_operation, h7]⟩
      rw [if_pos ⟨rfl, he, hresp, hw⟩, if_neg (by omega), if_pos h7]

/-- Settles O15: a frame that fails a check has no other row, and one addressed to the filter without a use is under the
discard of its table. -/
theorem discardedFramesAreCounted : Obligations.DiscardedFramesAreCounted := by
  intro s p ht
  refine ⟨fun bytes hbytes => ?_, fun f hc ha hm hcause => ?_⟩
  · cases hf : frameOfBytes bytes with
    | none => simp [exec, execFrameCheckDiscard, hf, ht, State.countDiscarded]
    | some f =>
      have hfail : s.passesCheck f = false := by
        obtain h | h | h := hbytes f hf <;> simp [State.passesCheck, h]
      simp [exec, execFrameCheckDiscard, hf, State.whenRow, State.rowOf_of_fails ht hfail, State.countDiscarded]
  · have hlen := Frame.length_bounds (State.legalLength_of_passesCheck hc)
    have hrow : s.rowOf p f = .addressedDiscard := by
      rw [State.rowOf_of_addressed ht hc ha, rowOfAddressed_of_ne hm]
      by_cases hcode : f.code = 2 ∨ f.code = 7
      · refine if_neg fun ⟨hp, he, hr, hw⟩ => ?_
        rw [wellFormedResponse_iff hlen.1, ← Frame.code_eq_operation] at hw
        obtain ⟨hv, ho, ⟨hover, hmin⟩, hsum⟩ := hw
        obtain h | h | h | h | h | ⟨hl, h⟩ | ⟨hl, h⟩ | ⟨h2, h, h'⟩ | ⟨h2, h7⟩ := hcause
        · simp [hp] at h
        · exact h he
        · exact (OxHeader.isResponse_iff _).1 hr h
        · exact h hv
        · exact ho h
        · exact absurd (hmin hl) (by omega)
        · exact h (hover hl)
        · exact (hsum h2).elim (· h) h'
        · exact hcode.elim h2 h7
      · obtain ⟨h2, h7⟩ := not_or.1 hcode
        rw [if_neg h2, if_neg h7, ite_self]
    simp [exec, execFilterAddressedDiscard, State.whenRow, hrow, State.countDiscarded]

namespace Sys2Proof.Machine

theorem State.malformed_eq_false_iff (s : State) (f : Frame) :
    s.malformed f = false ↔
      wellFormedOx f.payload = true ∧ (s.fallback = false → (oxHeader f.payload).response = 0) := by
  cases hf : s.fallback <;> simp [State.malformed, hf, OxHeader.isResponse]

/-- A malformed request is dropped, whatever its row (R12). -/
theorem exec_requestInstr_malformed {s : State} {o : Operation} {f : Frame} (hr : s.rowOf .plant f = .request o)
    (hm : s.malformed f = true) : exec (requestInstr o f) s = .next (s.dropMalformed f) := by
  simp [exec_requestInstr, State.takeRequest, State.whenRow, hr, hm]

/-- A well-formed request in Closed fallback is passed or refused by its kind (R8, R62). -/
theorem exec_requestInstr_closed {s : State} {o : Operation} {f : Frame} (hr : s.rowOf .plant f = .request o)
    (hm : s.malformed f = false) (hf : s.fallback = true) :
    exec (requestInstr o f) s = .next (s.closedRequest o f) := by
  simp [exec_requestInstr, State.takeRequest, State.whenRow, hr, hm, hf]

/-- A request that hits no armed watch leaves the watches, and all else, as they are (R136). -/
theorem State.offer_of_miss {s : State} {n : Fin 32} {o : Operation} {f : Frame} (e : Ending)
    (h : ∀ w x, s.watch w = some x → x.hits n o (oxHeader f.payload) = false) : s.offer n o f e = s := by
  refine foldl_still _ s _ fun w _ => ?_
  unfold State.offerTo
  dsimp only
  split
  · rfl
  · rename_i x hx
    simp [h w x hx]

/-- A frame finds its place at a port whose link is up and whose forwarded queue has one (R144). -/
theorem State.forward_of_place {s : State} {p : Port} {f : Frame} (hup : (s.port p).up = true)
    (hlen : (s.port p).forwarded.length < 256) :
    s.forward p f = s.setPort p ((s.port p).placeForwarded f s.time) := by
  simp [State.forward, hup, Config.forwardedPlaces, hlen]

/-- A request whose every step holds is disposed of by its window state (R46). -/
theorem State.judge_of_steps {s : State} {src : Addr} {n : Fin 32} {o : Operation} {cls idx claimed : Nat}
    {e : StationEntry} {i : Nat} {g : Grant} (he : s.station src = some e)
    (hg : s.matchedGrant n o cls idx = some (i, g)) (hl : max e.level (min claimed 3) ≤ g.level)
    (ha : e.rights.allow o = true) : (s.judge src n o cls idx claimed).outcome = dispose o g.needed (s.windowOf n) := by
  have hlevel : ¬ g.level < effectiveLevel e.level claimed := Nat.not_lt.2 hl
  simp [State.judge, he, hg, hlevel, ha]

end Sys2Proof.Machine

/-- Settles O17: the form check is R11's, and the two ways a request leaves before admission are `takeRequest`'s. -/
theorem malformedAndClosedRequests : Obligations.MalformedAndClosedRequests := by
  intro s o f hr
  refine ⟨?_, fun hm => exec_requestInstr_malformed hr hm, fun hm hf => exec_requestInstr_closed hr hm hf⟩
  have hlen := Frame.length_bounds
    (State.legalLength_of_passesCheck (State.passesCheck_of_rowOf hr (by simp) (by simp)))
  have hwell := s.malformed_eq_false_iff f
  rw [wellFormedOx_iff hlen.1] at hwell
  refine ⟨fun hm => Classical.byContradiction fun h => ?_, fun h => Bool.of_not_eq_false fun hm => ?_⟩
  · simp only [not_or, not_and, ne_eq, Classical.not_not, Nat.not_lt] at h
    obtain ⟨hv, ho, hw, hover, hmin, hresp⟩ := h
    rw [hwell.2 ⟨⟨hv, ho, hw, hover, hmin⟩, hresp⟩] at hm
    cases hm
  · obtain ⟨⟨hv, ho, hw, hover, hmin⟩, hresp⟩ := hwell.1 hm
    obtain h | h | h | ⟨h, h'⟩ | ⟨h, h'⟩ | ⟨h, h'⟩ := h
    · exact h hv
    · exact ho h
    · exact Nat.not_lt.2 hw h
    · exact h' (hover h)
    · exact Nat.not_lt.2 (hmin h) h'
    · exact h' (hresp h)

/-- Settles O18: a READ or SUMMARY is passed and offered, a single write passes when the judgement does. -/
theorem readsAndSingleWritesPass : Obligations.ReadsAndSingleWritesPass := by
  refine ⟨fun s o f n ho ht => ?_, fun s o f n e i g ho ht he hg hl ha hd => ?_⟩
  · have hpass : exec (requestInstr o f) s = .next ((s.forward .line f).offer n o f .pass) := by
      rw [exec_requestInstr_taken ht]
      obtain rfl | rfl := ho <;> rfl
    refine ⟨hpass, fun hup hlen hmiss => ?_⟩
    rw [hpass, State.forward_of_place (p := .line) hup hlen, State.port_line,
      State.offer_of_miss (s := s.setPort .line (s.line.placeForwarded f s.time)) .pass hmiss]
    rfl
  · have houtcome : (s.judgeFrame n o f).outcome = .pass := (State.judge_of_steps he hg hl ha).trans hd
    rw [exec_requestInstr_taken ht]
    obtain rfl | rfl | rfl := ho <;>
      simp [State.requestEffect, State.admitSingle, houtcome, State.passAndOffer]

namespace Sys2Proof.Machine

/-- A defined controller's dynamic state is changed in place. -/
theorem State.updateController_of_defined {s : State} {n : Fin 32} {c : Controller} (h : s.controller n = some c)
    (g : Controller → Controller) : s.updateController n g = s.setController n (some (g c)) := by
  simp [State.updateController, h]

/-- An observation of a defined controller is recorded, and delivered to its window (R23, R24). -/
theorem State.monitorObserves_of_defined {s : State} {n : Fin 32} {c : Controller} (h : s.controller n = some c)
    (o : Observation) (byFrame : Bool) :
    s.monitorObserves n o byFrame =
      (s.setController n (some { c with monitor := { c.monitor with
        observed := o, lastFrame := if byFrame then some s.time else c.monitor.lastFrame
        stale := s.time + s.timing.stale * 1000 } })).observe n o := by
  rw [State.monitorObserves, State.updateController_of_defined h]
  rfl

/-- A payload that has the status byte reads QUIET or RUNNING by it; a shorter one does not count (R23). -/
theorem ControllerDef.reads_of_byte {d : ControllerDef} {bs : List Byte} {b : Byte} (h : bs[d.statusOffset]? = some b) :
    d.reads bs = some (if b ∈ d.quietSet then .quiet else .running) := by
  simp [ControllerDef.reads, h]

theorem ControllerDef.reads_of_short {d : ControllerDef} {bs : List Byte} (h : bs.length ≤ d.statusOffset) :
    d.reads bs = none := by
  simp [ControllerDef.reads, h]

end Sys2Proof.Machine

/-- Settles O39: both events make the Monitor's observation of a defined controller; a short frame makes none. -/
theorem cyclicFramesAndStaleDeadlinesObserve : Obligations.CyclicFramesAndStaleDeadlinesObserve := by
  intro s n c d hc hd
  refine ⟨fun f hr hn => ⟨fun hshort => ?_, fun b hb => ?_⟩, fun hp hdue => ?_⟩
  · simp [exec, execCyclicStatusFrame, State.whenRow, hr, hn, hd, ControllerDef.reads_of_short hshort]
  · simp [exec, execCyclicStatusFrame, State.whenRow, hr, hn, hd, ControllerDef.reads_of_byte hb,
      State.monitorObserves_of_defined hc]
  · have hstale : s.staleDue n = true := by simp [State.staleDue, State.reached?, State.reached, hp, hc, hdue]
    simp [exec, execStaleDeadline, hstale, State.monitorObserves_of_defined hc]

end

section
/-! PROOFS. The frames the filter builds, read back field by field (O60). -/

namespace Sys2Proof.Machine

/-! ## Frames the filter builds (R16, R172) -/

@[simp] theorem buildFrame_payload (dst src : Addr) (etype : BitVec 16) (payload : List Byte) :
    (buildFrame dst src etype payload).payload = padPayload payload := rfl

/-- A payload of at most 46 bytes is padded to 46, with zero bytes behind it. -/
theorem padPayload_short {bs : List Byte} {k : Nat} (h : bs.length + k = 46) :
    (padPayload bs).length = 46 ∧ (padPayload bs).drop bs.length = List.replicate k 0#8 := by
  obtain rfl : k = 46 - bs.length := by omega
  simp only [padPayload, Config.minPayload, List.length_append, List.length_replicate, List.drop_left, and_true]
  exact h

/-! ## The OX header (R173) -/

@[simp] theorem addrBytes_length (a : Addr) : (addrBytes a).length = 6 := bytesOf_length 6 _

@[simp] theorem oxHeaderBytes_length (h : OxHeader) : (oxHeaderBytes h).length = 28 := by
  simp [oxHeaderBytes]

/-- Every field of a header fits into its bytes. -/
structure OxHeader.Fits (h : OxHeader) : Prop where
  version : h.version < 256
  operation : h.operation < 256
  response : h.response < 256
  claimed : h.claimed < 256
  status : h.status < 256
  detail : h.detail < 256
  tag : h.tag < 65536
  tid : h.tid < 65536
  cls : h.cls < 256
  idx : h.idx < 65536
  number : h.number < 65536
  words : h.words < 65536
  declared : h.declared < 4294967296

/-- A header is read back from its bytes, whatever follows them: each field stands where the bytes before it end. -/
theorem oxHeader_oxHeaderBytes {h : OxHeader} (hf : h.Fits) (tail : List Byte) :
    oxHeader (oxHeaderBytes h ++ tail) = h := by
  obtain ⟨hv, ho, hr, hc, hs, hd, htag, htid, hcls, hidx, hn, hw, hdec⟩ := hf
  simp [oxHeader, oxHeaderBytes, addrAt, fieldAt_bytesOf_append, fieldAt_cons, fieldAt_bytesOf, fieldAt_addrBytes,
    Nat.mod_eq_of_lt, hv, ho, hr, hc, hs, hd, htag, htid, hcls, hidx, hn, hw, hdec]

/-- What is read as a header fits into a header. -/
theorem oxHeader_fits (bs : List Byte) : (oxHeader bs).Fits := by
  constructor <;> exact fieldAt_lt bs _ _

theorem Reason.code_lt (r : Reason) : r.code < 256 := by cases r <;> decide

/-- The frame is a built OX frame from a station to another, of the least length, that carries the header and zero
bytes behind it. -/
structure Frame.Carries (g : Frame) (h : OxHeader) (dst own : Addr) : Prop where
  header : oxHeader g.payload = h
  dst : g.dst = dst
  src : g.src = own
  etype : g.etype = 0x9A31#16
  length : g.payload.length = 46
  padding : g.payload.drop 28 = List.replicate 18 0#8

theorem oxFrame_carries {g : Frame} {h : OxHeader} {dst own : Addr} (hf : h.Fits)
    (hg : g = buildFrame dst own Config.oxType (oxHeaderBytes h)) : Frame.Carries g h dst own := by
  subst hg
  obtain ⟨hlen, hpad⟩ := padPayload_short (bs := oxHeaderBytes h) (k := 18) (by simp)
  rw [oxHeaderBytes_length] at hpad
  exact ⟨oxHeader_oxHeaderBytes hf _, rfl, rfl, rfl, hlen, hpad⟩

/-- A refusal response echoes the request, and names the address it was aimed at. -/
theorem refusalFrame_carries (own : Addr) (f : Frame) (r : Reason) :
    Frame.Carries (refusalFrame own f r)
      { version := 1, operation := (oxHeader f.payload).operation, response := 1
        claimed := (oxHeader f.payload).claimed, status := 4, detail := r.code, tag := (oxHeader f.payload).tag
        tid := (oxHeader f.payload).tid, cls := (oxHeader f.payload).cls, idx := (oxHeader f.payload).idx
        number := (oxHeader f.payload).number, words := 0, declared := (oxHeader f.payload).declared
        behalf := f.dst } f.src own := by
  obtain ⟨-, ho, -, hc, -, -, htag, htid, hcls, hidx, hn, -, hd⟩ := oxHeader_fits f.payload
  exact oxFrame_carries
    ⟨by simp, ho, by simp, hc, by simp, Reason.code_lt r, htag, htid, hcls, hidx, hn, by simp, hd⟩ rfl

/-- An ABANDON names its transfer. -/
theorem abandonFrame_carries (own target : Addr) {x : Transfer} (htid : x.tid < 65536) (hcls : x.cls < 256)
    (hidx : x.idx < 65536) :
    Frame.Carries (abandonFrame own target x)
      { version := 1, operation := 7, response := 0, claimed := 0, status := 0, detail := 0, tag := x.tid, tid := x.tid
        cls := x.cls, idx := x.idx, number := 0, words := 0, declared := 0, behalf := x.requester } target own :=
  oxFrame_carries ⟨by simp, by simp, by simp, by simp, by simp, by simp, htid, htid, hcls, hidx, by simp, by simp,
    by simp⟩ rfl

/-- A SUMMARY names its record. -/
theorem summaryFrame_carries (own target : Addr) {tag : Nat} {i : ImageRecord} (htag : tag < 65536)
    (hcls : i.cls < 256) (hidx : i.idx < 65536) :
    Frame.Carries (summaryFrame own target tag i)
      { version := 1, operation := 2, response := 0, claimed := 0, status := 0, detail := 0, tag := tag, tid := 0
        cls := i.cls, idx := i.idx, number := 0, words := 0, declared := 0, behalf := 0#48 } target own :=
  oxFrame_carries ⟨by simp, by simp, by simp, by simp, by simp, by simp, htag, by simp, hcls, hidx, by simp, by simp,
    by simp⟩ rfl

/-! ## Notices (R175) -/

theorem NoticeKind.code_lt (k : NoticeKind) : k.code < 256 := by cases k <;> decide

theorem NoticeReason.code_lt (r : NoticeReason) : r.code < 256 := by
  cases r with
  | reason r => exact Reason.code_lt r
  | window c => cases c <;> decide
  | quarantine c => cases c <;> decide
  | mode m => cases m <;> decide

theorem boolCode_eq (b : Bool) : boolCode b = b.toNat := by cases b <;> rfl

theorem Notice.presence_lt (x : Notice) : x.presence < 256 := by
  have hb : ∀ b, boolCode b ≤ 1 := fun b => by cases b <;> decide
  have := hb x.controller.isSome
  have := hb x.station.isSome
  have := hb x.object.isSome
  have := hb x.tid.isSome
  have := hb x.reason.isSome
  have := hb x.first.isSome
  have := hb x.second.isSome
  unfold Notice.presence
  omega

@[simp] theorem noticeBytes_length (x : Notice) (d : Nat) : (noticeBytes x d).length = 36 := by
  simp [noticeBytes]

/-- An absent field of a notice reads 0, and one that is there is below what bounds it. -/
theorem getD_map_lt {α : Type} {o : Option α} {g : α → Nat} {b : Nat} (hb : 0 < b) (h : ∀ a ∈ o, g a < b) :
    (o.map g).getD 0 < b := by
  cases o with
  | none => exact hb
  | some a => exact h a rfl

/-- Every field of a notice is read back from its bytes at its offset, whatever follows them. -/
theorem noticeBytes_reads (x : Notice) (d : Nat) (tail : List Byte) (hd : d ≤ 255)
    (ht : x.time < 18446744073709551616) (ho : ∀ o ∈ x.object, o.1 < 256 ∧ o.2 < 65536) (hi : ∀ t ∈ x.tid, t < 65536) :
    let bs := noticeBytes x d ++ tail
    (fieldAt bs 0 1 = 3 ∧ fieldAt bs 1 1 = x.kind.code ∧ fieldAt bs 2 1 = x.presence ∧ fieldAt bs 3 1 = d
      ∧ fieldAt bs 4 1 = (x.reason.map NoticeReason.code).getD 0 ∧ fieldAt bs 5 1 = 0)
    ∧ (fieldAt bs 6 8 = x.time ∧ fieldAt bs 14 1 = (x.controller.map Fin.val).getD 0 ∧ fieldAt bs 15 1 = 0
      ∧ addrAt bs 16 = x.station.getD 0#48)
    ∧ (fieldAt bs 22 1 = (x.object.map Prod.fst).getD 0 ∧ fieldAt bs 23 1 = 0
      ∧ fieldAt bs 24 2 = (x.object.map Prod.snd).getD 0 ∧ fieldAt bs 26 2 = x.tid.getD 0
      ∧ fieldAt bs 28 4 = (x.first.getD 0#32).toNat ∧ fieldAt bs 32 4 = (x.second.getD 0#32).toNat) := by
  have hreason : (x.reason.map NoticeReason.code).getD 0 < 256 :=
    getD_map_lt (by decide) fun r _ => NoticeReason.code_lt r
  have hcontroller : (x.controller.map Fin.val).getD 0 < 256 :=
    getD_map_lt (by decide) fun n _ => Nat.lt_trans n.isLt (by decide)
  have hcls : (x.object.map Prod.fst).getD 0 < 256 := getD_map_lt (by decide) fun o h => (ho o h).1
  have hidx : (x.object.map Prod.snd).getD 0 < 65536 := getD_map_lt (by decide) fun o h => (ho o h).2
  have htid : x.tid.getD 0 < 65536 := by simpa using getD_map_lt (g := id) (by decide) hi
  have hfirst : (x.first.getD 0#32).toNat < 4294967296 := (x.first.getD 0#32).isLt
  have hsecond : (x.second.getD 0#32).toNat < 4294967296 := (x.second.getD 0#32).isLt
  have hdropped : d < 256 := Nat.lt_succ_of_le hd
  refine ⟨⟨?_, ?_, ?_, ?_, ?_, ?_⟩, ⟨?_, ?_, ?_, ?_⟩, ?_, ?_, ?_, ?_, ?_, ?_⟩ <;>
    simp only [noticeBytes, List.append_assoc, List.cons_append, List.nil_append, addrAt, fieldAt_bytesOf_append,
      fieldAt_addrBytes_append, fieldAt_cons, fieldAt_bytesOf, fieldAt_addrBytes, fieldAt_byte, Nat.reduceLeDiff,
      Nat.reduceSub, Nat.reducePow, Nat.le_refl, Nat.sub_self, Nat.mod_eq_of_lt, NoticeKind.code_lt,
      Notice.presence_lt, hreason, hcontroller, hcls, hidx, htid, hfirst, hsecond, hdropped, ht, BitVec.ofNat_toNat,
      BitVec.setWidth_eq, BitVec.toNat_ofNat, Nat.reduceMod, Nat.zero_mod]

end Sys2Proof.Machine

open Sys2Proof Sys2Proof.Machine

/-- Settles O60: the header and the notice are read back from their bytes, and the frames are those bytes, padded. -/
theorem builtFramesCarryTheirFields : Obligations.BuiltFramesCarryTheirFields := by
  refine ⟨fun h tail hv ho hr hc hs hd htag htid hcls hidx hn hw hdec =>
      ⟨oxHeaderBytes_length h,
        oxHeader_oxHeaderBytes ⟨hv, ho, hr, hc, hs, hd, htag, htid, hcls, hidx, hn, hw, hdec⟩ tail⟩,
    fun own target f r x i tag hxtid hxcls hxidx hicls hiidx htag => ?_, fun own target x d bs hd ht ho hi hbs => ?_,
    by decide, by decide, by decide, by decide, by decide⟩
  · have hrefusal := refusalFrame_carries own f r
    have habandon := abandonFrame_carries own target hxtid hxcls hxidx
    have hsummary := summaryFrame_carries own target htag hicls hiidx
    refine ⟨⟨hrefusal.header, hrefusal.dst⟩, ⟨habandon.header, habandon.dst⟩, ⟨hsummary.header, hsummary.dst⟩,
      fun g hg => ?_⟩
    simp only [List.mem_cons, List.not_mem_nil, or_false] at hg
    obtain rfl | rfl | rfl := hg
    · exact ⟨hrefusal.src, hrefusal.etype, hrefusal.length, hrefusal.padding⟩
    · exact ⟨habandon.src, habandon.etype, habandon.length, habandon.padding⟩
    · exact ⟨hsummary.src, hsummary.etype, hsummary.length, hsummary.padding⟩
  · subst hbs
    obtain ⟨⟨h0, h1, h2, h3, h4, h5⟩, ⟨h6, h14, h15, h16⟩, h22, h23, h24, h26, h28, h32⟩ :=
      noticeBytes_reads x d (List.replicate 10 0#8) hd ht ho hi
    have hpad := padPayload_short (bs := noticeBytes x d) (k := 10) (by simp)
    have hbytes : (noticeFrame own target x d).payload = noticeBytes x d ++ List.replicate 10 0#8 := by
      simp [noticeFrame, padPayload, Config.minPayload]
    rw [noticeBytes_length] at hpad
    rw [← hbytes] at h0 h1 h2 h3 h4 h5 h6 h14 h15 h16 h22 h23 h24 h26 h28 h32
    rw [Notice.presence] at h2
    simp only [boolCode_eq] at h2
    exact ⟨h0, h1, h2, h3, h4, h5, h6, h14, h15, h16, h22, h23, h24, h26, h28, h32, hpad.1, hpad.2, rfl, rfl, rfl⟩

end

section
/-! PROOFS. The admission of requests (O12, O19 to O24, O26): the lookups of the active bank, the judgement and its
table of window states, the start of a transfer, and step 3. -/

namespace Sys2Proof.Machine

/-! ## Refusing (R59, R60, R62) -/

/-- A frame originated at the Plant port is placed while its queue holds fewer than 8, or else is counted (R148). -/
theorem State.originate_plant_eq (s : State) (o : OrigFrame) :
    s.originate .plant o = { s with
      plant := if s.plant.originate.length < 8 then s.plant.placeOriginated o s.time else s.plant
      device := { s.device with
        notSent := if s.plant.originate.length < 8 then s.device.notSent else saturate32By 1 s.device.notSent } } := by
  by_cases h : s.plant.originate.length < 8
  · simp [State.originate, portPlaces, Config.plantPlaces, h, State.setPort]
  · simp [State.originate, portPlaces, Config.plantPlaces, h, State.countNotSent]

/-- The operations whose requests carry a transfer id in a notice are the four of a download (R60). -/
theorem requestTid_eq (o : Operation) (h : OxHeader) :
    requestTid o h = if o = .begins ∨ o = .segment ∨ o = .commit ∨ o = .abandon then some h.tid else none := by
  cases o <;> rfl

/-! ## Lookups

A lookup over numbered places finds the lowest; one in a table of the active bank finds a record (R43, R45, R109). -/

theorem find_finRange_eq_some_iff {m : Nat} (p : Fin m → Bool) (k : Fin m) :
    (List.finRange m).find? p = some k ↔ p k = true ∧ ∀ j < k, p j = false := by
  simp only [List.find?_eq_some_iff_getElem, List.getElem_finRange, List.length_finRange, Bool.not_eq_true']
  refine and_congr_right fun _ => ⟨?_, fun h => ⟨k, k.isLt, rfl, fun j hj => h ⟨j, _⟩ hj⟩⟩
  rintro ⟨i, hi, rfl, hbelow⟩ j hj
  exact hbelow j hj

section lookup
variable {α : Type} {k : Nat} (t : Vector (Option α) k) (p : α → Bool)

theorem find_records_eq_none_iff :
    (records t).find? p = none ↔ ∀ (i : Nat) (a : α), t[i]? = some (some a) → p a = false := by
  simp only [List.find?_eq_none, mem_records_iff, Bool.not_eq_true]
  exact ⟨fun h i a hi => h a ⟨i, hi⟩, fun h a ⟨i, hi⟩ => h i a hi⟩

variable {t p}

theorem find_records_eq_some {a : α} (h : (records t).find? p = some a) :
    p a = true ∧ ∃ i : Nat, t[i]? = some (some a) :=
  ⟨List.find?_some h, (mem_records_iff ..).1 (List.mem_of_find?_eq_some h)⟩

/-- Where the keys of a table are distinct, a record that the condition tells by its key is the one found. -/
theorem find_records_of_key {β : Type} {key : α → β} {i : Nat} {a : α} (hd : ((records t).map key).Nodup)
    (hi : t[i]? = some (some a)) (ha : p a = true) (hp : ∀ b, p b = true → key b = key a) :
    (records t).find? p = some a := by
  cases hf : (records t).find? p with
  | none => simp [(find_records_eq_none_iff ..).1 hf i a hi] at ha
  | some b =>
    obtain ⟨hb, j, hj⟩ := find_records_eq_some hf
    obtain rfl := (nodup_records_iff ..).1 hd j i b a hj hi (hp b hb)
    simpa [hj] using hi

end lookup

theorem State.station_eq (s : State) (a : Addr) :
    s.station a = (records s.active.stations).find? (fun e => e.addr == a) := rfl

theorem State.approved_eq (s : State) (n : Fin 32) (cls idx : Nat) :
    s.approved n cls idx = (records s.active.images).find? (fun r => r.hasKey n cls idx && r.isApproved) := rfl

/-- What the lookup of an APPROVED record looks for (R109, R110). -/
theorem ImageRecord.found_iff (r : ImageRecord) (n : Fin 32) (cls idx : Nat) :
    (r.hasKey n cls idx && r.isApproved) = true ↔ r.key = (n, cls, idx) ∧ r.status = .approved := by
  simp only [Bool.and_eq_true, ImageRecord.hasKey_iff, ImageRecord.isApproved, beq_iff_eq]

/-! ## Grants (R45) -/

theorem Rights.allow_iff (r : Rights) (o : Operation) :
    r.allow o = true ↔ (o = .setParam ∧ r.param = true) ∨ (o = .begins ∧ r.write = true)
      ∨ (o = .mode ∧ r.mode = true) ∨ (o = .force ∧ r.force = true) := by
  cases o <;> simp [Rights.allow]

/-- The entry that the lookup finds first holds a grant: an empty position covers nothing. -/
theorem State.matchedGrant_eq_some_iff (s : State) (n : Fin 32) (o : Operation) (cls idx i : Nat) (g : Grant) :
    s.matchedGrant n o cls idx = some (i, g) ↔
      s.active.grants[i]? = some (some g) ∧ g.covers n o cls idx = true
        ∧ ∀ j, j < i → ∀ g' : Grant, s.active.grants[j]? = some (some g') → g'.covers n o cls idx = false := by
  have hfound : s.matchedGrant n o cls idx = some (i, g) ↔
      s.active.grants.toList.zipIdx.find? (fun x => x.1.any (fun g => g.covers n o cls idx)) = some (some g, i) := by
    unfold State.matchedGrant
    split
    · rename_i h
      simp [h, and_comm]
    · rename_i h
      exact ⟨by simp, fun hf => absurd hf (h g i)⟩
  rw [hfound, find_zipIdx_iff (p := fun x : Option Grant => x.any (fun g => g.covers n o cls idx))]
  simp only [Nat.zero_le, true_and, Nat.sub_zero, Vector.getElem?_toList, Option.any_some]
  refine and_congr_right fun _ => and_congr_right fun _ => forall₂_congr fun j _ => ?_
  exact ⟨fun h g' hg' => h (some g') hg', fun h b hb => by cases b <;> simp_all⟩

/-- Of the grants that cover a request one stands lowest, so none is matched only when none covers. -/
theorem State.matchedGrant_eq_none_iff (s : State) (n : Fin 32) (o : Operation) (cls idx : Nat) :
    s.matchedGrant n o cls idx = none ↔
      ∀ (j : Nat) (g : Grant), s.active.grants[j]? = some (some g) → g.covers n o cls idx = false := by
  constructor
  · intro h j
    induction j using Nat.strongRecOn with
    | ind j below =>
      refine fun g hj => Bool.eq_false_iff.2 fun hg => ?_
      simp [(s.matchedGrant_eq_some_iff n o cls idx j g).2 ⟨hj, hg, below⟩] at h
  · intro h
    refine Option.eq_none_iff_forall_ne_some.2 fun ⟨i, g⟩ hm => ?_
    obtain ⟨hi, hg, -⟩ := (s.matchedGrant_eq_some_iff ..).1 hm
    simp [h i g hi] at hg

theorem Grant.covers_iff (g : Grant) (n : Fin 32) (o : Operation) (cls idx : Nat) :
    g.covers n o cls idx = true ↔
      (g.controller = none ∨ g.controller = some n) ∧ (g.cls = none ∨ g.cls = some cls) ∧ g.low ≤ idx ∧ idx ≤ g.high
        ∧ g.operations.allow o = true := by
  simp only [Grant.covers, Bool.and_eq_true, Bool.or_eq_true, beq_iff_eq, decide_eq_true_eq, and_assoc]

/-! ## The judgement (R46, R47, R49 to R52) -/

/-- The operations that are judged by steps 2 and 4 to 7 (R46). -/
def judged (o : Operation) : Prop := o = .setParam ∨ o = .mode ∨ o = .force ∨ o = .begins

section judge
variable {s : State} {src : Addr} {n : Fin 32} {o : Operation} {cls idx claimed : Nat} {e : StationEntry} {i : Nat}
  {g : Grant}

theorem State.judge_unknownSource (he : s.station src = none) :
    s.judge src n o cls idx claimed = { outcome := .refuse .unknownSource } := by
  simp [State.judge, he]

theorem State.judge_noGrant (he : s.station src = some e) (hg : s.matchedGrant n o cls idx = none) :
    s.judge src n o cls idx claimed =
      { outcome := .refuse .noGrant, level := some (max e.level (min claimed 3)) } := by
  simp [State.judge, he, hg, effectiveLevel]

/-- Steps 5 to 7 under the matched grant. -/
theorem State.judge_of_grant (he : s.station src = some e) (hg : s.matchedGrant n o cls idx = some (i, g)) :
    s.judge src n o cls idx claimed =
      { outcome := if g.level < max e.level (min claimed 3) then .refuse .level
          else if e.rights.allow o then dispose o g.needed (s.windowOf n) else .refuse .noRight
        level := some (max e.level (min claimed 3)), grant := some (i, g)
        window := if g.level < max e.level (min claimed 3) then none
          else if e.rights.allow o then some (s.windowOf n) else none } := by
  by_cases hl : g.level < max e.level (min claimed 3)
  · simp [State.judge, he, hg, effectiveLevel, hl]
  · cases ha : e.rights.allow o <;> simp [State.judge, he, hg, effectiveLevel, hl, ha]

/-- A request that step 7 would refuse under any grant it can match is refused, at step 7 or before it. -/
theorem State.judge_refuses
    (h : ∀ i g, s.matchedGrant n o cls idx = some (i, g) → ∃ r, dispose o g.needed (s.windowOf n) = .refuse r) :
    ∃ r, (s.judge src n o cls idx claimed).outcome = .refuse r := by
  unfold State.judge
  split
  · exact ⟨_, rfl⟩
  · dsimp only
    split
    · exact ⟨_, rfl⟩
    · rename_i i g hg
      split
      · exact ⟨_, rfl⟩
      · split
        · exact ⟨_, rfl⟩
        · exact h i g hg

end judge

/-! ## The table of window states (R52) -/

theorem dispose_quarantined (o : Operation) (needed : Bool) (c : QuarantineCause) :
    dispose o needed (.quarantined c) = .refuse .quarantine := by cases o <;> rfl

/-- In LOCKED and OPENING step 7 refuses a request under a grant that needs a window, and any BEGIN or FORCE. -/
theorem dispose_shut {o : Operation} {needed : Bool} {w : Window} (hw : w = .locked ∨ ∃ m l d, w = .opening m l d)
    (ho : o = .setParam ∨ o = .mode → needed = true) : dispose o needed w = .refuse .locked := by
  obtain rfl | ⟨m, l, d, rfl⟩ := hw <;> cases o <;> simp [dispose, ho]

/-- Step 7 starts a transfer for a BEGIN only. -/
theorem begins_of_dispose_start {o : Operation} {needed : Bool} {w : Window} (h : dispose o needed w = .start) :
    o = .begins := by
  cases o with
  | begins => rfl
  | _ => cases w <;> cases needed <;> cases h

/-! ## Requests that are judged (R46, R58, R59) -/

theorem State.refuseAndOffer_line (s : State) (n : Fin 32) (o : Operation) (f : Frame) (r : Reason) :
    (s.refuseAndOffer n o f r).line = s.line := by
  simp [State.refuseAndOffer]

section requests
variable {s : State} {n : Fin 32} {f : Frame} {r : Reason}

/-- A judged request whose judgement is a refusal is refused with its reason, and offered with it. -/
theorem State.requestEffect_of_refused {o : Operation} (ho : judged o)
    (h : (s.judgeFrame n o f).outcome = .refuse r) : s.requestEffect o n f = s.refuseAndOffer n o f r := by
  obtain rfl | rfl | rfl | rfl := ho <;>
    simp [State.requestEffect, State.admitSingle, State.admitBegin, h]

/-- A BEGIN whose judgement is a start is refused by the first start check that fails (R55). -/
theorem State.requestEffect_of_startRefused (h : (s.judgeFrame n .begins f).outcome = .start)
    (hc : s.startChecks n f (s.judgeFrame n .begins f).check = .error r) :
    s.requestEffect .begins n f = s.refuseAndOffer n .begins f r := by
  simp [State.requestEffect, State.admitBegin, h, hc]

/-- A BEGIN whose judgement is a start, and whose start checks hold, starts a transfer (R56). -/
theorem State.requestEffect_of_started {k : Fin 8} {check : ImageCheck}
    (h : (s.judgeFrame n .begins f).outcome = .start)
    (hc : s.startChecks n f (s.judgeFrame n .begins f).check = .ok (k, check)) :
    s.requestEffect .begins n f = (s.startTransfer n k f check).offer n .begins f .start := by
  simp [State.requestEffect, State.admitBegin, h, hc]

end requests

/-! ## The start of a transfer (R55 to R57) -/

theorem State.freeSlot_eq_none_iff (s : State) : s.freeSlot = none ↔ ∀ k, s.slot k ≠ .free := by
  simp [State.freeSlot, List.find?_eq_none]

theorem State.freeSlot_eq_some_iff (s : State) (k : Fin 8) :
    s.freeSlot = some k ↔ s.slot k = .free ∧ ∀ j < k, s.slot j ≠ .free := by
  simp [State.freeSlot, find_finRange_eq_some_iff]

section startChecks
variable {s : State} {n : Fin 32} {f : Frame} {check : ImageCheck} {k : Fin 8}

theorem State.startChecks_slotsFull (hk : s.freeSlot = none) : s.startChecks n f check = .error .slotsFull := by
  simp [State.startChecks, hk]

theorem State.startChecks_empty (hk : s.freeSlot = some k) (hd : (oxHeader f.payload).declared = 0) :
    s.startChecks n f check = .error .length := by
  simp [State.startChecks, hk, hd]

theorem State.startChecks_tooLong (hk : s.freeSlot = some k) (hd : 262144 < (oxHeader f.payload).declared) :
    s.startChecks n f check = .error .tooLong := by
  have hzero : (oxHeader f.payload).declared ≠ 0 := by omega
  simp [State.startChecks, hk, hzero, Config.maxObject, hd]

/-- With no APPROVED record of the key the effective image check is the grant's, and REQUIRED finds no image. -/
theorem State.startChecks_unrecorded (hk : s.freeSlot = some k) (hone : 1 ≤ (oxHeader f.payload).declared)
    (hmax : (oxHeader f.payload).declared ≤ 262144)
    (ha : s.approved n (oxHeader f.payload).cls (oxHeader f.payload).idx = none) :
    s.startChecks n f check = if check = .required then .error .noImage else .ok (k, check) := by
  have hzero : (oxHeader f.payload).declared ≠ 0 := by omega
  have hlong : ¬ 262144 < (oxHeader f.payload).declared := by omega
  cases check <;> simp [State.startChecks, hk, hzero, Config.maxObject, hlong, ha, effectiveCheck]

/-- With an APPROVED record of the key every check but NONE is REQUIRED, and compares the lengths. -/
theorem State.startChecks_recorded {r : ImageRecord} (hk : s.freeSlot = some k)
    (hone : 1 ≤ (oxHeader f.payload).declared) (hmax : (oxHeader f.payload).declared ≤ 262144)
    (ha : s.approved n (oxHeader f.payload).cls (oxHeader f.payload).idx = some r) :
    s.startChecks n f check = if check = .none then .ok (k, .none)
      else if r.length = (oxHeader f.payload).declared then .ok (k, .required) else .error .length := by
  have hzero : (oxHeader f.payload).declared ≠ 0 := by omega
  have hlong : ¬ 262144 < (oxHeader f.payload).declared := by omega
  cases check <;> simp [State.startChecks, hk, hzero, Config.maxObject, hlong, ha, effectiveCheck]

/-- The start checks take the lowest-numbered FREE slot. -/
theorem State.freeSlot_of_startChecks {effective : ImageCheck} (h : s.startChecks n f check = .ok (k, effective)) :
    s.freeSlot = some k := by
  cases hk : s.freeSlot with
  | none => simp [State.startChecks_slotsFull hk] at h
  | some j =>
    unfold State.startChecks at h
    simp only [hk] at h
    repeat' split at h
    all_goals simp_all

end startChecks

@[simp] theorem State.window_setSlot (s : State) (k : Fin 8) (x : Slot) (n : Fin 32) :
    (s.setSlot k x).window? n = s.window? n := rfl

theorem State.transferStarted_of_opened {s : State} {n : Fin 32} {m : WindowMode} {d : Nat} (k : Fin 8)
    (ho : s.window? n = some (.opened m d)) : s.transferStarted n k = s.setWindow n (.transfer m d k) := by
  simp [State.transferStarted, ho]

/-- The judgement of a BEGIN that passes steps 2 and 4 to 6, with the window OPEN, is a start under its grant (R52). -/
theorem State.judgeFrame_start {s : State} {f : Frame} {n : Fin 32} {e : StationEntry} {i : Nat} {g : Grant}
    {m : WindowMode} {d : Nat} (he : s.station f.src = some e)
    (hg : s.matchedGrant n .begins (oxHeader f.payload).cls (oxHeader f.payload).idx = some (i, g))
    (hl : max e.level (min (oxHeader f.payload).claimed 3) ≤ g.level) (hw : e.rights.write = true)
    (ho : s.window? n = some (.opened m d)) :
    (s.judgeFrame n .begins f).outcome = .start ∧ (s.judgeFrame n .begins f).check = g.check := by
  have hwindow : s.windowOf n = .opened m d := by simp [State.windowOf, ho]
  have hallow : e.rights.allow .begins = true := hw
  simp [State.judgeFrame, State.judge_of_grant he hg, Nat.not_lt.2 hl, hallow, hwindow, dispose, Judgement.check]

/-! ## Step 3 (R47, R48) -/

/-- The operations of a download that are handed to a slot (R48). -/
def handed (o : Operation) : Prop := o = .segment ∨ o = .commit ∨ o = .abandon

section stepThree
variable {s : State} {n : Fin 32} {f : Frame}

theorem State.requestEffect_of_stepThree_error {o : Operation} {r : Reason} (ho : handed o)
    (h : s.stepThree n f = .error r) : s.requestEffect o n f = s.refuseAndOffer n o f r := by
  obtain rfl | rfl | rfl := ho <;> simp [State.requestEffect, State.handToTracker, h]

theorem Slot.matchesRequest_iff (x : Slot) (n : Fin 32) (f : Frame) :
    x.matchesRequest n f = true ↔
      ∃ t, x.live = some t ∧ t.controller = n ∧ t.requester = f.src ∧ t.tid = (oxHeader f.payload).tid := by
  simp only [Slot.matchesRequest, Option.any_eq_true, Bool.and_eq_true, beq_iff_eq, and_assoc]

theorem State.requestSlot_eq_none_iff :
    s.requestSlot n f = none ↔ ∀ k x, (s.slot k).live = some x →
      x.controller ≠ n ∨ x.requester ≠ f.src ∨ x.tid ≠ (oxHeader f.payload).tid := by
  simp only [State.requestSlot, List.find?_eq_none, List.mem_finRange, true_imp_iff, Slot.matchesRequest_iff,
    not_exists, ne_eq, ← Classical.not_and_iff_not_or_not]
  exact forall₂_congr fun _ _ => not_and

/-- The slot a download request is matched to is a live slot of its controller, requester and transfer id. -/
theorem State.live_of_requestSlot {k : Fin 8} (h : s.requestSlot n f = some k) :
    ∃ x, (s.slot k).live = some x ∧ x.controller = n ∧ x.requester = f.src ∧ x.tid = (oxHeader f.payload).tid :=
  (Slot.matchesRequest_iff ..).1 (List.find?_some (p := fun k => (s.slot k).matchesRequest n f) h)

/-- A request that a live slot matches is matched to a slot. -/
theorem State.exists_requestSlot {k : Fin 8} {x : Transfer} (hx : (s.slot k).live = some x) (hc : x.controller = n)
    (hr : x.requester = f.src) (ht : x.tid = (oxHeader f.payload).tid) : ∃ j, s.requestSlot n f = some j := by
  refine Option.ne_none_iff_exists'.1 fun hnone => ?_
  obtain h | h | h := State.requestSlot_eq_none_iff.1 hnone k x hx
  · exact h hc
  · exact h hr
  · exact h ht

/-- Where no two live slots name one controller, a matching slot is the one found. -/
theorem State.requestSlot_of_live {k : Fin 8} {x : Transfer} (hs : s.OwnersGood) (hx : (s.slot k).live = some x)
    (hc : x.controller = n) (hr : x.requester = f.src) (ht : x.tid = (oxHeader f.payload).tid) :
    s.requestSlot n f = some k := by
  obtain ⟨j, hj⟩ := State.exists_requestSlot hx hc hr ht
  obtain ⟨y, hy, hyc, -⟩ := State.live_of_requestSlot hj
  obtain ⟨-, -, hunique⟩ := hs
  rw [hj, hunique j k y hy x hx (hyc.trans hc.symm)]

/-- A controller in LOCKED or OPENING has no live slot. -/
theorem State.controller_ne_of_shut {w : Window} {k : Fin 8} {x : Transfer} (hs : s.OwnersGood)
    (hw : s.window? n = some w) (hshut : w = .locked ∨ ∃ m l d, w = .opening m l d) (hx : (s.slot k).live = some x) :
    x.controller ≠ n := by
  rintro rfl
  obtain ⟨-, hagree, -⟩ := hs
  have h := hagree k
  unfold State.slotAgrees at h
  obtain rfl | ⟨m, l, d, rfl⟩ := hshut <;> cases hk : s.slot k <;> simp_all [Slot.live]

theorem State.stepThree_unknownSource (he : s.station f.src = none) : s.stepThree n f = .error .unknownSource := by
  simp [State.stepThree, he]

theorem State.stepThree_noTransfer (he : s.station f.src ≠ none) (hk : s.requestSlot n f = none) :
    s.stepThree n f = .error .noTransfer := by
  obtain ⟨e, he⟩ := Option.ne_none_iff_exists'.1 he
  simp [State.stepThree, he, hk]

theorem State.stepThree_of_slot {k : Fin 8} (he : s.station f.src ≠ none) (hk : s.requestSlot n f = some k) :
    s.stepThree n f = if (s.windowOf n).isQuarantined then .error .quarantine else .ok k := by
  obtain ⟨e, he⟩ := Option.ne_none_iff_exists'.1 he
  simp [State.stepThree, he, hk]

/-- The window state that admission reads is QUARANTINE when the controller's is. -/
theorem State.windowOf_isQuarantined_iff (s : State) (n : Fin 32) :
    (s.windowOf n).isQuarantined = true ↔ ∃ c, s.window? n = some (.quarantined c) := by
  unfold State.windowOf
  cases s.window? n with
  | none => simp [Window.isQuarantined]
  | some w => cases w <;> simp [Window.isQuarantined]

/-- No download request is handed to a slot for a controller that has no live slot or is in QUARANTINE. -/
theorem State.stepThree_refuses (h : s.requestSlot n f = none ∨ ∃ c, s.window? n = some (.quarantined c)) :
    ∃ r, s.stepThree n f = .error r := by
  by_cases he : s.station f.src = none
  · exact ⟨_, State.stepThree_unknownSource he⟩
  · cases hk : s.requestSlot n f with
    | none => exact ⟨_, State.stepThree_noTransfer he hk⟩
    | some k =>
      have hq := (s.windowOf_isQuarantined_iff n).2 (h.resolve_left (by simp [hk]))
      exact ⟨_, (State.stepThree_of_slot he hk).trans (if_pos hq)⟩

end stepThree

/-- A write-kind request that step 7 refuses under any grant, and step 3 too, is refused. -/
theorem State.requestEffect_refused {s : State} {o : Operation} {n : Fin 32} {f : Frame} (ho : isWriteKind o = true)
    (hjudged : ∀ i g, s.matchedGrant n o (oxHeader f.payload).cls (oxHeader f.payload).idx = some (i, g) →
      ∃ r, dispose o g.needed (s.windowOf n) = .refuse r)
    (hhanded : ∃ r, s.stepThree n f = .error r) : ∃ r, s.requestEffect o n f = s.refuseAndOffer n o f r := by
  have hkind : judged o ∨ handed o := by cases o <;> simp_all [judged, handed, isWriteKind]
  obtain hj | hh := hkind
  · obtain ⟨r, hr⟩ := State.judge_refuses (src := f.src) (claimed := (oxHeader f.payload).claimed) hjudged
    exact ⟨r, State.requestEffect_of_refused hj hr⟩
  · obtain ⟨r, hr⟩ := hhanded
    exact ⟨r, State.requestEffect_of_stepThree_error hh hr⟩

end Sys2Proof.Machine

open Sys2Proof Sys2Proof.Machine

/-- Settles O20: the originated response is placed or counted, and the counter and the notice follow. -/
theorem refusalHasItsEffects : Obligations.RefusalHasItsEffects := by
  intro s n o f r
  cases n <;> simp only [State.refuse, State.originate_plant_eq, requestTid_eq] <;> rfl

/-- Settles O21: one line of the table for each window state. -/
theorem dispositionFollowsItsTable : Obligations.DispositionFollowsItsTable := by
  refine fun o needed w => ⟨dispose_quarantined o needed, fun hw => ?_⟩
  cases w with
  | quarantined c => exact absurd rfl (hw c)
  | _ => simp [dispose, Window.isLocked, Window.isOpening, Window.slot?]

/-- Settles O22: the matched grant is the first covering one of the table. -/
theorem lowestCoveringGrantMatches : Obligations.LowestCoveringGrantMatches := by
  refine fun s n o cls idx =>
    ⟨fun g => ?_, s.matchedGrant_eq_some_iff n o cls idx, s.matchedGrant_eq_none_iff n o cls idx⟩
  rw [Grant.covers_iff, Rights.allow_iff]

/-- Settles O19: the lookup finds the one entry of an address, and each failing step makes the judgement a refusal. -/
theorem firstFailedStepRefuses : Obligations.FirstFailedStepRefuses := by
  refine ⟨fun s a => ⟨?_, fun e he => ?_, fun hs i e hi ha => ?_⟩, fun s o f n ho ht => ?_⟩
  · simp only [State.station_eq, find_records_eq_none_iff, beq_eq_false_iff_ne, ne_eq]
  · obtain ⟨ha, hi⟩ := find_records_eq_some he
    exact ⟨by simpa using ha, hi⟩
  · obtain ⟨⟨⟨-, hstations, -⟩, -⟩, -⟩ := hs
    exact find_records_of_key hstations hi (by simpa using ha) fun b hb => by simp_all
  · have hjudged : judged o := by obtain h | h | h | h := ho <;> simp [judged, h]
    have hrefused : ∀ r, (s.judgeFrame n o f).outcome = .refuse r →
        exec (requestInstr o f) s = .next ((s.refuse (some n) o f r).offer n o f (.refused r)) := fun r hr => by
      rw [exec_requestInstr_taken ht, State.requestEffect_of_refused hjudged hr]
      rfl
    refine ⟨fun he => hrefused _ ?_, fun e he => ⟨fun hg => hrefused _ ?_, fun i g hg => ⟨fun hl => hrefused _ ?_,
      fun hl => ⟨fun ha => hrefused _ ?_, fun r ha hd => hrefused r ?_⟩⟩⟩⟩
    · rw [State.judgeFrame, State.judge_unknownSource he]
    · rw [State.judgeFrame, State.judge_noGrant he hg]
    · simp [State.judgeFrame, State.judge_of_grant he hg, hl]
    · simp [State.judgeFrame, State.judge_of_grant he hg, Nat.not_lt.2 hl, ha]
    · exact (State.judge_of_steps he hg hl ha).trans hd

/-- Settles O23: the judgement is a start, and the slot that the start checks took is filled. -/
theorem beginStartsTransfer : Obligations.BeginStartsTransfer := by
  intro s f n e i g m d k check ht he hg hl hw ho hc
  obtain ⟨hfree, hlowest⟩ := (s.freeSlot_eq_some_iff k).1 (State.freeSlot_of_startChecks hc)
  obtain ⟨hstart, hcheck⟩ := State.judgeFrame_start he hg hl hw ho
  have heffect := State.requestEffect_of_started hstart (hcheck ▸ hc)
  refine ⟨hfree, hlowest, (exec_requestInstr_taken ht).trans (congrArg Host.Outcome.next ?_)⟩
  rw [heffect, State.startTransfer, State.transferStarted_of_opened (m := m) (d := d) k (by simpa using ho)]
  rfl

/-- Settles O24: the lookups find what the checks read, and each check that fails is the refusal's reason. -/
theorem beginStartChecks : Obligations.BeginStartChecks := by
  refine ⟨fun s n cls idx => ⟨?_, fun r hr => ?_, fun hs i r hi hk ha => ?_⟩,
    fun s => ⟨s.freeSlot_eq_none_iff, s.freeSlot_eq_some_iff⟩, fun s f n check => ⟨State.startChecks_slotsFull,
      fun k hk => ⟨State.startChecks_empty hk, State.startChecks_tooLong hk, fun hone hmax =>
        ⟨State.startChecks_unrecorded hk hone hmax, fun r => State.startChecks_recorded hk hone hmax⟩⟩,
      fun e i g r ht he hg hl hw ho hc => ?_⟩⟩
  · simp only [State.approved_eq, find_records_eq_none_iff, Bool.eq_false_iff, ne_eq, ImageRecord.found_iff, not_and]
  · obtain ⟨hfound, hi⟩ := find_records_eq_some hr
    obtain ⟨hk, ha⟩ := (r.found_iff ..).1 hfound
    exact ⟨hk, ha, hi⟩
  · obtain ⟨⟨⟨-, -, himages⟩, -⟩, -⟩ := hs
    exact find_records_of_key himages hi ((r.found_iff ..).2 ⟨hk, ha⟩) fun b hb =>
      ((b.found_iff ..).1 hb).1.trans hk.symm
  · obtain ⟨m, d, ho⟩ := ho
    obtain ⟨hstart, hcheck⟩ := State.judgeFrame_start he hg hl hw ho
    have heffect := State.requestEffect_of_startRefused hstart (hcheck ▸ hc)
    exact (exec_requestInstr_taken ht).trans (congrArg Host.Outcome.next heffect)

/-- Settles O26: step 3 finds a live slot of the request or none. -/
theorem downloadRequestsNeedALiveTransfer : Obligations.DownloadRequestsNeedALiveTransfer := by
  intro s o f n ho ht
  have hrefused : ∀ r, s.stepThree n f = .error r →
      exec (requestInstr o f) s = .next ((s.refuse (some n) o f r).offer n o f (.refused r)) := fun r hr => by
    rw [exec_requestInstr_taken ht, State.requestEffect_of_stepThree_error ho hr]
    rfl
  refine ⟨fun he => hrefused _ (State.stepThree_unknownSource he),
    fun he hnone => hrefused _ (State.stepThree_noTransfer he (State.requestSlot_eq_none_iff.2 hnone)),
    fun k x c he hx hc hr htid hq => hrefused _ ?_, fun k x hs he hx hc hr htid hq => ?_⟩
  · obtain ⟨j, hj⟩ := State.exists_requestSlot hx hc hr htid
    exact (State.stepThree_of_slot he hj).trans (if_pos ((s.windowOf_isQuarantined_iff n).2 ⟨c, hq⟩))
  · have hopen : ¬ (s.windowOf n).isQuarantined = true := fun h => by
      obtain ⟨c, hc⟩ := (s.windowOf_isQuarantined_iff n).1 h
      exact hq c hc
    exact (State.stepThree_of_slot he (State.requestSlot_of_live hs hx hc hr htid)).trans (if_neg hopen)

/-- Settles O12: a refusal sends nothing to the Line port, and in these window states each write-kind request is
refused, by step 7 under whatever grant it matches, or by step 3. -/
theorem noWritePassesAClosedWindow : Obligations.NoWritePassesAClosedWindow := by
  intro s t o f n hs ho ht hexec
  obtain rfl : s.requestEffect o n f = t := by
    rw [exec_requestInstr_taken ht] at hexec
    exact Host.Outcome.next.inj hexec
  have hline : (∃ r, s.requestEffect o n f = s.refuseAndOffer n o f r) → (s.requestEffect o n f).line = s.line := by
    rintro ⟨r, hr⟩
    rw [hr, State.refuseAndOffer_line]
  refine ⟨fun ⟨c, hc⟩ => hline ?_, fun hshut hneeded => hline ?_⟩
  · have hwindow : s.windowOf n = .quarantined c := by simp [State.windowOf, hc]
    exact State.requestEffect_refused ho (fun i g _ => ⟨_, hwindow ▸ dispose_quarantined o g.needed c⟩)
      (State.stepThree_refuses (.inr ⟨c, hc⟩))
  · obtain ⟨w, hw, hwshut⟩ : ∃ w, s.window? n = some w ∧ (w = .locked ∨ ∃ m l d, w = .opening m l d) := by
      obtain h | ⟨m, l, d, h⟩ := hshut
      · exact ⟨_, h, .inl rfl⟩
      · exact ⟨_, h, .inr ⟨m, l, d, rfl⟩⟩
    have hwindow : s.windowOf n = w := by simp [State.windowOf, hw]
    have hslot : s.requestSlot n f = none :=
      State.requestSlot_eq_none_iff.2 fun k x hx => .inl (State.controller_ne_of_shut hs hw hwshut hx)
    exact State.requestEffect_refused ho
      (fun i g hg => ⟨_, hwindow ▸ dispose_shut hwshut fun hsingle => hneeded hsingle i g hg⟩)
      (State.stepThree_refuses (.inl hslot))

end

section
/-! PROOFS. The reading commands, and what PROBE foretells (O52, O53): the layouts of their results, the arguments they
accept, and the outcome of an evaluated PROBE. -/

namespace Sys2Proof.Machine

/-! ## Bytes of results (R174) -/

theorem appended_congr {a b c d : List Byte} (h : a = c) (h' : b = d) : a ++ b = c ++ d := by rw [h, h']

theorem bytesOf_one (v : Nat) : bytesOf 1 v = [BitVec.ofNat 8 v] := by simp [bytesOf]

theorem boolCode_byte (b : Bool) : BitVec.ofNat 8 (boolCode b) = if b then 1#8 else 0#8 := by cases b <;> rfl

theorem WindowMode.code_byte (m : WindowMode) : BitVec.ofNat 8 m.code = if m = .single then 1#8 else 2#8 := by
  cases m <;> rfl

@[simp] theorem optionBytes_none {α : Type} (enc : α → List Byte) : optionBytes enc none = [0#8] := rfl

@[simp] theorem optionBytes_some {α : Type} (enc : α → List Byte) (x : α) :
    optionBytes enc (some x) = 1#8 :: enc x := rfl

theorem bytesOf_modelCode : bytesOf 2 Config.modelCode = [0x24#8, 0x08#8] := by decide

theorem capacities_eq : capacities = [32, 64, 128, 256, 8, 16, 2, 8, 32, 9, 8] := rfl

theorem Rights.code_eq (r : Rights) :
    r.code = r.manage.toNat + 2 * r.param.toNat + 4 * r.write.toNat + 8 * r.mode.toNat + 16 * r.force.toNat := by
  simp only [Rights.code, boolCode_eq]

theorem anyControllerCode_eq (n : Option (Fin 32)) : anyControllerCode n = (n.map Fin.val).getD 255 := by
  cases n <;> rfl

theorem anyClassCode_eq (c : Option Nat) : anyClassCode c = c.getD 65535 := by cases c <;> rfl

/-! ## READ-CONTROLLER (R165) -/

/-- The window part in the states without a slot. -/
theorem windowResults_unowned (c : Controller) :
    (c.window = .locked → windowResults c = [1#8, 0#8, 0#8, 0#8, 0#8, 0#8, 0#8, 0#8] ++ bytesOf 1 c.mismatches)
    ∧ (∀ m l d, c.window = .opening m l d → windowResults c = [2#8, 1#8, if m = .single then 1#8 else 2#8, 1#8]
        ++ bytesOf 2 l ++ [1#8] ++ bytesOf 8 d ++ [0#8, 0#8, 0#8, 0#8] ++ bytesOf 1 c.mismatches)
    ∧ (∀ m d, c.window = .opened m d → windowResults c = [3#8, 1#8, if m = .single then 1#8 else 2#8, 0#8, 0#8, 1#8]
        ++ bytesOf 8 d ++ [0#8, 0#8, 0#8] ++ bytesOf 1 c.mismatches)
    ∧ (∀ q, c.window = .quarantined q → windowResults c = [7#8, 0#8, 0#8, 0#8, 0#8, 0#8, 1#8]
        ++ bytesOf 1 q.code ++ [0#8] ++ bytesOf 1 c.mismatches) := by
  refine ⟨fun h => ?_, fun m l d h => ?_, fun m d h => ?_, fun q h => ?_⟩ <;>
    simp [windowResults, h, Window.code, Window.mode?, Window.length?, Window.openingDeadline?, Window.deadline?,
      Window.closing?, Window.cause?, Window.slot?, bytesOf_one, WindowMode.code_byte]

/-- The window part in the states that own a slot. -/
theorem windowResults_owning (c : Controller) (m : WindowMode) (k : Fin 8) :
    (∀ d, c.window = .transfer m d k → windowResults c =
      [4#8, 1#8, if m = .single then 1#8 else 2#8, 0#8, 0#8, 1#8] ++ bytesOf 8 d ++ [0#8, 0#8, 1#8] ++ bytesOf 1 k
        ++ bytesOf 1 c.mismatches)
    ∧ (∀ d x, c.window = .verify m d k x ∨ c.window = .commitWait m d k x → windowResults c =
      [if c.window = .verify m d k x then 5#8 else 6#8, 1#8, if m = .single then 1#8 else 2#8, 0#8, 0#8]
        ++ optionBytes (bytesOf 8) d ++ optionBytes (fun x => bytesOf 1 (CloseCause.window x).code) x ++ [0#8, 1#8]
        ++ bytesOf 1 k ++ bytesOf 1 c.mismatches) := by
  refine ⟨fun d h => ?_, fun d x h => h.elim (fun h => ?_) (fun h => ?_)⟩ <;>
    simp [windowResults, h, Window.code, Window.mode?, Window.length?, Window.openingDeadline?, Window.deadline?,
      Window.closing?, Window.cause?, Window.slot?, bytesOf_one, WindowMode.code_byte]

/-- The Tracker's part, in the phases of a live slot. -/
theorem slotResults_live (k : Fin 8) (x : Transfer) :
    (∀ sums pending q, slotResults (some k) (.taking x sums pending q) = [1#8] ++ bytesOf 1 k
        ++ [1#8, if q.answer = none then 2#8 else 1#8] ++ [1#8] ++ bytesOf 4 x.words ++ [1#8] ++ bytesOf 4 x.declared
        ++ [1#8] ++ bytesOf 1 pending ++ [1#8] ++ bytesOf 8 q.idle ++ optionBytes (bytesOf 8) q.answer)
    ∧ (∀ sums pending held, slotResults (some k) (.verifying x sums pending held) = [1#8] ++ bytesOf 1 k
        ++ [1#8, 3#8] ++ [1#8] ++ bytesOf 4 x.words ++ [1#8] ++ bytesOf 4 x.declared ++ [1#8] ++ bytesOf 1 pending
        ++ [0#8, 0#8])
    ∧ ∀ d, slotResults (some k) (.released x d) = [1#8] ++ bytesOf 1 k ++ [1#8, 4#8] ++ [1#8] ++ bytesOf 4 x.words
        ++ [1#8] ++ bytesOf 4 x.declared ++ [0#8, 0#8, 1#8] ++ bytesOf 8 d := by
  refine ⟨fun sums pending q => ?_, fun sums pending held => ?_, fun d => ?_⟩
  · cases hq : q.answer <;>
      simp [slotResults, Slot.phaseCode, Slot.live, Slot.pending?, Slot.idleDeadline?, Slot.responseDeadline?, hq,
        bytesOf_one]
  all_goals
    simp [slotResults, Slot.phaseCode, Slot.live, Slot.pending?, Slot.idleDeadline?, Slot.responseDeadline?,
      bytesOf_one]

theorem State.slotNaming_eq_none_iff (s : State) (n : Fin 32) :
    s.slotNaming n = none ↔ ∀ k x, (s.slot k).live = some x → x.controller ≠ n := by
  simp only [State.slotNaming, List.find?_eq_none, List.mem_finRange, true_imp_iff, Option.any_eq_true, beq_iff_eq,
    not_exists, not_and, ne_eq]

theorem State.live_of_slotNaming {s : State} {n : Fin 32} {k : Fin 8} (h : s.slotNaming n = some k) :
    ∃ x, (s.slot k).live = some x ∧ x.controller = n := by
  have hk := List.find?_some h
  simpa [Option.any_eq_true] using hk

/-- A controller number in its byte is one of 32 (R174). -/
theorem controllerOf_val (n : Fin 32) : controllerOf n.val = some n := by simp [controllerOf]

theorem controllerOf_of_lt {c : Nat} (h : 31 < c) : controllerOf c = none := dif_neg (by omega)

/-! ## READ-RECORD (R166) -/

theorem State.bankOf_of_le (s : State) {c : Nat} (h : c ≤ 1) :
    s.bankOf c = some (if c = 0 then s.active else s.shadow) := by
  obtain rfl | rfl : c = 0 ∨ c = 1 := by omega
  all_goals rfl

theorem State.bankOf_of_lt (s : State) {c : Nat} (h : 1 < c) : s.bankOf c = none := by
  unfold State.bankOf
  split
  · omega
  · omega
  · rfl

section readRecord
variable {s : State} {args : List Byte}

/-- A READ-RECORD is out of range where its bank, its table or its position is none (R174). -/
theorem State.doReadRecord_outOfRange
    (h : 1 < fieldAt args 0 1 ∨ Table.ofCode (fieldAt args 1 1) = none
      ∨ (∃ t, Table.ofCode (fieldAt args 1 1) = some t ∧ t.positions ≤ fieldAt args 2 2)) :
    s.doReadRecord args = s.answer .outOfRange := by
  unfold State.doReadRecord
  split
  · rename_i b t hb ht
    obtain h | h | ⟨t', ht', hpos⟩ := h
    · simp [s.bankOf_of_lt h] at hb
    · simp [ht] at h
    · obtain rfl : t = t' := by simpa [ht] using ht'
      exact if_neg (Nat.not_lt.2 hpos)
  · rfl

theorem State.doReadRecord_of_position {t : Table} (ht : Table.ofCode (fieldAt args 1 1) = some t)
    (hpos : fieldAt args 2 2 < t.positions) (hb : fieldAt args 0 1 ≤ 1) :
    s.doReadRecord args = (s,
      { status := .ok
        results := optionBytes id
          (recordAt (if fieldAt args 0 1 = 0 then s.active else s.shadow) t (fieldAt args 2 2)) }) := by
  simp only [State.doReadRecord, s.bankOf_of_le hb, ht, if_pos hpos]

end readRecord

section recordAt
variable {b : Bank} {i : Nat}

theorem recordAt_definitions {d : ControllerDef} (h : b.definitions[i]? = some (some d)) :
    recordAt b .definitions i = some (definitionBytes d) := by simp [recordAt, h]

theorem recordAt_stations {e : StationEntry} (h : b.stations[i]? = some (some e)) :
    recordAt b .stations i = some (stationBytes e) := by simp [recordAt, h]

theorem recordAt_grants {g : Grant} (h : b.grants[i]? = some (some g)) :
    recordAt b .grants i = some (grantBytes g) := by simp [recordAt, h]

theorem recordAt_images {r : ImageRecord} (h : b.images[i]? = some (some r)) :
    recordAt b .images i = some (imageBytes r) := by simp [recordAt, h]

end recordAt

/-! ## PROBE's arguments (R63) -/

section doProbe
variable {s : State} {args : List Byte}

theorem State.doProbe_fst (s : State) (args : List Byte) : (s.doProbe args).1 = s := by
  unfold State.doProbe
  repeat' split
  all_goals rfl

theorem Operation.code_of_ofCode {c : Nat} {o : Operation} (h : Operation.ofCode c = some o) : o.code = c := by
  unfold Operation.ofCode at h
  split at h <;> cases h <;> rfl

theorem probeOperation_of_not_mem {c : Nat} (h : c ∉ [1, 2, 3, 4, 8, 9]) : probeOperation c = none := by
  unfold probeOperation
  cases ho : Operation.ofCode c with
  | none => rfl
  | some o =>
    obtain rfl := Operation.code_of_ofCode ho
    cases o <;> simp_all [Operation.code]

theorem probeOperation_code {o : Operation} (h : o ∉ [.segment, .commit, .abandon]) :
    probeOperation o.code = some o := by
  cases o <;> simp_all [probeOperation, Operation.ofCode, Operation.code]

/-- A PROBE is out of range where its controller number, level, class or operation is (R174; L19). -/
theorem State.doProbe_outOfRange
    (h : 31 < fieldAt args 6 1 ∨ 3 < fieldAt args 12 1 ∨ 255 < fieldAt args 8 2
      ∨ fieldAt args 7 1 ∉ [1, 2, 3, 4, 8, 9]) : s.doProbe args = s.answer .outOfRange := by
  unfold State.doProbe
  split
  · rename_i n o hn ho
    obtain h | h | h | h := h
    · simp [controllerOf_of_lt h] at hn
    · exact if_pos (.inr h)
    · exact if_pos (.inl h)
    · simp [probeOperation_of_not_mem h] at ho
  · rfl

/-- A PROBE whose arguments are in range is answered NOT_FOUND for an undefined controller, but in Closed fallback, and
else is evaluated (R63). -/
theorem State.doProbe_inRange {n : Fin 32} {o : Operation} (hn : fieldAt args 6 1 = n) (hl : fieldAt args 12 1 ≤ 3)
    (hc : fieldAt args 8 2 ≤ 255) (hcode : o.code = fieldAt args 7 1) (ho : o ∉ [.segment, .commit, .abandon]) :
    s.doProbe args = if s.fallback = false ∧ s.definition n = none then s.answer .notFound else
      (s, { status := .ok
            results := probeBytes
              (s.evaluateProbe (addrAt args 0) n o (fieldAt args 8 2) (fieldAt args 10 2) (fieldAt args 12 1)) }) := by
  have hrange : ¬ (255 < fieldAt args 8 2 ∨ 3 < fieldAt args 12 1) := by omega
  simp only [State.doProbe, hn, controllerOf_val, ← hcode, probeOperation_code ho, if_neg hrange]

end doProbe

/-- A command whose body leaves the state as it is only replies. -/
theorem exec_managementInstr_reads {s : State} {c : Command} {p : Port} {f : Frame} {r : Reply}
    (h : s.takesCommand c p f) (hc : c ≠ .restart) (hb : s.commandBody c f = (s, r)) :
    exec (managementInstr c p f) s = .next (s.reply f .reply r) := by
  rw [exec_managementInstr_taken h hc, hb]

/-! ## What PROBE foretells (R64) -/

theorem isWriteKind_of_ne {o : Operation} (hr : o ≠ .read) (hs : o ≠ .summary) : isWriteKind o = true := by
  cases o with
  | read => exact absurd rfl hr
  | summary => exact absurd rfl hs
  | _ => rfl

section evaluate
variable {s : State} {src : Addr} {n : Fin 32} {o : Operation} {cls idx level : Nat} {e : StationEntry} {i : Nat}
  {g : Grant}

/-- A write-kind request that no grant is matched for ends at step 2 or 4, and PROBE reports no image check. -/
theorem State.evaluateProbe_of_ungranted {j : Judgement} {r : Reason} (hw : isWriteKind o = true)
    (hf : s.fallback = false) (hj : s.judge src n o cls idx level = j) (hr : j.outcome = .refuse r)
    (hg : j.grant = none) :
    s.evaluateProbe src n o cls idx level = { outcome := r.code, window := j.window, level := j.level } := by
  simp [State.evaluateProbe, hw, hf, hj, hr, hg, State.probeOutcome]

/-- What PROBE reports under the matched grant. -/
theorem State.evaluateProbe_of_grant (hw : isWriteKind o = true) (hf : s.fallback = false)
    (he : s.station src = some e) (hg : s.matchedGrant n o cls idx = some (i, g)) :
    s.evaluateProbe src n o cls idx level =
      { outcome := s.probeOutcome (s.judge src n o cls idx level).outcome
          (if o = .begins then some (effectiveCheck g.check (s.approved n cls idx).isSome) else none)
          (s.approved n cls idx)
        window := (s.judge src n o cls idx level).window
        grant := some i
        level := some (max e.level (min level 3))
        check := if o = .begins then some (effectiveCheck g.check (s.approved n cls idx).isSome) else none
        length := if o = .begins ∧ effectiveCheck g.check (s.approved n cls idx).isSome = .required then
          (s.approved n cls idx).map ImageRecord.length else none } := by
  have hgrant : (s.judge src n o cls idx level).grant = some (i, g) := by rw [State.judge_of_grant he hg]
  have hlevel : (s.judge src n o cls idx level).level = some (max e.level (min level 3)) := by
    rw [State.judge_of_grant he hg]
  by_cases ho : o = .begins
  · subst ho
    simp [State.evaluateProbe, hw, hf, hgrant, hlevel]
  · simp [State.evaluateProbe, hw, hf, hgrant, hlevel, ho]

end evaluate

/-- The effective image check is REQUIRED with no APPROVED record just when the grant's check is. -/
theorem effectiveCheck_noImage_iff (c : ImageCheck) (record : Option ImageRecord) :
    effectiveCheck c record.isSome = .required ∧ record = none ↔ c = .required ∧ record = none := by
  cases c <;> cases record <;> simp [effectiveCheck]

/-- The outcome of a start: a slot, and under REQUIRED an image, are to be there. -/
theorem State.probeOutcome_start (s : State) (c : ImageCheck) (record : Option ImageRecord) :
    s.probeOutcome .start (some (effectiveCheck c record.isSome)) record =
      if s.freeSlot = none then 15 else if c = .required ∧ record = none then 12 else 254 := by
  simp only [State.probeOutcome, Option.isNone_iff_eq_none, Option.some.injEq, effectiveCheck_noImage_iff]
  rfl

end Sys2Proof.Machine

open Sys2Proof Sys2Proof.Machine

/-- Settles O53: each stopping step is a case of the judgement, and the results are laid out piece by piece. -/
theorem probeForetellsAdmission : Obligations.ProbeForetellsAdmission := by
  refine ⟨fun r => ?_, fun s src n o cls idx level => ⟨fun ho => ?_, fun hr hs hf => ?_, fun hr hs hf => ?_⟩⟩
  · refine appended_congr (appended_congr (appended_congr (appended_congr (appended_congr rfl ?_) ?_) ?_) ?_) ?_
    · cases r.window with
      | none => rfl
      | some w => cases w <;> simp [Window.code, bytesOf_one]
    · cases r.grant <;> rfl
    · cases r.level <;> rfl
    · cases r.check with
      | none => rfl
      | some c => cases c <;> rfl
    · cases r.length <;> rfl
  · obtain rfl | rfl := ho <;> rfl
  · simp [State.evaluateProbe, isWriteKind_of_ne hr hs, hf, Reason.code]
  · have hw := isWriteKind_of_ne hr hs
    refine ⟨fun he => State.evaluateProbe_of_ungranted hw hf (State.judge_unknownSource he) rfl rfl,
      fun e he => ⟨fun hg => State.evaluateProbe_of_ungranted hw hf (State.judge_noGrant he hg) rfl rfl,
        fun i g hg => ?_⟩⟩
    rw [State.evaluateProbe_of_grant hw hf he hg]
    refine ⟨rfl, fun ho => ?_, fun ho hc => ?_, fun ho hc ha => ?_, fun r ho hc ha => ?_, rfl, fun hl => ?_,
      fun hl ha => ?_, fun hl ha => ⟨?_, fun hd => ?_, fun r hd => ?_, fun hd => ?_⟩⟩
    · simp [ho]
    · obtain hc | ⟨hc, ha⟩ := hc
      · simp [ho, hc, effectiveCheck]
      · simp [ho, hc, ha, effectiveCheck]
    · simp [ho, hc, ha, effectiveCheck]
    · have hcheck : effectiveCheck g.check true = .required := by cases h : g.check <;> simp_all [effectiveCheck]
      simp [ho, ha, hcheck]
    · simp [State.judge_of_grant he hg, hl, State.probeOutcome, Reason.code]
    · simp [State.judge_of_grant he hg, Nat.not_lt.2 hl, ha, State.probeOutcome, Reason.code]
    · simp [State.judge_of_grant he hg, Nat.not_lt.2 hl, ha]
    · simp [State.judge_of_steps he hg hl ha, hd, State.probeOutcome]
    · simp [State.judge_of_steps he hg hl ha, hd, State.probeOutcome]
    · obtain rfl := begins_of_dispose_start hd
      dsimp only
      rw [State.judge_of_steps he hg hl ha, hd, if_pos rfl, State.probeOutcome_start]

/-- Settles O52: each body leaves the state as it is, and its results are the layouts of their parts. -/
theorem readingCommandsOnlyReply : Obligations.ReadingCommandsOnlyReply := by
  intro s p f
  refine ⟨fun h => exec_managementInstr_reads h nofun ?_, fun h => exec_managementInstr_reads h nofun rfl,
    fun h => ⟨fun hn => exec_managementInstr_reads h nofun ?_, fun n hn =>
      ⟨fun hc => exec_managementInstr_reads h nofun ?_, fun c hc => exec_managementInstr_reads h nofun ?_⟩⟩,
    fun h => ⟨fun hout => exec_managementInstr_reads h nofun (State.doReadRecord_outOfRange hout),
      fun t ht hpos hb => exec_managementInstr_reads h nofun ((State.doReadRecord_of_position ht hpos hb).trans ?_)⟩,
    fun c => ?_, fun m => ?_, fun n => ⟨s.slotNaming_eq_none_iff n, fun k => State.live_of_slotNaming⟩, rfl,
    fun k x => ?_, fun c r => ?_, fun c => rfl, fun b i => ?_, fun h => ?_⟩
  · simp [State.commandBody, State.doIdentify, bytesOf_modelCode, addrBytes, capacities_eq, bytesOf_one, boolCode_byte,
      State.storeBusy]
  · simp [State.commandBody, State.doReadController, State.forController, argumentBytes, Config.managementHeaderBytes,
      controllerOf_of_lt hn, State.answer]
  · simp [State.commandBody, State.doReadController, State.forController, argumentBytes, Config.managementHeaderBytes,
      hn, controllerOf_val, hc, State.answer]
  · simp [State.commandBody, State.doReadController, State.forController, argumentBytes, Config.managementHeaderBytes,
      hn, controllerOf_val, hc]
  · cases hr : recordAt (if fieldAt (f.payload.drop 8) 0 1 = 0 then s.active else s.shadow) t
      (fieldAt (f.payload.drop 8) 2 2) <;> rfl
  · obtain ⟨hlocked, hopening, hopened, hquarantined⟩ := windowResults_unowned c
    refine ⟨hlocked, hopening, hopened, fun m d k => (windowResults_owning c m k).1 d, fun m d k x h => ?_,
      fun q h => (hquarantined q h).trans (by cases q <;> rfl)⟩
    refine ((windowResults_owning c m k).2 d x h).trans ?_
    cases d <;> rcases x with _ | (_ | _ | _) <;> rfl
  · refine appended_congr (appended_congr ?_ ?_) ?_
    · cases m.observed <;> rfl
    · cases m.lastFrame <;> rfl
    · cases m.quiet <;> rfl
  · obtain ⟨htaking, hverifying, hreleased⟩ := slotResults_live k x
    refine ⟨fun sums pending q => (htaking sums pending q).trans (appended_congr rfl ?_), hverifying, hreleased⟩
    cases q.answer <;> rfl
  · cases r <;> simp [scheduleResults, bytesOf_one, boolCode_byte]
  · refine ⟨fun h => by simp [recordAt, h], fun h => by simp [recordAt, h], fun h => by simp [recordAt, h],
      fun h => by simp [recordAt, h], fun d h => recordAt_definitions h, fun e h => ?_, fun g h => ?_, fun r h => ?_⟩
    · rw [recordAt_stations h, stationBytes, Rights.code_eq]
      rfl
    · rw [recordAt_grants h, grantBytes, Rights.code_eq, anyControllerCode_eq, anyClassCode_eq, boolCode_eq]
      cases g.check <;> rfl
    · rw [recordAt_images h, imageBytes]
      cases r.status <;> simp [ImageStatus.code, ImageStatus.learnedAt, bytesOf_one]
  · refine ⟨(s.commandBody .probe f).2, exec_managementInstr_reads h nofun
      (Prod.ext (State.doProbe_fst s _) rfl), fun hout => ?_, fun n hn hl hc o hcode ho =>
        ⟨fun hf hd => ?_, fun hd => ?_⟩⟩
    · exact congrArg Prod.snd (State.doProbe_outOfRange hout)
    · exact congrArg Prod.snd ((State.doProbe_inRange hn hl hc hcode ho).trans (if_pos ⟨hf, hd⟩))
    · refine congrArg Prod.snd ((State.doProbe_inRange hn hl hc hcode ho).trans (if_neg ?_))
      rintro ⟨hf, hnone⟩
      exact hd.elim (by simp [hf]) (· hnone)
end

section
/-! PROOFS. The Fingerprint Unit (O33, O34, O37, O38): the arithmetic in natural numbers, what a lane's finish does in
each phase of its slot, and what the arbiter gives an idle lane. -/

namespace Sys2Proof.Machine

/-! ## Words taken (R93, R94, R96) -/

namespace Sums
variable (x : Sums) (w : Word) (ws : List Word)

@[simp] theorem take_i : (x.take w).i = x.i + 1 := rfl

theorem take_a_toNat : (x.take w).a.toNat = (x.a.toNat + w.toNat) % 4294967296 := by
  have hw : w.toNat < 4294967296 := Nat.lt_of_lt_of_le w.isLt (by decide)
  simp [take, BitVec.toNat_add, Nat.mod_eq_of_lt hw]

theorem take_b_toNat : (x.take w).b.toNat = (x.b.toNat + weight x.i * w.toNat) % 4294967296 := by
  simp [take, BitVec.toNat_add]

@[simp] theorem takeAll_cons : x.takeAll (w :: ws) = (x.take w).takeAll ws := rfl

/-- However words are divided into segments, they are taken as one run of words (R96). -/
theorem foldl_takeAll (segments : List (List Word)) : segments.foldl takeAll x = x.takeAll segments.flatten :=
  List.foldl_flatten.symm

theorem takeAll_i : (x.takeAll ws).i = x.i + ws.length := by
  induction ws generalizing x with
  | nil => rfl
  | cons w ws ih => rw [takeAll_cons, ih, take_i, List.length_cons]; omega

theorem takeAll_a_toNat : (x.takeAll ws).a.toNat = (x.a.toNat + (ws.map BitVec.toNat).sum) % 4294967296 := by
  induction ws generalizing x with
  | nil => exact (Nat.mod_eq_of_lt x.a.isLt).symm
  | cons w ws ih => rw [takeAll_cons, ih, take_a_toNat, Nat.mod_add_mod, List.map_cons, List.sum_cons, Nat.add_assoc]

/-- B gains each word in the weight of its position, counted on from the position of the start. -/
theorem takeAll_b_toNat : (x.takeAll ws).b.toNat =
    (x.b.toNat + ((ws.zipIdx x.i).map (fun p => weight p.2 * p.1.toNat)).sum) % 4294967296 := by
  induction ws generalizing x with
  | nil => exact (Nat.mod_eq_of_lt x.b.isLt).symm
  | cons w ws ih =>
    rw [takeAll_cons, ih, take_b_toNat, take_i, Nat.mod_add_mod, List.zipIdx_cons, List.map_cons, List.sum_cons,
      Nat.add_assoc]

end Sums

/-! ## The fingerprint (R95) -/

theorem foldHalves_toNat (x : Quad) : (foldHalves x).toNat = (x.toNat % 65536 + x.toNat / 65536) % 65536 := by
  simp [foldHalves, BitVec.toNat_add, Nat.shiftRight_eq_div_pow]

theorem append_words_toNat (h l : Word) : (h ++ l : Quad).toNat = h.toNat * 65536 + l.toNat := by
  rw [BitVec.toNat_append, ← Nat.shiftLeft_add_eq_or_of_lt l.isLt, Nat.shiftLeft_eq]

/-- What lies above `n` bytes takes no part in the lowest `n`. -/
theorem bytesOf_mul_add (n h l : Nat) : bytesOf n (h * 256 ^ n + l) = bytesOf n l := by
  induction n generalizing h with
  | zero => rfl
  | succ n ih =>
    have hshift : h * 256 ^ (n + 1) + l = h * 256 * 256 ^ n + l := by rw [Nat.pow_succ', Nat.mul_assoc]
    have hhead : (h * 256 * 256 ^ n + l) / 256 ^ n = l / 256 ^ n + 256 * h := by
      rw [Nat.mul_comm, Nat.mul_add_div (Nat.pow_pos (by decide))]; omega
    rw [hshift, bytesOf, bytesOf, ih, hhead]
    congr 1
    exact BitVec.eq_of_toNat_eq (by simp)

/-- The bytes of a value in two runs: those of its upper part, then those of its lower part. -/
theorem bytesOf_add (m n h : Nat) {l : Nat} (hl : l < 256 ^ n) :
    bytesOf (m + n) (h * 256 ^ n + l) = bytesOf m h ++ bytesOf n l := by
  induction m with
  | zero => rw [Nat.zero_add, bytesOf_mul_add]; rfl
  | succ m ih =>
    have hhead : (h * 256 ^ n + l) / 256 ^ (m + n) = h / 256 ^ m := by
      rw [Nat.add_comm m, Nat.pow_add, ← Nat.div_div_eq_div_mul, Nat.mul_comm,
        Nat.mul_add_div (Nat.pow_pos (by decide)), Nat.div_eq_of_lt hl, Nat.add_zero]
    rw [Nat.succ_add, bytesOf, bytesOf, hhead, ih, List.cons_append]

/-! ## A lane finishes (R101, R102) -/

section finish
variable {s : State}

/-- The finish of a busy lane of a powered filter. -/
theorem exec_laneFinish {l : Fin 2} {w : LaneWork} (hp : s.powered = true) (hl : s.lane l = some w) :
    exec (.laneFinish l) s = .next (((s.setLane l none).laneReports w).giveNext l) := by
  have hexec : exec (.laneFinish l) s = .next (if s.powered then s.finishLane l else s) := rfl
  rw [hexec, if_pos hp, State.finishLane, hl]

/-- A slot that is not in VERIFYING with nothing pending does not complete. -/
theorem State.completeVerifying_of_pending {k : Fin 8} {x : Transfer} {sums : Sums} {pending : Nat} {held : Frame}
    (h : s.slot k = .verifying x sums pending held) (hp : pending ≠ 0) : s.completeVerifying k = s := by
  obtain ⟨p, rfl⟩ := Nat.exists_eq_succ_of_ne_zero hp
  simp [State.completeVerifying, h]

variable {w : LaneWork} {x : Transfer} {sums : Sums} {pending : Nat}

theorem State.laneReports_taking {q : Intake} (h : s.slot w.entry.slot = .taking x sums pending q) :
    s.laneReports w =
      s.setSlot w.entry.slot (.taking x (w.sums.takeAll w.entry.words) (pending - 1) q) := by
  simp [State.laneReports, h]

theorem State.laneReports_verifying {held : Frame} (h : s.slot w.entry.slot = .verifying x sums pending held) :
    s.laneReports w = (s.setSlot w.entry.slot
      (.verifying x (w.sums.takeAll w.entry.words) (pending - 1) held)).completeVerifying w.entry.slot := by
  simp [State.laneReports, h]

theorem State.laneReports_draining (h : s.slot w.entry.slot = .draining) :
    s.laneReports w = s.setSlot w.entry.slot .free := by
  simp [State.laneReports, h]

end finish

/-! ## The arbiter (R99, R100, R103) -/

namespace State
variable {s : State} {e : SegmentEntry}

theorem idleLane_eq_some_iff (l : Fin 2) : s.idleLane = some l ↔ s.lane l = none ∧ ∀ j < l, s.lane j ≠ none := by
  simp only [idleLane, find_finRange_eq_some_iff, Option.isNone_iff_eq_none, Option.isNone_eq_false_iff,
    Option.isSome_iff_ne_none]

theorem idleLane_eq_none_iff : s.idleLane = none ↔ s.lane 0 ≠ none ∧ s.lane 1 ≠ none := by
  simp [idleLane, Fin.forall_fin_two]

theorem eligible_iff : s.eligible e = true ↔ s.laneHolds e.slot = false := by simp [eligible]

/-- An entry waits when no lane is idle, or when a lane holds a segment of its slot (R99). -/
theorem appendSegment_waits (h : s.idleLane = none ∨ s.laneHolds e.slot = true) :
    s.appendSegment e = { s with waiting := s.waiting ++ [e] } := by
  unfold appendSegment
  split
  · next l hl => rw [if_pos (h.resolve_left (by simp [hl]))]
  · rfl

/-- An entry whose slot no lane holds is taken by the idle lane (R99). -/
theorem appendSegment_taken {l : Fin 2} (hl : s.idleLane = some l) (he : s.laneHolds e.slot = false) :
    s.appendSegment e = s.load l e := by
  simp [appendSegment, hl, he]

/-- With no eligible entry the lane stays idle (R103). -/
theorem giveNext_of_none (l : Fin 2) (h : ∀ e ∈ s.waiting, s.laneHolds e.slot = true) : s.giveNext l = s := by
  have hnone : s.waiting.find? s.eligible = none := List.find?_eq_none.2 fun e he => by simp [eligible, h e he]
  simp [giveNext, hnone]

/-- The lane takes the eligible entry that has only ineligible ones before it; the others keep their order (R103). -/
theorem giveNext_of_oldest (l : Fin 2) {older newer : List SegmentEntry} (hw : s.waiting = older ++ e :: newer)
    (holder : ∀ a ∈ older, s.laneHolds a.slot = true) (he : s.laneHolds e.slot = false) :
    s.giveNext l = { s with waiting := older ++ newer }.load l e := by
  have hpassed : ∀ a ∈ older, ¬ s.eligible a = true := fun a ha => by simp [eligible, holder a ha]
  have htaken : s.eligible e = true := eligible_iff.2 he
  have hfind : s.waiting.find? s.eligible = some e :=
    List.find?_eq_some_iff_append.2 ⟨htaken, older, newer, hw, fun a ha => by simpa using hpassed a ha⟩
  have hrest : s.waiting.eraseP s.eligible = older ++ newer := by
    rw [hw, List.eraseP_append_right _ hpassed, List.eraseP_cons_of_pos htaken]
  rw [giveNext, hfind, hrest]

end State

end Sys2Proof.Machine

open Sys2Proof Sys2Proof.Machine

/-- Settles O33: the lane is idle when its finish reaches the slot, and each phase of the slot has its own report. -/
theorem laneFinishReachesItsSlot : Obligations.LaneFinishReachesItsSlot := by
  intro s l w hp hl
  rw [exec_laneFinish hp hl]
  refine ⟨fun x sums pending q h => ?_, fun x sums pending held h => ⟨fun hone => ?_, fun htwo => ?_⟩, fun h => ?_⟩
  · rw [State.laneReports_taking (s := s.setLane l none) h]; rfl
  · rw [State.laneReports_verifying (s := s.setLane l none) h, hone]; rfl
  · rw [State.laneReports_verifying (s := s.setLane l none) h,
      State.completeVerifying_of_pending (by rw [State.slot_setSlot, if_pos rfl]) (by omega)]
    rfl
  · rw [State.laneReports_draining (s := s.setLane l none) h]

/-- Settles O34: an append finds the lowest idle lane, a lane that becomes idle the first eligible entry. -/
theorem arbiterGivesOldestEligibleEntry : Obligations.ArbiterGivesOldestEligibleEntry := by
  intro s l
  refine ⟨fun e => ⟨fun h => State.appendSegment_waits (h.imp_left State.idleLane_eq_none_iff.2), fun he hidle hlower =>
    State.appendSegment_taken ((State.idleLane_eq_some_iff l).2 ⟨hidle, hlower⟩) he⟩, State.giveNext_of_none l,
    fun older newer e => State.giveNext_of_oldest l⟩

/-- Settles O37: H and L are the folds of B and of A with n, and each half is two bytes. -/
theorem fingerprintIsFoldedFromAccumulators : Obligations.FingerprintIsFoldedFromAccumulators := by
  intro x n
  have hvalue : (fingerprint x n).toNat = (foldHalves x.b).toNat * 65536
      + (foldHalves x.a + BitVec.ofNat 16 n).toNat := append_words_toNat ..
  have hlow : (foldHalves x.a + BitVec.ofNat 16 n).toNat = ((foldHalves x.a).toNat + n % 65536) % 65536 := by
    rw [BitVec.toNat_add, BitVec.toNat_ofNat]
  rw [hlow, foldHalves_toNat, foldHalves_toNat] at hvalue
  exact ⟨hvalue, hvalue ▸ bytesOf_add 2 2 _ (Nat.mod_lt _ (by decide))⟩

/-- Settles O38: the segments are one run of words, taken from zero. -/
theorem accumulatorsDependOnTheWordsAlone : Obligations.AccumulatorsDependOnTheWordsAlone := by
  refine ⟨fun x w => ⟨x.take_a_toNat w, x.take_b_toNat w, x.take_i w⟩, fun segments => ?_⟩
  rw [Sums.foldl_takeAll, Sums.takeAll_i, Sums.takeAll_a_toNat, Sums.takeAll_b_toNat]
  simp [weight]
end

section
/-! PROOFS. Image records and learning, candidates and watches (O35, O58): the positions of the Image Table, the
branches of the image decision, and the bodies of the four commands, each by the range of its arguments. -/

namespace Sys2Proof.Machine

/-! ## Positions of a table -/

/-- The lowest position of a table that meets a condition. -/
theorem findIdx_toList_eq_some_iff {α : Type} {n : Nat} (t : Vector α n) (p : α → Bool) (i : Nat) :
    t.toList.findIdx? p = some i ↔
      (∃ a, t[i]? = some a ∧ p a = true) ∧ ∀ j < i, ∀ a, t[j]? = some a → p a = false := by
  simp only [List.findIdx?_eq_some_iff_getElem, ← Vector.getElem?_toList, List.getElem?_eq_some_iff, Bool.not_eq_true]
  constructor
  · rintro ⟨hi, hp, hlower⟩
    exact ⟨⟨_, ⟨hi, rfl⟩, hp⟩, fun j hj a ⟨_, ha⟩ => ha ▸ hlower j hj⟩
  · rintro ⟨⟨_, ⟨hi, rfl⟩, hp⟩, hlower⟩
    exact ⟨hi, hp, fun j hj => hlower j hj _ ⟨Nat.lt_trans hj hi, rfl⟩⟩

theorem findIdx_toList_eq_none_iff {α : Type} {n : Nat} (t : Vector α n) (p : α → Bool) :
    t.toList.findIdx? p = none ↔ ∀ (i : Nat) (a : α), t[i]? = some a → p a = false := by
  simp only [List.findIdx?_eq_none_iff, List.mem_iff_getElem?, Vector.getElem?_toList]
  exact ⟨fun h i a hi => h a ⟨i, hi⟩, fun h a ⟨i, hi⟩ => h i a hi⟩

/-! ## Positions of the Image Table (R109, R113) -/

theorem ImageRecord.isCandidateOf_iff (r : ImageRecord) (n : Fin 32) (cls idx : Nat) :
    (r.hasKey n cls idx && !r.isApproved) = true ↔ r.key = (n, cls, idx) ∧ r.isApproved = false := by
  rw [Bool.and_eq_true, ImageRecord.hasKey_iff, Bool.not_eq_true']

theorem ImageRecord.isCandidateOf_eq_false_iff (r : ImageRecord) (n : Fin 32) (cls idx : Nat) :
    (r.hasKey n cls idx && !r.isApproved) = false ↔ (r.key = (n, cls, idx) → r.isApproved = true) := by
  rw [← Bool.not_eq_true, ImageRecord.isCandidateOf_iff, not_and, Bool.not_eq_false]

section positions
variable {s : State} {x : Transfer}

/-- Where the lowest CANDIDATE of a key stands. -/
theorem State.candidatePosition_eq_some {i : Nat} {r : ImageRecord} (hi : s.active.images[i]? = some (some r))
    (hk : r.key = (x.controller, x.cls, x.idx)) (hr : r.isApproved = false)
    (hlower : ∀ j < i, ∀ o, s.active.images[j]? = some (some o) → o.key = (x.controller, x.cls, x.idx) →
      o.isApproved = true) : s.candidatePosition x = some i := by
  refine (findIdx_toList_eq_some_iff ..).2 ⟨⟨some r, hi, (r.isCandidateOf_iff ..).2 ⟨hk, hr⟩⟩, fun j hj o ho => ?_⟩
  cases o with
  | none => rfl
  | some o => exact (o.isCandidateOf_eq_false_iff ..).2 (hlower j hj o ho)

theorem State.candidatePosition_eq_none (h : ∀ r ∈ records s.active.images, r.key ≠ (x.controller, x.cls, x.idx)) :
    s.candidatePosition x = none := by
  refine (findIdx_toList_eq_none_iff ..).2 fun i o ho => ?_
  cases o with
  | none => rfl
  | some o =>
    exact (o.isCandidateOf_eq_false_iff ..).2 fun hk => absurd hk (h o ((mem_records_iff ..).2 ⟨i, ho⟩))

/-- What a position holds is a record, unless the position is empty. -/
theorem isNone_eq_false_iff_ne_empty {α : Type} (o : Option (Option α)) :
    (∀ a, o = some a → a.isNone = false) ↔ o ≠ some none := by
  constructor
  · rintro h rfl
    exact nomatch h none rfl
  · rintro h a rfl
    exact Option.isNone_eq_false_iff.2 (Option.isSome_iff_ne_none.2 fun ha => h (congrArg some ha))

theorem State.emptyPosition_eq_some_iff (s : State) (i : Nat) : s.emptyPosition = some i ↔
    s.active.images[i]? = some none ∧ ∀ j < i, s.active.images[j]? ≠ some none :=
  (findIdx_toList_eq_some_iff ..).trans
    (and_congr (by simp) (forall₂_congr fun _ _ => isNone_eq_false_iff_ne_empty _))

theorem State.emptyPosition_eq_none_iff (s : State) :
    s.emptyPosition = none ↔ ∀ i : Nat, s.active.images[i]? ≠ some none :=
  (findIdx_toList_eq_none_iff ..).trans (forall_congr' fun _ => isNone_eq_false_iff_ne_empty _)

end positions

/-! ## The image decision (R111 to R113) -/

theorem pairMatches_iff (r : ImageRecord) (n : Nat) (f : Quad) :
    pairMatches r n f = true ↔ n = r.length ∧ f = r.fingerprint := by simp [pairMatches]

section decision
variable {s : State} {x : Transfer} {n : Nat} {f : Quad}

theorem State.decideImage_unchecked (h : x.check = .none) : s.decideImage x n f = (s, .release) := by
  rw [State.decideImage, h]

/-- Under REQUIRED and under LEARN the APPROVED record of the key decides, where there is one (R111). -/
theorem State.decideImage_recorded {r : ImageRecord} (hc : x.check ≠ .none)
    (hr : s.approved x.controller x.cls x.idx = some r) : s.decideImage x n f = s.compareImage x r n f := by
  unfold State.decideImage
  split
  · exact absurd ‹_› hc
  · rw [hr]
  · rw [hr]

theorem State.decideImage_unrecorded (hc : x.check = .learn) (hr : s.approved x.controller x.cls x.idx = none) :
    s.decideImage x n f = s.learnImage x n f := by
  rw [State.decideImage, hc, hr]

theorem State.learnImage_at {i : Nat} (h : (s.candidatePosition x <|> s.emptyPosition) = some i) :
    s.learnImage x n f = ((s.setImage i (some (s.candidateFor x n f))).post
      (s.imageNotice .imageLearned x f (BitVec.ofNat 32 n)), .release) := by
  rw [State.learnImage, h]
  rfl

theorem State.learnImage_full (h : (s.candidatePosition x <|> s.emptyPosition) = none) :
    s.learnImage x n f = (s, .imageFull) := by
  rw [State.learnImage, h]

end decision

end Sys2Proof.Machine

open Sys2Proof Sys2Proof.Machine

/-- Settles O35: a compare with the APPROVED record, or the position that learning writes to. -/
theorem imageDecisionFollowsTheTable : Obligations.ImageDecisionFollowsTheTable := by
  intro s x n F
  refine ⟨State.decideImage_unchecked, fun hc r hr => ?_, fun hc hr => ?_⟩
  · rw [State.decideImage_recorded hc hr]
    exact ⟨fun hn hF => if_pos ((pairMatches_iff ..).2 ⟨hn, hF⟩), fun hne => if_neg fun hm => by
      obtain ⟨hn, hF⟩ := (pairMatches_iff ..).1 hm
      exact hne.elim (· hn) (· hF)⟩
  · rw [State.decideImage_unrecorded hc hr]
    refine ⟨fun i r hi hk hcandidate hlower => State.learnImage_at ?_, fun hkey => ⟨fun i hi hlower =>
      State.learnImage_at ?_, fun hfull => State.learnImage_full ?_⟩⟩
    · rw [State.candidatePosition_eq_some hi hk hcandidate hlower]
      rfl
    · rw [State.candidatePosition_eq_none hkey]
      exact (s.emptyPosition_eq_some_iff i).2 ⟨hi, hlower⟩
    · rw [State.candidatePosition_eq_none hkey]
      exact s.emptyPosition_eq_none_iff.2 hfull

namespace Sys2Proof.Machine

/-! ## Commands that are taken -/

/-- A command that is taken leaves what its body leaves, with the body's reply appended. -/
theorem exec_managementInstr_body {s t : State} {c : Command} {p : Port} {f : Frame} {r : Reply}
    (h : s.takesCommand c p f) (hc : c ≠ .restart) (hb : s.commandBody c f = (t, r)) :
    exec (managementInstr c p f) s = .next (t.reply f .reply r) := by
  rw [exec_managementInstr_taken h hc, hb]

/-! ## APPROVE-CANDIDATE and DISCARD-CANDIDATE (R116, R117) -/

theorem ImageRecord.isApproved_iff (r : ImageRecord) : r.isApproved = true ↔ r.status = .approved := beq_iff_eq

theorem ImageRecord.isApproved_of_candidate {r : ImageRecord} {t : Nat} (h : r.status = .candidate t) :
    r.isApproved = false := by
  rw [ImageRecord.isApproved, h]
  rfl

/-- A position holds no CANDIDATE when it is empty or its record is APPROVED. -/
theorem holdsCandidate_eq_false {b : Bank} {i : Nat}
    (h : ∀ r, b.images[i]? = some (some r) → r.status = .approved) : holdsCandidate b i = false := by
  rw [holdsCandidate, Option.any_eq_false]
  intro r hr
  obtain ⟨_, hi, rfl⟩ := Option.bind_eq_some_iff.1 hr
  rw [r.isApproved_iff.2 (h r hi)]
  rfl

theorem holdsCandidate_of_candidate {b : Bank} {i t : Nat} {r : ImageRecord}
    (hi : b.images[i]? = some (some r)) (hr : r.status = .candidate t) : holdsCandidate b i = true := by
  simp [holdsCandidate, hi, ImageRecord.isApproved_of_candidate hr]

section candidates
variable {s : State} {args : List Byte}

theorem State.doApproveCandidate_outOfRange (h : 255 < fieldAt args 0 2) :
    s.doApproveCandidate args = s.answer .outOfRange := if_neg (Nat.not_lt.2 h)

/-- An empty position and an APPROVED record are nothing to approve (R116). -/
theorem State.doApproveCandidate_notFound (hi : fieldAt args 0 2 ≤ 255)
    (h : ∀ r, s.active.images[fieldAt args 0 2]? = some (some r) → r.status = .approved) :
    s.doApproveCandidate args = s.answer .notFound := by
  refine (if_pos (Nat.lt_succ_of_le hi)).trans ?_
  split
  · rename_i r hr
    obtain ⟨_, hi, rfl⟩ := Option.bind_eq_some_iff.1 hr
    exact if_pos (r.isApproved_iff.2 (h r hi))
  · rfl

theorem State.doApproveCandidate_candidate {r : ImageRecord} {t : Nat} (hi : fieldAt args 0 2 ≤ 255)
    (h : s.active.images[fieldAt args 0 2]? = some (some r)) (hr : r.status = .candidate t) :
    s.doApproveCandidate args = (s.setImage (fieldAt args 0 2) (some { r with status := .approved }),
      { status := .ok
        results := bytesOf 1 r.controller ++ bytesOf 2 r.cls ++ bytesOf 2 r.idx ++ bytesOf 4 r.length
          ++ bytesOf 4 r.fingerprint.toNat }) := by
  refine (if_pos (Nat.lt_succ_of_le hi)).trans ?_
  simp [h, ImageRecord.isApproved_of_candidate hr]

theorem State.doDiscardCandidate_outOfRange (h : 1 < fieldAt args 0 1 ∨ 255 < fieldAt args 1 2) :
    s.doDiscardCandidate args = s.answer .outOfRange := by
  unfold State.doDiscardCandidate
  dsimp only
  split
  · rfl
  · rename_i b hb
    refine if_neg (Nat.not_lt.2 (h.resolve_left fun hbank => ?_))
    simp [s.bankOf_of_lt hbank] at hb

/-- A DISCARD-CANDIDATE whose arguments are in range empties its position where a CANDIDATE stands there (R117). -/
theorem State.doDiscardCandidate_inRange (hb : fieldAt args 0 1 ≤ 1) (hi : fieldAt args 1 2 ≤ 255) :
    s.doDiscardCandidate args =
      if holdsCandidate (if fieldAt args 0 1 = 0 then s.active else s.shadow) (fieldAt args 1 2) then
        (if fieldAt args 0 1 = 0 then { s with active := s.active.clearImage (fieldAt args 1 2) }
          else { s with shadow := s.shadow.clearImage (fieldAt args 1 2) }, { status := .ok })
      else s.answer .notFound := by
  unfold State.doDiscardCandidate
  rw [s.bankOf_of_le hb]
  exact if_pos (Nat.lt_succ_of_le hi)

theorem State.doDiscardCandidate_active {r : ImageRecord} {t : Nat} (hb : fieldAt args 0 1 = 0)
    (hi : fieldAt args 1 2 ≤ 255) (h : s.active.images[fieldAt args 1 2]? = some (some r))
    (hr : r.status = .candidate t) :
    s.doDiscardCandidate args = ({ s with active := s.active.clearImage (fieldAt args 1 2) }, { status := .ok }) := by
  rw [State.doDiscardCandidate_inRange (by omega) hi, if_pos hb, if_pos hb,
    if_pos (holdsCandidate_of_candidate h hr)]

theorem State.doDiscardCandidate_shadow {r : ImageRecord} {t : Nat} (hb : fieldAt args 0 1 = 1)
    (hi : fieldAt args 1 2 ≤ 255) (h : s.shadow.images[fieldAt args 1 2]? = some (some r))
    (hr : r.status = .candidate t) :
    s.doDiscardCandidate args = ({ s with shadow := s.shadow.clearImage (fieldAt args 1 2) }, { status := .ok }) := by
  have hne : fieldAt args 0 1 ≠ 0 := by omega
  rw [State.doDiscardCandidate_inRange (Nat.le_of_eq hb) hi, if_neg hne, if_neg hne,
    if_pos (holdsCandidate_of_candidate h hr)]

end candidates

/-! ## ARM-WATCH and DISARM-WATCH (R134) -/

theorem watchOf_val (w : Fin 8) : watchOf w.val = some w := dif_pos w.isLt

theorem watchOf_of_lt {c : Nat} (h : 7 < c) : watchOf c = none := dif_neg (Nat.not_lt.2 h)

theorem anyClassOf_getD {o : Option Nat} (h : ∀ c ∈ o, c ≤ 255) : anyClassOf (o.getD 65535) = some o := by
  cases o with
  | none => rfl
  | some c =>
    have hc : c ≤ 255 := h c rfl
    exact (if_neg (Nat.ne_of_lt (Nat.lt_of_le_of_lt hc (by decide)))).trans (if_pos hc)

theorem anyClassOf_of_lt {c : Nat} (h : 255 < c) (ha : c ≠ 65535) : anyClassOf c = none :=
  (if_neg ha).trans (if_neg (Nat.not_le.2 h))

theorem boolOfCode_toNat (b : Bool) : boolOfCode b.toNat = some b := by cases b <;> rfl

theorem boolOfCode_of_lt {c : Nat} (h : 1 < c) : boolOfCode c = none := by
  unfold boolOfCode
  split
  · omega
  · omega
  · rfl

section watches
variable {s : State} {args : List Byte}

/-- An ARM-WATCH names no watch where a field lies outside its table, or its low index above its high (R133). -/
theorem watchArgument_eq_none
    (h : 31 < fieldAt args 1 1 ∨ (255 < fieldAt args 2 2 ∧ fieldAt args 2 2 ≠ 65535)
      ∨ fieldAt args 6 2 < fieldAt args 4 2 ∨ 1 < fieldAt args 8 1 ∨ 1 < fieldAt args 9 1) :
    watchArgument args = none := by
  unfold watchArgument
  split
  · rename_i n c all rep hn hc hall hrep
    obtain h | ⟨h, ha⟩ | h | h | h := h
    · simp [controllerOf_of_lt h] at hn
    · simp [anyClassOf_of_lt h ha] at hc
    · exact if_neg (Nat.not_le.2 h)
    · simp [boolOfCode_of_lt h] at hall
    · simp [boolOfCode_of_lt h] at hrep
  · rfl

/-- The watch whose fields an ARM-WATCH carries. -/
theorem watchArgument_eq_some {x : Watch} (hn : fieldAt args 1 1 = x.controller)
    (hc : fieldAt args 2 2 = x.cls.getD 65535) (hclass : ∀ c ∈ x.cls, c ≤ 255) (hlow : fieldAt args 4 2 = x.low)
    (hhigh : fieldAt args 6 2 = x.high) (hle : x.low ≤ x.high) (hall : fieldAt args 8 1 = x.all.toNat)
    (hrep : fieldAt args 9 1 = x.repeats.toNat) : watchArgument args = some x := by
  simp only [watchArgument, hn, controllerOf_val, hc, anyClassOf_getD hclass, hall, hrep, boolOfCode_toNat, hlow, hhigh,
    if_pos hle]

theorem State.doArmWatch_outOfRange (h : 7 < fieldAt args 0 1 ∨ watchArgument args = none) :
    s.doArmWatch args = s.answer .outOfRange := by
  unfold State.doArmWatch
  split
  · rename_i i w hi hw
    obtain h | h := h
    · simp [watchOf_of_lt h] at hi
    · simp [h] at hw
  · rfl

theorem State.doArmWatch_armed {w : Fin 8} {x : Watch} (hw : fieldAt args 0 1 = w) (hx : watchArgument args = some x) :
    s.doArmWatch args = (s.setWatch w (some x), { status := .ok, results := watchBytes x }) := by
  rw [State.doArmWatch, hw, watchOf_val, hx]

theorem State.doDisarmWatch_outOfRange (h : 7 < fieldAt args 0 1) :
    s.doDisarmWatch args = s.answer .outOfRange := by
  rw [State.doDisarmWatch, watchOf_of_lt h]

theorem State.doDisarmWatch_disarmed {w : Fin 8} (hw : fieldAt args 0 1 = w) :
    s.doDisarmWatch args = (s.setWatch w none, { status := .ok }) := by
  rw [State.doDisarmWatch, hw, watchOf_val]

end watches

end Sys2Proof.Machine

open Sys2Proof Sys2Proof.Machine

/-- Settles O58: each command is its body, which goes by the range of the arguments and by what its position holds. -/
theorem candidatesAndWatches : Obligations.CandidatesAndWatches := by
  intro s p f
  refine ⟨fun h => ⟨fun hout => ?_, fun i hi hle => ⟨fun hnone => ?_, fun r t hr hc => ?_⟩⟩,
    fun h => ⟨fun hout => ?_, fun i b hi hle hbank hb =>
      ⟨fun hnone => ?_, fun r t hr hc => ⟨fun h0 => ?_, fun h1 => ?_⟩⟩⟩,
    fun h => ⟨fun hout => ?_, fun w x hw hn hclass hmax hlow hhigh hle hall hrep => ?_⟩,
    fun h => ⟨fun hout => ?_, fun w hw => ?_⟩⟩
  · exact exec_managementInstr_body h nofun (State.doApproveCandidate_outOfRange hout)
  · subst hi
    exact exec_managementInstr_body h nofun (State.doApproveCandidate_notFound hle hnone)
  · subst hi
    exact exec_managementInstr_body h nofun (State.doApproveCandidate_candidate hle hr hc)
  · exact exec_managementInstr_body h nofun (State.doDiscardCandidate_outOfRange hout)
  · subst hi hb
    exact exec_managementInstr_body h nofun
      ((State.doDiscardCandidate_inRange hbank hle).trans (if_neg (by rw [holdsCandidate_eq_false hnone]; nofun)))
  · obtain rfl : b = s.active := hb.trans (if_pos h0)
    subst hi
    exact exec_managementInstr_body h nofun (State.doDiscardCandidate_active h0 hle hr hc)
  · obtain rfl : b = s.shadow := hb.trans (if_neg (by omega))
    subst hi
    exact exec_managementInstr_body h nofun (State.doDiscardCandidate_shadow h1 hle hr hc)
  · obtain hw | hfields := hout
    · exact exec_managementInstr_body h nofun (State.doArmWatch_outOfRange (.inl hw))
    · exact exec_managementInstr_body h nofun (State.doArmWatch_outOfRange (.inr (watchArgument_eq_none hfields)))
  · exact exec_managementInstr_body h nofun
      (State.doArmWatch_armed hw (watchArgument_eq_some hn hclass hmax hlow hhigh hle hall hrep))
  · exact exec_managementInstr_body h nofun (State.doDisarmWatch_outOfRange hout)
  · exact exec_managementInstr_body h nofun (State.doDisarmWatch_disarmed hw)
end

section
/-! PROOFS. The queues of the ports and the Notice Queue (O5): what keeps one port good, what keeps the Notice Queue in
its places and order, and that each shared operation, and so each command, keeps both. -/

namespace Sys2Proof.Machine

/-! ## One port (R124, R144, R145, R147 to R149) -/

/-- The queues of a port are within their places and its arbiter within its turns, with nothing forwarded at a link
that is down; what a free transmitter has left to send is not looked at. -/
abbrev PortState.Bounded (q : PortState) (places : Nat) : Prop :=
  q.forwarded.length ≤ Config.forwardedPlaces ∧ q.originate.length ≤ places ∧ q.turns ≤ Config.maxTurns
    ∧ (q.up = false → q.forwarded = [] ∧ q.sending = none)

/-- What `State.PortsGood` asks of one port. -/
structure PortState.GoodAt (q : PortState) (p : Port) : Prop where
  good : q.Good (portPlaces p)
  summaries : p = .line → (q.originate.filter OrigFrame.isSummary).length ≤ 1

theorem State.portsGood_iff (s : State) : s.PortsGood ↔ ∀ p, (s.port p).GoodAt p := by
  constructor
  · rintro ⟨hp, hl, hs⟩ p
    cases p
    · exact ⟨hp, nofun⟩
    · exact ⟨hl, fun _ => hs⟩
  · intro h
    exact ⟨(h .plant).good, (h .line).good, (h .line).summaries rfl⟩

theorem State.setPort_ports {s : State} {p : Port} {x : PortState} (h : s.PortsGood) (hx : x.GoodAt p) :
    (s.setPort p x).PortsGood := by
  obtain ⟨hp, hl, hs⟩ := h
  cases p
  · exact ⟨hx.good, hl, hs⟩
  · exact ⟨hp, hx.good, hx.summaries rfl⟩

theorem PortState.GoodAt.bounded {q : PortState} {p : Port} (h : q.GoodAt p) : q.Bounded (portPlaces p) := by
  obtain ⟨⟨hf, ho, ht, hd, -⟩, -⟩ := h
  exact ⟨hf, ho, ht, hd⟩

/-- A good port whose transmitter is free has nothing queued. -/
theorem PortState.GoodAt.empty_of_free {q : PortState} {p : Port} (h : q.GoodAt p) (hfree : q.isFree = true) :
    q.forwarded = [] ∧ q.originate = [] := by
  obtain ⟨⟨-, -, -, -, hu⟩, -⟩ := h
  obtain ⟨hup, hs⟩ : q.up = true ∧ q.sending = none := by simpa [PortState.isFree] using hfree
  exact hu hup hs

/-- The arbiter takes frames out of the originate queue and puts none in. -/
theorem PortState.arbitrate_sublist (q : PortState) : q.arbitrate.originate.Sublist q.originate := by
  unfold PortState.arbitrate
  split
  · obtain ⟨hc, -⟩ | ⟨_, _, _, -, -, hc⟩ | ⟨_, _, ho, hc⟩ := q.choose_cases
    · simp [hc]
    · simp [hc]
    · simp [hc, ho]
  · exact List.Sublist.refl _

/-- What the arbiter sends leaves a bounded port good: within its turns, and with its transmitter no longer free. -/
theorem PortState.choose_good {q q' : PortState} {places : Nat} (h : q.Bounded places) (hup : q.up = true)
    (hc : q.choose = some q') : q'.Good places := by
  obtain ⟨hf, ho, ht, -⟩ := h
  unfold PortState.choose at hc
  split at hc
  · cases hc
  · cases hc
    simp_all [PortState.Good]
    omega
  · cases hc
    simp_all [PortState.Good]
    omega
  · split at hc <;> cases hc <;> simp_all [PortState.Good] <;> omega

/-- After the arbiter's choice a bounded port is good: what is left queued waits for the frame being sent. -/
theorem PortState.arbitrate_good {q : PortState} {places : Nat} (h : q.Bounded places) :
    q.arbitrate.Good places := by
  cases hfree : q.isFree with
  | true =>
    obtain ⟨hup, hs⟩ : q.up = true ∧ q.sending = none := by simpa [PortState.isFree] using hfree
    rw [PortState.arbitrate, if_pos hfree]
    cases hc : q.choose with
    | some q' => exact PortState.choose_good h hup hc
    | none =>
      obtain ⟨-, ho, hf⟩ | ⟨_, _, _, -, -, hc'⟩ | ⟨_, _, -, hc'⟩ := q.choose_cases
      · obtain ⟨_, _, ht, hd⟩ := h
        simp_all [PortState.Good]
      · simp [hc'] at hc
      · simp [hc'] at hc
  | false =>
    rw [PortState.arbitrate_of_busy hfree]
    obtain ⟨hf, ho, ht, hd⟩ := h
    exact ⟨hf, ho, ht, hd, fun hup hs => by simp [PortState.isFree, hup, hs] at hfree⟩

theorem PortState.arbitrate_goodAt {q : PortState} {p : Port} (h : q.Bounded (portPlaces p))
    (hs : p = .line → (q.originate.filter OrigFrame.isSummary).length ≤ 1) : q.arbitrate.GoodAt p :=
  ⟨PortState.arbitrate_good h,
    fun hp => Nat.le_trans (q.arbitrate_sublist.filter _).length_le (hs hp)⟩

/-- The last byte of a frame has been sent (R145). -/
theorem PortState.finish_goodAt {q : PortState} {p : Port} (h : q.GoodAt p) : q.finish.GoodAt p := by
  unfold PortState.finish
  split
  · obtain ⟨hf, ho, ht, hd⟩ := h.bounded
    exact PortState.arbitrate_goodAt ⟨hf, ho, ht, fun hup => ⟨(hd hup).1, rfl⟩⟩ h.summaries
  · exact h

/-- The link comes up (R149). -/
theorem PortState.linkUp_goodAt {q : PortState} {p : Port} (h : q.GoodAt p) :
    PortState.GoodAt { q with up := true, turns := 0, begun := none }.arbitrate p := by
  obtain ⟨hf, ho, -, -⟩ := h.bounded
  exact PortState.arbitrate_goodAt ⟨hf, ho, Nat.zero_le _, nofun⟩ h.summaries

/-- A forwarded frame takes a free place at a port whose link is up (R144). -/
theorem PortState.placeForwarded_goodAt {q : PortState} {p : Port} (h : q.GoodAt p) (f : Frame) (now : Nat)
    (hup : q.up = true) (hlt : q.forwarded.length < Config.forwardedPlaces) : (q.placeForwarded f now).GoodAt p := by
  obtain ⟨hf, ho, ht, hd⟩ := h.bounded
  have hroom : (q.forwarded ++ [f]).length ≤ Config.forwardedPlaces := by
    rw [List.length_append, List.length_singleton]
    exact hlt
  have hafter : PortState.GoodAt { q with forwarded := q.forwarded ++ [f] }.arbitrate p :=
    PortState.arbitrate_goodAt ⟨hroom, ho, ht, fun hdown => absurd (hup.symm.trans hdown) nofun⟩ h.summaries
  unfold PortState.placeForwarded
  dsimp only
  split
  · exact ⟨hafter.good, hafter.summaries⟩
  · exact hafter

/-- A forwarded frame that is placed leaves the originate queue of a good port as it is. -/
theorem PortState.placeForwarded_originate {q : PortState} {p : Port} (h : q.GoodAt p) (f : Frame) (now : Nat) :
    (q.placeForwarded f now).originate = q.originate := by
  have hsame : PortState.originate { q with forwarded := q.forwarded ++ [f] }.arbitrate = q.originate := by
    cases hfree : q.isFree with
    | true =>
      have hsub := PortState.arbitrate_sublist { q with forwarded := q.forwarded ++ [f] }
      simp only [(h.empty_of_free hfree).2] at hsub ⊢
      exact List.sublist_nil.1 hsub
    | false => rw [PortState.arbitrate_of_busy (by exact hfree)]
  unfold PortState.placeForwarded
  dsimp only
  split <;> exact hsame

/-- An originated frame takes a free place; at the Line port a SUMMARY takes one where no other waits (R147, R148). -/
theorem PortState.placeOriginated_goodAt {q : PortState} {p : Port} (h : q.GoodAt p) (o : OrigFrame) (now : Nat)
    (hlt : q.originate.length < portPlaces p)
    (ho : p = .line → o.isSummary = true → q.originate.filter OrigFrame.isSummary = []) :
    (q.placeOriginated o now).GoodAt p := by
  refine ⟨PortState.placeOriginated_good h.good o now hlt, fun hp => ?_⟩
  refine Nat.le_trans ((PortState.arbitrate_sublist _).filter _).length_le ?_
  rw [List.filter_append]
  cases hk : o.isSummary with
  | true =>
    rw [ho hp hk, List.nil_append]
    exact List.length_filter_le _ [o]
  | false =>
    rw [List.filter_cons_of_neg (by rw [hk]; nofun), List.filter_nil, List.append_nil]
    exact h.summaries hp

/-- The port after a reset, and after a warm restart, has nothing queued (R150). -/
theorem PortState.reset_goodAt (p : Port) : PortState.reset.GoodAt p := by
  cases p <;> exact ⟨by decide, by decide⟩

theorem PortState.restart_goodAt (q : PortState) (p : Port) : q.restart.GoodAt p :=
  ⟨by simp [PortState.Good, PortState.restart, PortState.reset], by simp [PortState.restart, PortState.reset]⟩

/-- Where the SUMMARYs are removed none waits. -/
theorem filter_isSummary_removed (os : List OrigFrame) :
    (os.filter (fun o => !o.isSummary)).filter OrigFrame.isSummary = [] := by
  refine List.filter_eq_nil_iff.2 fun o ho hk => ?_
  have hnot := (List.mem_filter.1 ho).2
  rw [hk] at hnot
  cases hnot

/-- A SUMMARY that waits is taken out of the Line originate queue (R124, R130). -/
theorem PortState.withoutSummary_goodAt {q : PortState} (h : q.GoodAt .line) {turns : Nat} (ht : turns ≤ q.turns) :
    PortState.GoodAt { q with originate := q.originate.filter (fun o => !o.isSummary), turns := turns } .line := by
  obtain ⟨⟨hf, ho, hq, hd, hu⟩, -⟩ := h
  refine ⟨⟨hf, Nat.le_trans (List.length_filter_le ..) ho, Nat.le_trans ht hq, hd, fun hup hs => ?_⟩, fun _ => ?_⟩
  · obtain ⟨hfwd, horig⟩ := hu hup hs
    exact ⟨hfwd, by rw [horig]; rfl⟩
  · dsimp only
    rw [filter_isSummary_removed]
    exact Nat.zero_le 1

/-! ## The Notice Queue (R138 to R141) -/

/-- What `State.NoticesGood` asks of the Notice Queue, but for the moves that may be due. -/
abbrev State.NoticesHeld (s : State) : Prop :=
  s.notices.length ≤ Config.noticePlaces ∧ s.notices.Pairwise (fun a b => b.isWatch = true → a.isWatch = true)
    ∧ s.dropped ≤ 255 ∧ (s.destination = 0#48 → s.notices = [])

theorem State.NoticesGood.held {s : State} (h : s.NoticesGood) : s.NoticesHeld := by
  obtain ⟨hl, hp, hd, hz, -⟩ := h
  exact ⟨hl, hp, hd, hz⟩

/-- A notice waits behind a full Plant originate queue alone, so with a free place the Notice Queue is empty. -/
theorem State.NoticesGood.empty {s : State} (h : s.NoticesGood) (hlt : s.plant.originate.length < Config.plantPlaces) :
    s.notices = [] := by
  obtain ⟨-, -, -, -, hfull⟩ := h
  exact Decidable.byContradiction fun hne => absurd (hfull hne) (Nat.not_le.2 hlt)

theorem saturateDropped_le {k n : Nat} (h : n ≤ 255) : saturateDropped k n ≤ 255 := by
  unfold saturateDropped
  split <;> omega

@[simp] theorem placeNotice_length (q : List Notice) (n : Notice) : (placeNotice q n).length = q.length + 1 := by
  unfold placeNotice
  split
  · have h := congrArg List.length (q.takeWhile_append_dropWhile (p := Notice.isWatch))
    simp only [List.length_append, List.length_cons] at h ⊢
    omega
  · simp

/-- A notice is placed where it keeps every watch notice before every routine notice (R139). -/
theorem placeNotice_pairwise {q : List Notice} (h : q.Pairwise (fun a b => b.isWatch = true → a.isWatch = true))
    (n : Notice) : (placeNotice q n).Pairwise (fun a b => b.isWatch = true → a.isWatch = true) := by
  unfold placeNotice
  split
  · obtain ⟨htake, hdrop⟩ := watchRun_eq_filter q h
    rw [htake, hdrop, List.pairwise_append, List.pairwise_cons]
    refine ⟨h.filter _, ⟨fun _ _ _ => ‹_›, h.filter _⟩, fun a ha _ _ _ => (List.mem_filter.1 ha).2⟩
  · rename_i hn
    rw [List.pairwise_append]
    exact ⟨h, List.pairwise_singleton _ _, fun a _ b hb hw => by simp_all⟩

/-- A notice taken into the Notice Queue while there is a destination (R139, R140). -/
theorem State.queueNotice_held {s : State} (h : s.NoticesHeld) (hz : s.destination ≠ 0#48) (n : Notice) :
    (s.queueNotice n).NoticesHeld := by
  obtain ⟨hl, hp, hd, -⟩ := h
  unfold State.queueNotice
  split
  · rename_i hlt
    exact ⟨by rw [placeNotice_length]; exact hlt, placeNotice_pairwise hp n, hd, fun h => absurd h hz⟩
  · split
    · rename_i hfull _
      refine ⟨?_, placeNotice_pairwise (hp.sublist (List.dropLast_sublist _)) n, saturateDropped_le hd,
        fun h => absurd h hz⟩
      simp only [placeNotice_length, List.length_dropLast, Config.noticePlaces] at hl hfull ⊢
      omega
    · exact ⟨hl, hp, saturateDropped_le hd, fun h => absurd h hz⟩

theorem State.moveNotice_held {s : State} (h : s.NoticesHeld) : s.moveNotice.NoticesHeld := by
  cases hn : s.notices with
  | nil =>
    have hsame : s.moveNotice = s := by simp [State.moveNotice, hn]
    rw [hsame]
    exact h
  | cons n rest =>
    obtain ⟨hl, hp, -, hz⟩ := h
    rw [hn] at hl hp hz
    rw [s.moveNotice_of_cons hn]
    exact ⟨Nat.le_of_succ_le hl, (List.pairwise_cons.1 hp).2, Nat.zero_le _, fun h => absurd (hz h) nofun⟩

/-- Once the moves that are due are made the Notice Queue is good (R141). -/
theorem State.settleNotices_notices {s : State} (h : s.NoticesHeld) : s.settleNotices.NoticesGood := by
  obtain ⟨hl, hp, hd, hz⟩ := (State.settleNotices_keeps (P := State.NoticesHeld)
    (fun _ _ => State.moveNotice_held) h).1
  exact ⟨hl, hp, hd, hz, s.settleNotices_settled⟩

theorem State.post_notices {s : State} (h : s.NoticesGood) (n : Notice) : (s.post n).NoticesGood := by
  unfold State.post
  split
  · exact h
  · exact State.settleNotices_notices (State.queueNotice_held h.held ‹_› n)


/-! ## What every effect keeps of the queues -/

/-- From `s` to `t` the ports stay good, and where they are good the Notice Queue does. -/
structure State.KeepsQueues (s t : State) : Prop where
  ports : s.PortsGood → t.PortsGood
  notices : s.PortsGood → s.NoticesGood → t.NoticesGood

/-- All that the ports and the Notice Queue being good speaks of. -/
def State.queues (s : State) : PortState × PortState × List Notice × Nat × Addr :=
  (s.plant, s.line, s.notices, s.dropped, s.destination)

/-- A removal never raises the turns waited (R145). -/
theorem turnsAfterRemoval_le (b : Bool) (k : Nat) : turnsAfterRemoval b k ≤ k := by
  unfold turnsAfterRemoval
  split <;> omega

namespace State.KeepsQueues
variable {s t u : State}

theorem refl (s : State) : s.KeepsQueues s := ⟨id, fun _ => id⟩

theorem trans (h : s.KeepsQueues t) (h' : t.KeepsQueues u) : s.KeepsQueues u :=
  ⟨h'.ports ∘ h.ports, fun hp hn => h'.notices (h.ports hp) (h.notices hp hn)⟩

/-- What reaches neither the ports nor the Notice Queue keeps them. -/
theorem same (h : s.KeepsQueues t) (hu : u.queues = t.queues) : s.KeepsQueues u := by
  simp only [State.queues, Prod.mk.injEq] at hu
  obtain ⟨hp, hl, hn, hd, hz⟩ := hu
  refine h.trans ⟨fun hg => ?_, fun _ hg => ?_⟩
  · rw [State.PortsGood, hp, hl]
    exact hg
  · rw [State.NoticesGood, hp, hn, hd, hz]
    exact hg

theorem ite {c : Prop} [Decidable c] (h : c → s.KeepsQueues t) : s.KeepsQueues (if c then t else s) := by
  split
  · exact h ‹_›
  · exact .refl s

/-- A fold over effects that each keep the queues keeps them. -/
theorem foldl {α : Type} {f : State → α → State} (hf : ∀ (t : State) a, t.KeepsQueues (f t a)) (l : List α)
    (h : s.KeepsQueues t) : s.KeepsQueues (l.foldl f t) := by
  induction l generalizing t with
  | nil => exact h
  | cons a l ih => exact ih (h.trans (hf t a))

/-- A change of one port keeps the queues where the Plant originate queue stays full behind a notice that waits. -/
theorem setPort (h : s.KeepsQueues t) {p : Port} {x : PortState} (hx : t.PortsGood → x.GoodAt p)
    (hn : p = .plant → t.PortsGood → t.NoticesGood → t.notices ≠ [] → Config.plantPlaces ≤ x.originate.length) :
    s.KeepsQueues (t.setPort p x) := by
  refine h.trans ⟨fun hg => State.setPort_ports hg (hx hg), fun hg hgood => ?_⟩
  obtain ⟨hl, hq, hd, hz⟩ := hgood.held
  cases p with
  | plant => exact ⟨hl, hq, hd, hz, hn rfl hg hgood⟩
  | line => exact hgood

/-- A change of one port, followed by the moves of notices that it makes possible, keeps the queues. -/
theorem setPort_offerPlaces (h : s.KeepsQueues t) {p : Port} {x : PortState} (hx : t.PortsGood → x.GoodAt p) :
    s.KeepsQueues ((t.setPort p x).offerPlaces p) := by
  cases p with
  | plant =>
    exact h.trans ⟨fun hg => State.settleNotices_ports (State.setPort_ports hg (hx hg)),
      fun _ hgood => State.settleNotices_notices hgood.held⟩
  | line => exact h.setPort hx nofun

theorem post (h : s.KeepsQueues t) (n : Notice) : s.KeepsQueues (t.post n) :=
  h.trans ⟨fun hg => State.post_ports hg n, fun _ hg => State.post_notices hg n⟩

/-- A frame that goes across is placed at a port that has room for it, or counted. -/
theorem forward (h : s.KeepsQueues t) (p : Port) (f : Frame) : s.KeepsQueues (t.forward p f) := by
  unfold State.forward
  dsimp only
  split
  · exact h.same rfl
  · rename_i hup
    split
    · rename_i hlt
      have hgood : t.PortsGood → (t.port p).GoodAt p := fun hg => t.portsGood_iff.1 hg p
      refine h.setPort (fun hg => PortState.placeForwarded_goodAt (hgood hg) f _ (by simpa using hup) hlt) ?_
      rintro rfl hg ⟨-, -, -, -, hfull⟩ hne
      rw [PortState.placeForwarded_originate (hgood hg)]
      exact hfull hne
    · exact h.same rfl

/-- An originated frame takes a place while no notice waits for it, or is counted; a SUMMARY takes one at the Line port
where no other waits. -/
theorem originate (h : s.KeepsQueues t) (p : Port) (o : OrigFrame)
    (ho : p = .line → o.isSummary = true → t.line.originate.filter OrigFrame.isSummary = []) :
    s.KeepsQueues (t.originate p o) := by
  unfold State.originate
  dsimp only
  split
  · rename_i hlt
    refine h.setPort (fun hg => PortState.placeOriginated_goodAt (t.portsGood_iff.1 hg p) o _ hlt ?_) ?_
    · rintro rfl
      exact ho rfl
    · rintro rfl _ hgood hne
      exact absurd (hgood.empty hlt) hne
  · exact h.same rfl

theorem originate_plant (h : s.KeepsQueues t) (o : OrigFrame) : s.KeepsQueues (t.originate .plant o) :=
  h.originate .plant o nofun

/-- A SUMMARY that waits is removed; none waits then. -/
theorem removeSummary (h : s.KeepsQueues t) : s.KeepsQueues t.removeSummary := by
  refine h.setPort (p := .line) (fun hg => ?_) nofun
  exact PortState.withoutSummary_goodAt (t.portsGood_iff.1 hg .line) (turnsAfterRemoval_le _ _)

/-! ### The Notice and Watch Units -/

theorem countRefusal (h : s.KeepsQueues t) (n : Fin 32) : s.KeepsQueues (t.countRefusal n) := h.same rfl

theorem refuse (h : s.KeepsQueues t) (n : Option (Fin 32)) (o : Operation) (f : Frame) (r : Reason) :
    s.KeepsQueues (t.refuse n o f r) := by
  cases n with
  | none => exact (h.originate_plant _).post _
  | some n => exact ((h.originate_plant _).countRefusal n).post _

theorem offer (h : s.KeepsQueues t) (n : Fin 32) (o : Operation) (f : Frame) (e : Ending) :
    s.KeepsQueues (t.offer n o f e) := by
  refine foldl (fun t w => ?_) _ h
  unfold State.offerTo
  dsimp only
  split
  · exact .refl t
  · refine .ite fun _ => .post (.same (.refl t) ?_) _
    split <;> rfl

/-! ### Windows and slots -/

theorem abort (h : s.KeepsQueues t) (k : Fin 8) (b : Bool) (r : Option Reason) (v : Option Quad) :
    s.KeepsQueues (t.abort k b r v) := by
  unfold State.abort
  split
  · exact h
  · have hend : s.KeepsQueues (t.endSlot k) := h.same (by simp [State.queues])
    refine .post ?_ _
    split
    · exact hend.originate .line _ nofun
    · exact hend

theorem abortOwned (h : s.KeepsQueues t) (w : Window) (r : Reason) : s.KeepsQueues (t.abortOwned w r) := by
  unfold State.abortOwned
  split
  · exact h.abort _ _ _ _
  · exact h

theorem setWindow (h : s.KeepsQueues t) (n : Fin 32) (w : Window) : s.KeepsQueues (t.setWindow n w) :=
  h.same (by simp [State.queues])

theorem setQuiet (h : s.KeepsQueues t) (n : Fin 32) (q : Option QuietRun) : s.KeepsQueues (t.setQuiet n q) :=
  h.same (by simp [State.queues])

theorem updateController (h : s.KeepsQueues t) (n : Fin 32) (f : Controller → Controller) :
    s.KeepsQueues (t.updateController n f) :=
  h.same (by simp [State.queues])

theorem setSlot (h : s.KeepsQueues t) (k : Fin 8) (x : Slot) : s.KeepsQueues (t.setSlot k x) := h.same rfl

/-- A window goes to a state and its notice is posted. -/
theorem setWindow_post (h : s.KeepsQueues t) (n : Fin 32) (w : Window) (x : Notice) :
    s.KeepsQueues ((t.setWindow n w).post x) := (h.setWindow n w).post x

theorem closeNow (h : s.KeepsQueues t) (n : Fin 32) (w : Window) (c : WindowCause) :
    s.KeepsQueues (t.closeNow n w c) := (h.abortOwned w .locked).setWindow_post n .locked _

theorem settle (h : s.KeepsQueues t) (n : Fin 32) (m : WindowMode) (l : Nat) : s.KeepsQueues (t.settle n m l) :=
  ((h.setWindow n _).updateController n _).post _

theorem runAfterCommit (h : s.KeepsQueues t) (n : Fin 32) (m : WindowMode) (d : Option Nat) (k : Fin 8)
    (c : Option CloseCause) : s.KeepsQueues (t.runAfterCommit n m d k c) := by
  unfold State.runAfterCommit
  split
  · exact h
  · exact h.setWindow_post n _ _

theorem observe (h : s.KeepsQueues t) (n : Fin 32) (o : Observation) : s.KeepsQueues (t.observe n o) := by
  unfold State.observe
  split
  · exact h
  · split
    · unfold State.observeQuiet
      dsimp only
      split
      · exact h.settle n _ _
      · exact h.setQuiet n _
    · exact h
    · exact h.setQuiet n none
    · exact h.closeNow n _ _
    · exact h.closeNow n _ _
    · exact h.closeNow n _ _
    · exact h.runAfterCommit n _ _ _ _
    · exact h
    · exact h

theorem monitorObserves (h : s.KeepsQueues t) (n : Fin 32) (o : Observation) (b : Bool) :
    s.KeepsQueues (t.monitorObserves n o b) := (h.updateController n _).observe n o

theorem endTransfer (h : s.KeepsQueues t) (n : Fin 32) (m : WindowMode) (d : Option Nat) (c : Option CloseCause)
    (b : Bool) : s.KeepsQueues (t.endTransfer n m d c b) := by
  unfold State.endTransfer
  split
  · exact h.setWindow n _
  · exact h.setWindow_post n _ _
  · split
    · exact h.setWindow_post n _ _
    · exact h.setWindow n _
  · exact h.setWindow_post n _ _

theorem transferEnded (h : s.KeepsQueues t) (n : Fin 32) (b : Bool) : s.KeepsQueues (t.transferEnded n b) := by
  unfold State.transferEnded
  split
  · exact h.endTransfer n _ _ _ b
  · exact h.endTransfer n _ _ _ b
  · exact h.endTransfer n _ _ _ b
  · exact h

theorem enterQuarantine (h : s.KeepsQueues t) (n : Fin 32) (c : QuarantineCause) :
    s.KeepsQueues (t.enterQuarantine n c) := by
  unfold State.enterQuarantine
  split
  · exact h
  · exact h
  · exact (h.abortOwned _ .quarantine).setWindow_post n _ _

theorem reportMismatch (h : s.KeepsQueues t) (n : Fin 32) : s.KeepsQueues (t.reportMismatch n) := by
  unfold State.reportMismatch
  split
  · split
    · have hcount : ∀ f, s.KeepsQueues ((t.countMismatch n).updateController n f) :=
        fun f => h.same (by simp [State.queues])
      dsimp only
      split
      · exact (hcount _).enterQuarantine n _
      · exact (hcount _).transferEnded n false
    · exact h
  · exact h

theorem linkLossWindow (h : s.KeepsQueues t) (n : Fin 32) : s.KeepsQueues (t.linkLossWindow n) := by
  unfold State.linkLossWindow
  split
  · exact h
  · exact h
  · exact h
  · exact h.setWindow n _
  · exact h.setWindow n _
  · exact h.setWindow_post n _ _

theorem closeOrPend (h : s.KeepsQueues t) (n : Fin 32) (w : Window) (c : CloseCause) (g : Option Nat → Option Nat) :
    s.KeepsQueues (t.closeOrPend n w c g) := by
  unfold State.closeOrPend
  split
  · exact h
  · exact h
  · exact h.setWindow n _
  · exact h.setWindow n _
  · exact h.closeNow n _ _
  · exact h.closeNow n _ _
  · exact h.closeNow n _ _

/-! ### Transfers -/

theorem compareImage (h : s.KeepsQueues t) (x : Transfer) (r : ImageRecord) (n : Nat) (f : Quad) :
    s.KeepsQueues (t.compareImage x r n f).1 := by
  unfold State.compareImage
  split
  · exact h
  · exact h.post _

theorem setImage (h : s.KeepsQueues t) (i : Nat) (r : Option ImageRecord) : s.KeepsQueues (t.setImage i r) :=
  h.same rfl

theorem decideImage (h : s.KeepsQueues t) (x : Transfer) (n : Nat) (f : Quad) :
    s.KeepsQueues (t.decideImage x n f).1 := by
  unfold State.decideImage
  split
  · exact h
  · split
    · exact h.compareImage x _ n f
    · exact h
  · split
    · exact h.compareImage x _ n f
    · unfold State.learnImage
      split
      · exact (h.setImage _ _).post _
      · exact h

theorem startTransfer (h : s.KeepsQueues t) (n : Fin 32) (k : Fin 8) (f : Frame) (c : ImageCheck) :
    s.KeepsQueues (t.startTransfer n k f c) := by
  have hstarted : ∀ x, s.KeepsQueues ((t.setSlot k x).transferStarted n k) :=
    fun x => h.same (by simp [State.queues])
  exact .same ((hstarted _).forward .line f) rfl

theorem releaseCommit (h : s.KeepsQueues t) (k : Fin 8) (x : Transfer) (held : Frame) (f : Quad) :
    s.KeepsQueues (t.releaseCommit k x held f) := by
  refine .post (.same (h.forward .line held) ?_) _
  simp [State.queues]

theorem refuseHeld (h : s.KeepsQueues t) (k : Fin 8) (x : Transfer) (held : Frame) (r : Reason) :
    s.KeepsQueues (t.refuseHeld k x held r) := (h.refuse _ _ _ _).abort _ _ _ _

theorem completeVerifying (h : s.KeepsQueues t) (k : Fin 8) : s.KeepsQueues (t.completeVerifying k) := by
  unfold State.completeVerifying
  split
  · rename_i x sums held _
    have hd := h.decideImage x sums.i (fingerprint sums sums.i)
    dsimp only
    split <;> rename_i hdecided <;> rw [hdecided] at hd
    · exact hd.releaseCommit k x held _
    · exact (hd.refuseHeld k x held _).reportMismatch _
    · exact (hd.refuseHeld k x held _).transferEnded _ _
  · exact h

theorem finishLane (h : s.KeepsQueues t) (l : Fin 2) : s.KeepsQueues (t.finishLane l) := by
  unfold State.finishLane
  split
  · rename_i w _
    have hidle : s.KeepsQueues (t.setLane l none) := h.same rfl
    refine .same (t := (t.setLane l none).laneReports w) ?_ (by simp [State.queues])
    unfold State.laneReports
    dsimp only
    split
    · exact hidle.setSlot _ _
    · exact (hidle.setSlot _ _).completeVerifying _
    · exact hidle.setSlot _ _
    · exact hidle
    · exact hidle
  · exact h

theorem refuseAndAbort (h : s.KeepsQueues t) (n : Fin 32) (k : Fin 8) (o : Operation) (f : Frame) (r : Reason) :
    s.KeepsQueues (t.refuseAndAbort n k o f r) := ((h.refuse _ o f r).abort k _ _ _).transferEnded n false

theorem newSegment (h : s.KeepsQueues t) (n : Fin 32) (k : Fin 8) (x : Transfer) (z : Sums) (p : Nat) (q : Intake)
    (f : Frame) : s.KeepsQueues (t.newSegment n k x z p q f).1 := by
  unfold State.newSegment
  dsimp only
  split
  · exact h.refuseAndAbort n k _ f _
  · split
    · exact h.same rfl
    · exact (h.forward .line f).same (by simp [State.queues])

theorem segmentAt (h : s.KeepsQueues t) (n : Fin 32) (k : Fin 8) (f : Frame) :
    s.KeepsQueues (t.segmentAt n k f).1 := by
  unfold State.segmentAt
  split
  · unfold State.sequenceSegment
    dsimp only
    split
    · exact h.newSegment n k _ _ _ _ f
    · split
      · exact (h.forward .line f).setSlot k _
      · exact h.refuseAndAbort n k _ f _
  · exact h.refuse (some n) .segment f .sequence

theorem commitAt (h : s.KeepsQueues t) (n : Fin 32) (k : Fin 8) (f : Frame) : s.KeepsQueues (t.commitAt n k f).1 := by
  unfold State.commitAt
  split
  · rename_i x sums pending _ _
    split
    · have hheld : s.KeepsQueues ((t.setSlot k (.verifying x sums pending f)).commitHeld n) :=
        h.same (by simp [State.queues])
      dsimp only
      split
      · exact hheld.completeVerifying k
      · exact hheld
    · exact h.refuseAndAbort n k _ f _
  · exact h
  · exact h.forward .line f

theorem abandonAt (h : s.KeepsQueues t) (n : Fin 32) (k : Fin 8) (f : Frame) :
    s.KeepsQueues (t.abandonAt n k f).1 := by
  unfold State.abandonAt
  split
  · exact ((h.forward .line f).abort k _ _ _).transferEnded n false
  · exact h.forward .line f

theorem takeBeginResponse (h : s.KeepsQueues t) (n : Fin 32) (k : Fin 8) (v : Nat) :
    s.KeepsQueues (t.takeBeginResponse n k v) := by
  unfold State.takeBeginResponse
  split
  · split
    · exact h.setSlot k _
    · exact h
  · exact (h.abort k _ _ _).transferEnded n false

theorem endReleased (h : s.KeepsQueues t) (k : Fin 8) (x : Option (NoticeKind × Option Quad)) :
    s.KeepsQueues (t.endReleased k x) := by
  unfold State.endReleased
  split
  · refine transferEnded ?_ _ true
    split
    · exact (h.setSlot k .free).post _
    · exact h.setSlot k .free
  · exact h

theorem takeCommitResponse (h : s.KeepsQueues t) (k : Fin 8) (v : Nat) : s.KeepsQueues (t.takeCommitResponse k v) := by
  unfold State.takeCommitResponse
  split
  · exact h.endReleased k none
  · exact h.endReleased k _

theorem timeoutSlot (h : s.KeepsQueues t) (k : Fin 8) : s.KeepsQueues (t.timeoutSlot k) := by
  unfold State.timeoutSlot
  split
  · exact (h.abort k _ _ _).transferEnded _ false
  · exact h

theorem linkLossSlot (h : s.KeepsQueues t) (k : Fin 8) : s.KeepsQueues (t.linkLossSlot k) := by
  have hend : s.KeepsQueues (t.endSlot k) := h.same (by simp [State.queues])
  unfold State.linkLossSlot
  split
  · exact hend
  · exact hend
  · exact hend.post _
  · exact h
  · exact h

/-! ### The Drift Scanner -/

theorem postponeScan (h : s.KeepsQueues t) (n : Fin 32) : s.KeepsQueues (t.postponeScan n) := by
  have hmoved : ∀ f, s.KeepsQueues (t.updateSchedule n f) := fun f => h.same (by simp [State.queues])
  unfold State.postponeScan
  split
  · exact h
  · dsimp only
    split
    · exact (hmoved _).post _
    · exact hmoved _

theorem sendSummary (h : s.KeepsQueues t) (n : Fin 32) (v p a : Nat) (r : ImageRecord) :
    s.KeepsQueues (t.sendSummary n v p a r) := by
  exact .same (h.removeSummary.originate .line _ fun _ _ => filter_isSummary_removed _) rfl

theorem endRound (h : s.KeepsQueues t) (n : Fin 32) (v : Nat) (b : Bool) : s.KeepsQueues (t.endRound n v b) :=
  h.same (by simp [State.queues])

theorem continueRound (h : s.KeepsQueues t) (n : Fin 32) (v l : Nat) : s.KeepsQueues (t.continueRound n v l) := by
  unfold State.continueRound
  split
  · exact h.sendSummary n v _ 1 _
  · exact h.endRound n v true

theorem scheduleCheck (h : s.KeepsQueues t) : s.KeepsQueues t.scheduleCheck := by
  refine foldl (fun t n => ?_) _ h
  unfold State.checkController
  split
  · exact .refl t
  · split
    · exact (refl t).continueRound n _ _
    · exact (refl t).postponeScan n

theorem cancelRound (h : s.KeepsQueues t) : s.KeepsQueues t.cancelRound := by
  unfold State.cancelRound
  split
  · exact (h.removeSummary.same (u := { t.removeSummary with round := none }) rfl).postponeScan _
  · exact h

theorem cancelRoundOf (h : s.KeepsQueues t) (n : Fin 32) : s.KeepsQueues (t.cancelRoundOf n) := by
  unfold State.cancelRoundOf
  split
  · exact h.cancelRound.scheduleCheck
  · exact h

theorem drift (h : s.KeepsQueues t) (r : Round) (i : ImageRecord) (x : Option Reason) (a b : Quad) :
    s.KeepsQueues (t.drift r i x a b) := (((h.post _).endRound _ _ false).enterQuarantine _ .drift).scheduleCheck

theorem miss (h : s.KeepsQueues t) (r : Round) (i : ImageRecord) (v : Option Nat) : s.KeepsQueues (t.miss r i v) := by
  unfold State.miss
  split
  · exact h.sendSummary _ _ _ 2 i
  · exact ((h.post _).endRound _ _ false).scheduleCheck

theorem judgeSummary (h : s.KeepsQueues t) (r : Round) (i : ImageRecord) (f : Frame) :
    s.KeepsQueues (t.judgeSummary r i f) := by
  unfold State.judgeSummary
  dsimp only
  split
  · split
    · have hnext := h.continueRound r.controller r.start (r.position + 1)
      split
      · exact hnext.scheduleCheck
      · exact hnext
    · split
      · exact h.drift r i _ _ _
      · exact h.drift r i _ _ _
  · split
    · exact h.drift r i _ _ _
    · exact h.miss r i _

theorem takeSummaryResponse (h : s.KeepsQueues t) (f : Frame) : s.KeepsQueues (t.takeSummaryResponse f) := by
  unfold State.takeSummaryResponse
  split
  · exact h
  · split
    · split
      · exact h.judgeSummary _ _ f
      · exact h
    · exact h

theorem scanTimeout (h : s.KeepsQueues t) : s.KeepsQueues t.scanTimeout := by
  unfold State.scanTimeout
  split
  · exact h
  · split
    · exact h.miss _ _ none
    · exact (h.endRound _ _ true).scheduleCheck


/-! ### Requests -/

theorem refuseAndOffer (h : s.KeepsQueues t) (n : Fin 32) (o : Operation) (f : Frame) (r : Reason) :
    s.KeepsQueues (t.refuseAndOffer n o f r) := (h.refuse (some n) o f r).offer n o f _

theorem passRead (h : s.KeepsQueues t) (n : Fin 32) (o : Operation) (f : Frame) : s.KeepsQueues (t.passRead n o f) :=
  (h.forward .line f).offer n o f .pass

theorem admitSingle (h : s.KeepsQueues t) (n : Fin 32) (o : Operation) (f : Frame) :
    s.KeepsQueues (t.admitSingle n o f) := by
  unfold State.admitSingle
  split
  · exact ((h.forward .line f).same (u := (t.forward .line f).countAdmitted n) rfl).offer n o f .pass
  · exact h.refuseAndOffer n o f _
  · exact h

theorem admitBegin (h : s.KeepsQueues t) (n : Fin 32) (f : Frame) : s.KeepsQueues (t.admitBegin n f) := by
  unfold State.admitBegin
  dsimp only
  split
  · exact h.refuseAndOffer n .begins f _
  · exact h
  · split
    · exact h.refuseAndOffer n .begins f _
    · exact (h.startTransfer n _ f _).offer n .begins f .start

theorem handToTracker (h : s.KeepsQueues t) (n : Fin 32) (o : Operation) (f : Frame)
    {tracker : State → Fin 8 → State × Ending} (ht : ∀ k, s.KeepsQueues (tracker t k).1) :
    s.KeepsQueues (t.handToTracker n o f tracker) := by
  unfold State.handToTracker
  split
  · exact h.refuseAndOffer n o f _
  · exact (ht _).offer n o f _

theorem requestEffect (h : s.KeepsQueues t) (o : Operation) (n : Fin 32) (f : Frame) :
    s.KeepsQueues (t.requestEffect o n f) := by
  cases o with
  | read => exact h.passRead n .read f
  | summary => exact h.passRead n .summary f
  | setParam => exact h.admitSingle n .setParam f
  | mode => exact h.admitSingle n .mode f
  | force => exact h.admitSingle n .force f
  | begins => exact h.admitBegin n f
  | segment => exact h.handToTracker n .segment f (tracker := fun t k => t.segmentAt n k f) fun k => h.segmentAt n k f
  | commit => exact h.handToTracker n .commit f (tracker := fun t k => t.commitAt n k f) fun k => h.commitAt n k f
  | abandon => exact h.handToTracker n .abandon f (tracker := fun t k => t.abandonAt n k f) fun k => h.abandonAt n k f

theorem takeRequest (s : State) (o : Operation) (f : Frame) :
    s.KeepsQueues (s.takeRequest o f fun s n => s.requestEffect o n f) := by
  refine .ite fun _ => ?_
  split
  · exact ((refl s).same (u := s.countMalformed) rfl).post _
  · split
    · unfold State.closedRequest
      split
      · exact (refl s).refuse none o f .closed
      · exact (refl s).forward .line f
    · split
      · exact (refl s).requestEffect o _ f
      · exact .refl s

/-! ### Links, restarts, the store and power -/

/-- A Line link loss at the other blocks. -/
theorem lineLinkLoss (h : s.KeepsQueues t) : s.KeepsQueues t.lineLinkLoss := by
  have hslots := foldl (fun t k => (refl t).linkLossSlot k) (List.finRange 8) h
  have hwindows := foldl (fun t n => (refl t).linkLossWindow n) (List.finRange 32) hslots
  unfold State.lineLinkLoss
  dsimp only
  split
  · exact hwindows.cancelRound.scheduleCheck
  · exact hwindows

/-- A port that loses its link is as after a reset; at the Plant port the freed places are then offered. -/
theorem dropPort_line (s : State) : s.KeepsQueues (s.dropPort .line) :=
  ((refl s).setPort (p := .line) (fun _ => PortState.reset_goodAt _) nofun).same rfl

theorem dropPort_plant (s : State) : s.KeepsQueues ((s.dropPort .plant).offerPlaces .plant) := by
  refine ⟨fun ⟨_, hl, hs⟩ => State.settleNotices_ports ⟨(PortState.reset_goodAt .plant).good, hl, hs⟩,
    fun _ hgood => State.settleNotices_notices ?_⟩
  obtain ⟨hl, hq, hd, hz⟩ := hgood.held
  exact ⟨hl, hq, saturateDropped_le hd, hz⟩

/-- With good ports and nothing left in the Notice Unit, whatever was there before. -/
theorem cleared (hp : t.plant.GoodAt .plant) (hl : t.line.GoodAt .line) (hn : t.notices = []) (hd : t.dropped = 0) :
    s.KeepsQueues t :=
  ⟨fun _ => ⟨hp.good, hl.good, hl.summaries rfl⟩, fun _ _ => by simp [State.NoticesGood, hn, hd]⟩

theorem warmRestart (s : State) : s.KeepsQueues s.warmRestart := by
  have hblocks : s.KeepsQueues s.restartBlocks :=
    cleared (PortState.restart_goodAt _ _) (PortState.restart_goodAt _ _) rfl rfl
  unfold State.warmRestart
  split
  · exact hblocks.scheduleCheck
  · exact hblocks

theorem warmRestarts (h : s.KeepsQueues t) (k : Nat) : s.KeepsQueues (t.warmRestarts k) := by
  induction k generalizing t with
  | zero => exact h
  | succ k ih => exact ih (h.trans (warmRestart t))

theorem takeDueRestart (h : s.KeepsQueues t) : s.KeepsQueues t.takeDueRestart := by
  unfold State.takeDueRestart
  split
  · exact h.warmRestarts _
  · exact h

theorem endWrite (h : s.KeepsQueues t) (success : Bool) : s.KeepsQueues (t.endWrite success) := by
  obtain hw | ⟨i, -, hw⟩ | ⟨n, hw⟩ := t.endWrite_cases success <;> rw [hw]
  · exact h
  · exact h.same rfl
  · exact .post (t := { t with stored := none, writing := none }) (h.same rfl) n

theorem losePower (s : State) : s.KeepsQueues s.losePower :=
  cleared (PortState.reset_goodAt _) (PortState.reset_goodAt _) rfl rfl

theorem powerOn (s : State) : s.KeepsQueues s.powerOn := by
  obtain h | ⟨i, m, -, h⟩ := s.powerOn_cases <;> rw [h]
  · exact (losePower s).same rfl
  · exact cleared (PortState.reset_goodAt _) (PortState.reset_goodAt _) rfl rfl

/-! ### Management commands -/

theorem reply (h : s.KeepsQueues t) (f : Frame) (k : OrigKind) (r : Reply) : s.KeepsQueues (t.reply f k r) :=
  h.originate_plant _

theorem forController {args : List Byte} {body : Fin 32 → Controller → State × Reply}
    (h : ∀ n c, s.KeepsQueues (body n c).1) : s.KeepsQueues (s.forController args body).1 := by
  unfold State.forController
  split
  · exact .refl s
  · split
    · exact .refl s
    · exact h _ _

theorem beginWriteOutside (h : s.KeepsQueues t) : s.KeepsQueues t.beginWriteOutside := by
  obtain ⟨w, hw, -⟩ := t.beginWriteOutside_shape
  rw [hw]
  exact h.same rfl

theorem doReadCounters (s : State) (args : List Byte) : s.KeepsQueues (s.doReadCounters args).1 := by
  unfold State.doReadCounters
  split
  · exact .refl s
  · split
    · exact .ite fun _ => .same (.refl s) rfl
    · split
      · exact .refl s
      · exact .ite fun _ => .same (.refl s) rfl

theorem doLoadRecord (s : State) (args : List Byte) : s.KeepsQueues (s.doLoadRecord args).1 := by
  unfold State.doLoadRecord
  split
  · split
    · split
      · exact .same (.refl s) rfl
      · exact .refl s
    · exact .refl s
  · exact .refl s

theorem cancelForSelection (s : State) (b : Bank) : s.KeepsQueues (s.cancelForSelection b) := by
  unfold State.cancelForSelection
  split
  · exact .refl s
  · have hidle : s.KeepsQueues { s.removeSummary with round := none } := (refl s).removeSummary.same rfl
    dsimp only
    split
    · exact hidle.postponeScan _
    · exact hidle

theorem makeSelection (s : State) : s.KeepsQueues s.makeSelection :=
  .same (.post (.same (cancelForSelection s s.shadow) (by exact rfl)) _) rfl

theorem doSelectBank (s : State) (src : Addr) (args : List Byte) : s.KeepsQueues (s.doSelectBank src args).1 := by
  unfold State.doSelectBank
  dsimp only
  split
  · exact .refl s
  · split
    · exact .refl s
    · split
      · exact .refl s
      · split
        · exact .refl s
        · split
          · exact .refl s
          · exact makeSelection s

theorem doOpenWindow (s : State) (args : List Byte) : s.KeepsQueues (s.doOpenWindow args).1 := by
  unfold State.doOpenWindow
  split
  · split
    · exact .refl s
    · split
      · exact .refl s
      · split
        · exact (refl s).post _
        · exact .cancelRoundOf (.same (.refl s) (by simp [State.queues])) _
      · exact .refl s
  · exact .refl s

theorem doQuarantine (s : State) (args : List Byte) : s.KeepsQueues (s.doQuarantine args).1 := by
  refine forController fun n c => ?_
  split
  · exact .refl s
  · exact ((refl s).enterQuarantine n .manual).cancelRoundOf n

theorem doRelease (s : State) (args : List Byte) : s.KeepsQueues (s.doRelease args).1 := by
  refine forController fun n c => ?_
  split
  · split
    · exact .refl s
    · exact (refl s).setWindow_post n .locked _
  · exact .refl s

theorem doApproveCandidate (s : State) (args : List Byte) : s.KeepsQueues (s.doApproveCandidate args).1 := by
  unfold State.doApproveCandidate
  dsimp only
  split
  · split
    · split
      · exact .refl s
      · exact (refl s).setImage _ _
    · exact .refl s
  · exact .refl s

theorem doDiscardCandidate (s : State) (args : List Byte) : s.KeepsQueues (s.doDiscardCandidate args).1 := by
  unfold State.doDiscardCandidate
  dsimp only
  split
  · exact .refl s
  · split
    · split
      · dsimp only
        split <;> exact .same (.refl s) rfl
      · exact .refl s
    · exact .refl s

theorem doArmWatch (s : State) (args : List Byte) : s.KeepsQueues (s.doArmWatch args).1 := by
  unfold State.doArmWatch
  split
  · exact .same (.refl s) rfl
  · exact .refl s

theorem doDisarmWatch (s : State) (args : List Byte) : s.KeepsQueues (s.doDisarmWatch args).1 := by
  unfold State.doDisarmWatch
  split
  · exact .same (.refl s) rfl
  · exact .refl s

theorem doSetTiming (s : State) (args : List Byte) : s.KeepsQueues (s.doSetTiming args).1 := by
  unfold State.doSetTiming
  split
  · exact .refl s
  · split
    · exact .refl s
    · exact .beginWriteOutside (.same (.refl s) rfl)

/-- A destination of zero empties the Notice Queue (R138). -/
theorem setDestination (s : State) (a : Addr) : s.KeepsQueues (s.setDestination a) := by
  refine ⟨fun hg => ?_, fun _ ⟨hl, hp, hd, hz, hfull⟩ => ?_⟩ <;> unfold State.setDestination <;> split
  · exact hg
  · exact hg
  · exact ⟨Nat.zero_le _, .nil, Nat.zero_le _, fun _ => rfl, nofun⟩
  · rename_i ha
    exact ⟨hl, hp, hd, fun h => absurd h ha, hfull⟩

theorem doSetNoticeDestination (s : State) (args : List Byte) : s.KeepsQueues (s.doSetNoticeDestination args).1 := by
  unfold State.doSetNoticeDestination
  dsimp only
  split
  · exact .refl s
  · split
    · exact .refl s
    · exact (setDestination s _).beginWriteOutside

theorem doRestart (s : State) (f : Frame) : s.KeepsQueues (s.doRestart f) := by
  unfold State.doRestart
  split
  · exact (refl s).reply f _ _
  · have hpending : s.KeepsQueues { s with restartPending := true } := .same (.refl s) rfl
    exact (hpending.reply f _ _).takeDueRestart

/-- A management frame is carried out with its reply, answered, or refused with a notice. -/
theorem takeCommand (s : State) (c : Command) (p : Port) (f : Frame) {body : List Byte → State → State × Reply}
    (h : ∀ args, s.KeepsQueues (body args s).1) : s.KeepsQueues (s.takeCommand c p f body) := by
  refine .ite fun _ => ?_
  unfold State.manage
  split
  · split
    · exact (refl s).reply f _ _
    · exact (h _).reply f _ _
  · exact (refl s).post _

/-! ### Ports -/

theorem moveNotice (s : State) (hm : s.noticeMoves = true) : s.KeepsQueues s.moveNotice := by
  obtain ⟨hne, hlt⟩ := s.noticeMoves_iff.1 hm
  obtain ⟨n, rest, hn⟩ := List.exists_cons_of_ne_nil hne
  rw [s.moveNotice_of_cons hn]
  exact ⟨fun ⟨hp, hl⟩ => ⟨PortState.placeOriginated_good hp _ _ hlt, hl⟩,
    fun _ hgood => absurd (hgood.empty hlt) hne⟩

end State.KeepsQueues

/-! ## Every command -/

theorem exec_request_keepsQueues (o : Operation) (f : Frame) (s : State) :
    ∃ t, exec (requestInstr o f) s = .next t ∧ s.KeepsQueues t :=
  ⟨_, exec_requestInstr o f s, .takeRequest s o f⟩

/-- Every command answers a next state and keeps the queues of the ports and the Notice Queue. -/
theorem exec_keepsQueues (i : Instr) (s : State) : ∃ t, exec i s = .next t ∧ s.KeepsQueues t := by
  have hrefl := State.KeepsQueues.refl s
  have hgood : ∀ p, s.PortsGood → (s.port p).GoodAt p := fun p hg => s.portsGood_iff.1 hg p
  cases i with
  | frameCheckDiscard p bytes =>
    refine ⟨_, rfl, ?_⟩
    split
    · exact .ite fun _ => hrefl.same rfl
    · exact .ite fun _ => hrefl.same rfl
  | forwardFrame p f => exact ⟨_, rfl, .ite fun _ => hrefl.forward _ f⟩
  | filterAddressedDiscard p f => exact ⟨_, rfl, .ite fun _ => hrefl.same rfl⟩
  | oxRead f => exact exec_request_keepsQueues .read f s
  | oxSummary f => exact exec_request_keepsQueues .summary f s
  | oxSetParam f => exact exec_request_keepsQueues .setParam f s
  | oxMode f => exact exec_request_keepsQueues .mode f s
  | oxForce f => exact exec_request_keepsQueues .force f s
  | oxBegin f => exact exec_request_keepsQueues .begins f s
  | oxSegment f => exact exec_request_keepsQueues .segment f s
  | oxCommit f => exact exec_request_keepsQueues .commit f s
  | oxAbandon f => exact exec_request_keepsQueues .abandon f s
  | cyclicStatusFrame f =>
    refine ⟨_, rfl, .ite fun _ => .forward ?_ .plant f⟩
    split
    · split
      · exact hrefl.monitorObserves _ _ true
      · exact hrefl
    · exact hrefl
  | beginResponse f =>
    refine ⟨_, rfl, .ite fun _ => .forward ?_ .plant f⟩
    split
    · split
      · exact hrefl.takeBeginResponse _ _ _
      · exact hrefl
    · exact hrefl
  | commitResponse f =>
    refine ⟨_, rfl, .ite fun _ => .forward ?_ .plant f⟩
    split
    · split
      · exact hrefl.takeCommitResponse _ _
      · exact hrefl
    · exact hrefl
  | summaryResponse f => exact ⟨_, rfl, .ite fun _ => hrefl.takeSummaryResponse f⟩
  | abandonResponse f => exact ⟨_, rfl, hrefl⟩
  | staleDeadline n => exact ⟨_, rfl, .ite fun _ => hrefl.monitorObserves n .stale false⟩
  | settleDeadline n =>
    refine ⟨_, rfl, .ite fun _ => ?_⟩
    unfold State.settleExpiry
    split
    · split
      · exact hrefl.settle n _ _
      · exact hrefl.setQuiet n _
    · exact hrefl
  | openingDeadline n => exact ⟨_, rfl, .ite fun _ => hrefl.setWindow_post n .locked _⟩
  | windowDeadline n =>
    refine ⟨_, rfl, .ite fun _ => ?_⟩
    split
    · exact hrefl.closeOrPend n _ _ _
    · exact hrefl
  | idleDeadline k => exact ⟨_, rfl, .ite fun _ => hrefl.timeoutSlot k⟩
  | beginResponseDeadline k => exact ⟨_, rfl, .ite fun _ => hrefl.timeoutSlot k⟩
  | commitResponseDeadline k => exact ⟨_, rfl, .ite fun _ => hrefl.endReleased k _⟩
  | laneFinish l => exact ⟨_, rfl, .ite fun _ => hrefl.finishLane l⟩
  | nextDueExpiry n => exact ⟨_, rfl, .ite fun _ => hrefl.scheduleCheck⟩
  | scanResponseDeadline => exact ⟨_, rfl, .ite fun _ => hrefl.scanTimeout⟩
  | identify p f => exact ⟨_, rfl, .takeCommand s .identify p f fun _ => hrefl⟩
  | readTime p f => exact ⟨_, rfl, .takeCommand s .readTime p f fun _ => hrefl⟩
  | readController p f =>
    exact ⟨_, rfl, .takeCommand s .readController p f fun args => by rw [s.doReadController_same args]; exact hrefl⟩
  | readRecord p f =>
    exact ⟨_, rfl, .takeCommand s .readRecord p f fun args => by rw [s.doReadRecord_same args]; exact hrefl⟩
  | loadRecord p f => exact ⟨_, rfl, .takeCommand s .loadRecord p f (.doLoadRecord s)⟩
  | clearShadow p f => exact ⟨_, rfl, .takeCommand s .clearShadow p f fun _ => hrefl.same rfl⟩
  | selectBank p f => exact ⟨_, rfl, .takeCommand s .selectBank p f (.doSelectBank s f.src)⟩
  | openWindow p f => exact ⟨_, rfl, .takeCommand s .openWindow p f (.doOpenWindow s)⟩
  | closeWindow p f =>
    exact ⟨_, rfl, .takeCommand s .closeWindow p f fun _ =>
      .forController fun n c => hrefl.closeOrPend n c.window .command id⟩
  | quarantine p f => exact ⟨_, rfl, .takeCommand s .quarantine p f (.doQuarantine s)⟩
  | release p f => exact ⟨_, rfl, .takeCommand s .release p f (.doRelease s)⟩
  | approveCandidate p f => exact ⟨_, rfl, .takeCommand s .approveCandidate p f (.doApproveCandidate s)⟩
  | discardCandidate p f => exact ⟨_, rfl, .takeCommand s .discardCandidate p f (.doDiscardCandidate s)⟩
  | armWatch p f => exact ⟨_, rfl, .takeCommand s .armWatch p f (.doArmWatch s)⟩
  | disarmWatch p f => exact ⟨_, rfl, .takeCommand s .disarmWatch p f (.doDisarmWatch s)⟩
  | probe p f => exact ⟨_, rfl, .takeCommand s .probe p f fun args => by rw [s.doProbe_same args]; exact hrefl⟩
  | readCounters p f => exact ⟨_, rfl, .takeCommand s .readCounters p f (.doReadCounters s)⟩
  | setTiming p f => exact ⟨_, rfl, .takeCommand s .setTiming p f (.doSetTiming s)⟩
  | setNoticeDestination p f =>
    exact ⟨_, rfl, .takeCommand s .setNoticeDestination p f (.doSetNoticeDestination s)⟩
  | restart p f =>
    refine ⟨_, rfl, .ite fun _ => ?_⟩
    dsimp only
    split
    · split
      · exact hrefl.reply f _ _
      · exact .doRestart s f
    · exact hrefl.post _
  | warmRestart => exact ⟨_, rfl, .ite fun _ => hrefl.takeDueRestart⟩
  | restartInputClosed =>
    have hclosed : s.KeepsQueues { s with lineClosed := true } := hrefl.same rfl
    refine ⟨_, rfl, ?_⟩
    split
    · exact hrefl
    · dsimp only
      split
      · exact hclosed
      · split
        · exact hrefl.same rfl
        · exact hclosed.trans (.warmRestart _)
  | storeWriteEnd success => exact ⟨_, rfl, .ite fun _ => (hrefl.endWrite success).takeDueRestart⟩
  | powerOnReset => exact ⟨_, rfl, .powerOn s⟩
  | linkDown p =>
    refine ⟨_, rfl, .ite fun _ => ?_⟩
    cases p with
    | plant => exact .dropPort_plant s
    | line => exact (State.KeepsQueues.dropPort_line s).lineLinkLoss
  | linkUp p =>
    exact ⟨_, rfl, .ite fun _ => hrefl.setPort_offerPlaces fun hg => PortState.linkUp_goodAt (hgood p hg)⟩
  | egressChoice p =>
    exact ⟨_, rfl, .ite fun _ => hrefl.setPort_offerPlaces fun hg =>
      PortState.arbitrate_goodAt (hgood p hg).bounded (hgood p hg).summaries⟩
  | frameSent p =>
    exact ⟨_, rfl, .ite fun _ => hrefl.setPort_offerPlaces fun hg => PortState.finish_goodAt (hgood p hg)⟩
  | noticeLeavesQueue =>
    exact ⟨_, rfl, .ite fun hd => .moveNotice s (Bool.and_eq_true_iff.1 hd).2⟩
  | restartInputOpened => exact ⟨_, rfl, hrefl.same rfl⟩
  | powerLoss => exact ⟨_, rfl, .losePower s⟩

/-- A step takes the command at the front of the queue, or reaches neither the ports nor the Notice Queue. -/
theorem step_keepsQueues {s t : State} (h : step s = .next t) : s.KeepsQueues t := by
  unfold step at h
  split at h
  · rename_i i rest _
    obtain ⟨u, hu, hkeeps⟩ := exec_keepsQueues i { s with pending := rest }
    obtain rfl : u = t := Host.Outcome.next.inj (hu.symm.trans h)
    have htaken : s.KeepsQueues { s with pending := rest } := .same (.refl s) rfl
    exact htaken.trans hkeeps
  · cases h
    unfold State.idle
    split
    · split <;> exact .same (.refl s) rfl
    · exact .same (.refl s) rfl

end Sys2Proof.Machine

open Sys2Proof Sys2Proof.Machine

/-- Settles O5: every step keeps the ports good, and while they are good the Notice Queue. -/
theorem stepsKeepQueuesGood : Obligations.StepsKeepQueuesGood :=
  ⟨fun _ _ hp h => (step_keepsQueues h).ports hp, fun _ _ hp hn h => (step_keepsQueues h).notices hp hn⟩
end

section
/-! PROOFS. The Drift Scanner (O42, O43): a controller's schedule, the record a round begins with, the operations of a
round, and a schedule check taken one controller at a time. -/

namespace Sys2Proof.Machine

section scanner
variable {s : State} {n : Fin 32} {c : Controller} {d : ControllerDef}

/-! ## What the scanner reads of a defined controller -/

theorem State.updateSchedule_of_defined (hc : s.controller n = some c) (g : Schedule → Schedule) :
    s.updateSchedule n g = s.setController n (some { c with schedule := g c.schedule }) :=
  State.updateController_of_defined hc _

theorem State.scanInterval_of_definition (hd : s.definition n = some d) : s.scanInterval n = d.scanInterval := by
  simp [State.scanInterval, hd]

theorem State.addrOf_of_definition (hd : s.definition n = some d) : s.addrOf n = d.addr := by
  simp [State.addrOf, hd]

theorem State.scanDue_iff (hc : s.controller n = some c) (hd : s.definition n = some d) :
    s.scanDue n = true ↔ d.scanInterval ≠ 0 ∧ c.schedule.nextDue ≤ s.time := by
  simp [State.scanDue, State.scanInterval_of_definition hd, hc, State.reached]

/-- A controller whose scan interval is 0 is never due (R19; L24). -/
theorem State.scanDue_of_off (hd : s.definition n = some d) (h0 : d.scanInterval = 0) : s.scanDue n = false := by
  simp [State.scanDue, State.scanInterval_of_definition hd, h0]

@[simp] theorem State.scanDue_post (s : State) (x : Notice) (j : Fin 32) : (s.post x).scanDue j = s.scanDue j := by
  simp [State.scanDue, State.scanInterval, State.definition, State.reached]

theorem Window.isLocked_iff (w : Window) : w.isLocked = true ↔ w = .locked := by
  cases w <;> simp [Window.isLocked]

/-! ## Postponements (R122) -/

theorem saturatePostponed_eq_min {p : Nat} (h : p ≤ 8) : saturatePostponed p = min 8 (p + 1) := by
  unfold saturatePostponed Config.maxPostponed
  split <;> omega

/-- A postponement short of the eighth, or after SCAN_OVERDUE, moves the schedule alone. -/
theorem State.postponeScan_of_silent (hc : s.controller n = some c)
    (h : c.schedule.postponed < 7 ∨ (c.schedule.postponed ≤ 8 ∧ c.schedule.overdue = true)) :
    s.postponeScan n = s.setController n (some { c with schedule :=
      { nextDue := s.time + 60000000, postponed := min 8 (c.schedule.postponed + 1)
        overdue := c.schedule.overdue } }) := by
  have hcount : saturatePostponed c.schedule.postponed = min 8 (c.schedule.postponed + 1) :=
    saturatePostponed_eq_min (by omega)
  have hreport : (decide (min 8 (c.schedule.postponed + 1) = Config.maxPostponed) && !c.schedule.overdue) = false := by
    obtain hlt | ⟨-, ho⟩ := h
    · have hne : min 8 (c.schedule.postponed + 1) ≠ Config.maxPostponed := by
        unfold Config.maxPostponed
        omega
      simp [hne]
    · simp [ho]
  simp [State.postponeScan, hc, hcount, hreport, State.updateSchedule_of_defined hc, Config.scanDelay]

/-- The eighth postponement of an episode posts SCAN_OVERDUE. -/
theorem State.postponeScan_of_eighth (hc : s.controller n = some c)
    (h : c.schedule.postponed = 7 ∨ c.schedule.postponed = 8) (ho : c.schedule.overdue = false) :
    s.postponeScan n = (s.setController n (some { c with schedule :=
        { nextDue := s.time + 60000000, postponed := 8, overdue := true } })).post
      { kind := .scanOverdue, time := s.time, controller := some n
        first := some (upperHalf (s.time + 60000000)), second := some (lowerHalf (s.time + 60000000)) } := by
  have hcount : saturatePostponed c.schedule.postponed = 8 := by
    rw [saturatePostponed_eq_min (by omega)]
    omega
  simp [State.postponeScan, hc, hcount, ho, State.updateSchedule_of_defined hc, Config.scanDelay, Config.maxPostponed,
    State.notice]

/-! ## Rounds (R123, R124, R129, R130) -/

/-- The Line port once a SUMMARY that waits there is removed (R124, R130). -/
theorem State.removeSummary_eq (s : State) :
    s.removeSummary = { s with line := { s.line with
      originate := s.line.originate.filter (fun o => !o.isSummary)
      turns := if (s.line.originate.head?).any OrigFrame.isSummary then 0 else s.line.turns } } := rfl

/-- A SUMMARY for which the Line originate queue has a place (R124, R147). -/
theorem State.sendSummary_of_place (hd : s.definition n = some d) (start position attempt : Nat) (i : ImageRecord)
    (hroom : (s.line.originate.filter (fun o => !o.isSummary)).length < 9) :
    s.sendSummary n start position attempt i = { s with
      tagCounter := (s.tagCounter + 1) % 65536
      round := some { controller := n, start := start, position := position, attempt := attempt
                      tag := (s.tagCounter + 1) % 65536, deadline := s.time + s.timing.resp * 1000 }
      line := PortState.placeOriginated
        { s.line with
          originate := s.line.originate.filter (fun o => !o.isSummary)
          turns := if (s.line.originate.head?).any OrigFrame.isSummary then 0 else s.line.turns }
        { kind := .summary, frame := summaryFrame s.identity.station d.addr ((s.tagCounter + 1) % 65536) i }
        s.time } := by
  have hplace : (s.removeSummary.port .line).originate.length < portPlaces .line := hroom
  simp only [State.sendSummary, State.originate, if_pos hplace]
  simp only [State.addrOf_of_definition hd]
  rfl

/-- The round record and the tag counter as a SUMMARY leaves them, whether or not it found a place (R124). -/
theorem State.sendSummary_round (s : State) (n : Fin 32) (start position attempt : Nat) (i : ImageRecord) :
    (s.sendSummary n start position attempt i).round = some
      { controller := n, start := start, position := position, attempt := attempt
        tag := (s.tagCounter + 1) % 65536, deadline := s.time + s.timing.resp * 1000 }
    ∧ (s.sendSummary n start position attempt i).tagCounter = (s.tagCounter + 1) % 65536 := ⟨rfl, rfl⟩

theorem State.endRound_of_completed (hc : s.controller n = some c) (hd : s.definition n = some d) (start : Nat) :
    s.endRound n start true = State.setController { s with round := none } n (some { c with schedule :=
      { nextDue := start + d.scanInterval * 1000000, postponed := 0, overdue := false } }) := by
  have hidle : State.controller { s with round := none } n = some c := hc
  rw [State.endRound, State.updateSchedule_of_defined hidle, State.scanInterval_of_definition hd]
  rfl

theorem State.endRound_of_broken (hc : s.controller n = some c) (hd : s.definition n = some d) (start : Nat) :
    s.endRound n start false = State.setController { s with round := none } n (some { c with schedule :=
      { c.schedule with nextDue := start + d.scanInterval * 1000000 } }) := by
  have hidle : State.controller { s with round := none } n = some c := hc
  rw [State.endRound, State.updateSchedule_of_defined hidle, State.scanInterval_of_definition hd]
  rfl

/-- The APPROVED record of a controller at the lowest position is the one a round begins with (R123). -/
theorem State.approvedFrom_of_lowest {i : Nat} {r : ImageRecord} (hi : s.active.images[i]? = some (some r))
    (hn : r.controller = n) (ha : r.isApproved = true)
    (hbelow : ∀ j < i, ∀ o, s.active.images[j]? = some (some o) → o.controller = n → o.isApproved = false) :
    s.approvedFrom n 0 = some (i, r) := by
  have hfound : s.active.images.toList.zipIdx.find? (fun x => x.1.any (fun r => r.controller == n && r.isApproved))
      = some (some r, i) := by
    refine (find_zipIdx_iff (p := fun x : Option ImageRecord => x.any fun r => r.controller == n && r.isApproved)
      s.active.images.toList 0 i (some r)).2 ⟨Nat.zero_le i, by simpa using hi, by simp [hn, ha], fun j hj b hb => ?_⟩
    cases b with
    | none => rfl
    | some o =>
      have hother := hbelow j hj o (by simpa using hb)
      by_cases ho : o.controller = n <;> simp [ho, hother]
  simp [State.approvedFrom, hfound]

/-- A controller without an APPROVED record has none to begin a round with (R123). -/
theorem State.approvedFrom_of_none (h : ∀ r ∈ records s.active.images, r.controller = n → r.isApproved = false) :
    s.approvedFrom n 0 = none := by
  unfold State.approvedFrom
  split
  · rename_i r i hfound
    obtain ⟨-, hget, hr, -⟩ := (find_zipIdx_iff (p := fun x : Option ImageRecord =>
      x.any fun r => r.controller == n && r.isApproved) _ 0 i (some r)).1 (by simpa using hfound)
    obtain ⟨hn, ha⟩ : r.controller = n ∧ r.isApproved = true := by simpa using hr
    have hmem : r ∈ records s.active.images := (mem_records_iff ..).2 ⟨i, by simpa using hget⟩
    simp [h r hmem hn] at ha
  · rfl

/-- A round goes on at a record, with the first attempt (R123, R124). -/
theorem State.continueRound_of_record {start lowest i : Nat} {r : ImageRecord}
    (h : s.approvedFrom n lowest = some (i, r)) :
    s.continueRound n start lowest = s.sendSummary n start i 1 r := by
  simp [State.continueRound, h]

/-! ## Schedule checks (R121) -/

theorem State.checkController_of_round (h : s.round ≠ none) (n : Fin 32) : s.checkController n = s := by
  simp [State.checkController, Option.isSome_iff_ne_none.2 h]

theorem State.checkController_of_notDue (h : s.scanDue n = false) : s.checkController n = s := by
  simp [State.checkController, h]

/-- A due controller in LOCKED, with the Line link up, begins a round (R121). -/
theorem State.checkController_of_locked (hr : s.round = none) (hdue : s.scanDue n = true)
    (hc : s.controller n = some c) (hw : c.window = .locked) (hup : s.line.up = true) :
    s.checkController n = s.continueRound n s.time 0 := by
  simp [State.checkController, hr, hdue, State.window?, hc, hw, hup, Window.isLocked]

/-- A round that finds no record completes at once: next-due moves on by the scan interval (R123, R129). -/
theorem State.checkController_of_completed (hr : s.round = none) (hdue : s.scanDue n = true)
    (hc : s.controller n = some c) (hd : s.definition n = some d) (hw : c.window = .locked) (hup : s.line.up = true)
    (hnone : ∀ r ∈ records s.active.images, r.controller = n → r.isApproved = false) :
    s.checkController n = s.setController n (some { c with schedule :=
      { nextDue := s.time + d.scanInterval * 1000000, postponed := 0, overdue := false } }) := by
  have hidle : { s with round := none } = s := by rw [← hr]
  rw [State.checkController_of_locked hr hdue hc hw hup, State.continueRound, State.approvedFrom_of_none hnone]
  dsimp only
  rw [State.endRound_of_completed hc hd, hidle]

/-- Any other due controller is postponed (R121). -/
theorem State.checkController_of_postponed (hr : s.round = none) (hdue : s.scanDue n = true)
    (hc : s.controller n = some c) (h : c.window ≠ .locked ∨ s.line.up = false) :
    s.checkController n = s.postponeScan n := by
  have hnot : ((s.window? n).any Window.isLocked && s.line.up) = false := by
    have hwindow : s.window? n = some c.window := by rw [State.window?, hc, Option.map_some]
    rw [hwindow, Option.any_some]
    obtain hw | hdown := h
    · rw [Bool.eq_false_iff.2 fun hl => hw (c.window.isLocked_iff.1 hl), Bool.false_and]
    · rw [hdown, Bool.and_false]
  simp [State.checkController, hr, hdue, hnot]

/-- A schedule check does nothing while a round is in flight. -/
theorem State.scheduleCheck_of_round (h : s.round ≠ none) : s.scheduleCheck = s :=
  foldl_still _ s _ fun n _ => State.checkController_of_round h n

/-- A schedule check does nothing while no controller is due. -/
theorem State.scheduleCheck_of_noneDue (h : ∀ n, s.scanDue n = false) : s.scheduleCheck = s :=
  foldl_still _ s _ fun n _ => State.checkController_of_notDue (h n)

/-- With no controller below `n` due, a schedule check takes `n` first and then those above it. -/
theorem State.scheduleCheck_from (n : Fin 32) : ∃ above : List (Fin 32), ∀ s : State, (∀ j < n, s.scanDue j = false) →
    s.scheduleCheck = above.foldl State.checkController (s.checkController n) := by
  obtain ⟨below, above, hsplit⟩ := List.append_of_mem (List.mem_finRange n)
  have hsorted := List.pairwise_lt_finRange 32
  rw [hsplit, List.pairwise_append] at hsorted
  obtain ⟨-, -, hlt⟩ := hsorted
  refine ⟨above, fun s hbelow => ?_⟩
  rw [State.scheduleCheck, hsplit, List.foldl_append, List.foldl_cons,
    foldl_still _ s below fun j hj => State.checkController_of_notDue (hbelow j (hlt j hj n (List.mem_cons_self ..)))]

/-- From `s` to `t` the controller `n` has been dealt with: it is no longer due, and who else is due stays. -/
structure State.DealsWith (s t : State) (n : Fin 32) : Prop where
  notDue : t.scanDue n = false
  others : ∀ j ≠ n, t.scanDue j = s.scanDue j

/-- Once the lowest due controller has been dealt with, the check goes on as a check of what that left. -/
theorem State.scheduleCheck_goesOn {t : State} (hbelow : ∀ j < n, s.scanDue j = false) (ht : s.checkController n = t)
    (h : s.DealsWith t n) : s.scheduleCheck = t.scheduleCheck := by
  obtain ⟨above, habove⟩ := State.scheduleCheck_from n
  have hbelow' : ∀ j < n, t.scanDue j = false := fun j hj => (h.others j (Fin.ne_of_lt hj)).trans (hbelow j hj)
  rw [habove s hbelow, habove t hbelow', ht, State.checkController_of_notDue h.notDue]

/-- Once the only due controller has been dealt with, the check ends. -/
theorem State.scheduleCheck_ends {t : State} (hbelow : ∀ j < n, s.scanDue j = false)
    (habove : ∀ j, n < j → s.scanDue j = false) (ht : s.checkController n = t) (h : s.DealsWith t n) :
    s.scheduleCheck = t := by
  rw [State.scheduleCheck_goesOn hbelow ht h]
  refine State.scheduleCheck_of_noneDue fun j => ?_
  rcases Nat.lt_trichotomy j.val n.val with hlt | heq | hgt
  · exact (h.others j (Fin.ne_of_lt hlt)).trans (hbelow j hlt)
  · rw [Fin.ext heq]
    exact h.notDue
  · exact (h.others j (Fin.ne_of_gt hgt)).trans (habove j hgt)

/-- A round that begins stops the check. -/
theorem State.scheduleCheck_begins {t : State} (hbelow : ∀ j < n, s.scanDue j = false) (ht : s.checkController n = t)
    (hr : t.round ≠ none) : s.scheduleCheck = t := by
  obtain ⟨above, habove⟩ := State.scheduleCheck_from n
  rw [habove s hbelow, ht]
  exact foldl_still _ t _ fun j _ => State.checkController_of_round hr j

/-- A next-due that moves into the future deals with its controller. -/
theorem State.setController_dealsWith {c' : Controller} (h : s.time < c'.schedule.nextDue) :
    s.DealsWith (s.setController n (some c')) n := by
  refine ⟨?_, fun j hj => ?_⟩
  · simp [State.scanDue, State.reached, Nat.not_le.2 h]
  · simp only [State.scanDue, State.controller_setController_of_ne s _ hj]
    rfl

theorem State.postponeScan_dealsWith (hc : s.controller n = some c) : s.DealsWith (s.postponeScan n) n := by
  have hmoved : ∀ (p : Nat) (b : Bool), s.DealsWith (s.updateSchedule n fun _ =>
      { nextDue := s.time + Config.scanDelay, postponed := p, overdue := b }) n := fun p b => by
    rw [State.updateSchedule_of_defined hc]
    exact State.setController_dealsWith (Nat.lt_add_of_pos_right (by decide))
  unfold State.postponeScan
  rw [hc]
  dsimp only
  split
  · obtain ⟨hn, ho⟩ := hmoved _ _
    exact ⟨(State.scanDue_post ..).trans hn, fun j hj => (State.scanDue_post ..).trans (ho j hj)⟩
  · exact hmoved _ _

/-- A next-due that expires while the scanner is idle makes a schedule check (R121). -/
theorem exec_nextDueExpiry_of_due (hp : s.powered = true) (hr : s.round = none) (hdue : s.scanDue n = true) :
    exec (.nextDueExpiry n) s = .next s.scheduleCheck := by
  simp [exec, execNextDueExpiry, State.nextDueDue, hp, hr, hdue]

end scanner

end Sys2Proof.Machine

open Sys2Proof Sys2Proof.Machine

/-- Settles O43: each operation by its own lemma. -/
theorem scannerOperationsHaveTheirEffects : Obligations.ScannerOperationsHaveTheirEffects := by
  intro s n c d hc hd
  refine ⟨fun start position attempt i hroom => State.sendSummary_of_place hd start position attempt i hroom,
    State.endRound_of_completed hc hd, State.endRound_of_broken hc hd, fun r hr => ⟨fun hn => ?_, fun hn => ?_⟩,
    State.postponeScan_of_silent hc, fun hr => ?_, State.scheduleCheck_of_round, State.scheduleCheck_of_noneDue⟩
  · subst hn
    simp [State.cancelRoundOf, State.cancelRound, hr, State.removeSummary_eq]
  · simp [State.cancelRoundOf, hr, hn]
  · simp [State.cancelRoundOf, hr]

/-- Settles O42: a check takes the lowest due controller first; it stops at a round that begins, and goes on once the
controller's next-due lies in the future. -/
theorem scanRoundBeginsOrIsPostponed : Obligations.ScanRoundBeginsOrIsPostponed := by
  refine ⟨fun s m d hd h0 => ?_, fun s n m c d hp hr hm hc hd hon hdue hbelow => ?_,
    fun s n c d hp hr hc hd hon hdue hbelow => ?_⟩
  · simp [exec, execNextDueExpiry, State.nextDueDue, State.scanDue_of_off hd h0]
  · have hn : s.scanDue n = true := (State.scanDue_iff hc hd).2 ⟨hon, hdue⟩
    rw [exec_nextDueExpiry_of_due hp hr hm]
    refine ⟨fun hw hup hnone => ?_, fun hshut => ?_⟩
    · rw [State.scheduleCheck_goesOn hbelow (State.checkController_of_completed hr hn hc hd hw hup hnone)
        (State.setController_dealsWith (by dsimp only; omega))]
    · rw [State.scheduleCheck_goesOn hbelow (State.checkController_of_postponed hr hn hc hshut)
        (State.postponeScan_dealsWith hc)]
  · have hn : s.scanDue n = true := (State.scanDue_iff hc hd).2 ⟨hon, hdue⟩
    rw [exec_nextDueExpiry_of_due hp hr hn]
    refine ⟨fun i r hw hup hi hrn ha hlowest => ?_, fun hw hup habove hnone => ?_, fun hshut habove => ?_⟩
    · have hbegun := (State.checkController_of_locked hr hn hc hw hup).trans
        (State.continueRound_of_record (State.approvedFrom_of_lowest hi hrn ha hlowest))
      obtain ⟨hround, htag⟩ := s.sendSummary_round n s.time i 1 r
      refine ⟨_, congrArg Host.Outcome.next (State.scheduleCheck_begins hbelow hbegun (by simp [hround])), hround, htag,
        State.sendSummary_controllers .., State.sendSummary_notices .., fun hroom => ?_⟩
      rw [State.sendSummary_of_place hd _ _ _ _ hroom]
    · rw [State.scheduleCheck_ends hbelow habove (State.checkController_of_completed hr hn hc hd hw hup hnone)
        (State.setController_dealsWith (by dsimp only; omega))]
    · have hends := State.scheduleCheck_ends hbelow habove (State.checkController_of_postponed hr hn hc hshut)
        (State.postponeScan_dealsWith hc)
      rw [hends]
      exact ⟨fun h => congrArg Host.Outcome.next (State.postponeScan_of_silent hc h),
        fun h ho => congrArg Host.Outcome.next (State.postponeScan_of_eighth hc h ho)⟩
end

section
/-! PROOFS. The Notice Unit and the Watch Unit (O45, O46): where a posted notice goes, what an offer posts and disarms,
and where the notices of its hits stand. -/

namespace Sys2Proof.Machine

/-! ## The notice kinds, and the dropped count (R137, R140) -/

theorem Notice.isWatch_eq_decide (x : Notice) : x.isWatch = decide (x.kind = .watchHit) := rfl

theorem Notice.isWatch_iff (x : Notice) : x.isWatch = true ↔ x.kind = .watchHit := beq_iff_eq

theorem saturateDropped_one {n : Nat} (h : n ≤ 255) : saturateDropped 1 n = min 255 (n + 1) := by
  unfold saturateDropped
  split <;> omega

/-! ## Where a posted notice goes (R139 to R141) -/

/-- In a queue whose watch notices stand first, a watch notice is placed between them and the routine notices. -/
theorem placeNotice_of_ordered {q : List Notice} (h : q.Pairwise (fun a b => b.isWatch = true → a.isWatch = true))
    (x : Notice) : placeNotice q x = if x.kind = .watchHit then
      q.filter (fun a => a.kind = .watchHit) ++ x :: q.filter (fun a => a.kind ≠ .watchHit) else q ++ [x] := by
  obtain ⟨htake, hdrop⟩ := watchRun_eq_filter q h
  unfold placeNotice
  simp only [Notice.isWatch_iff, htake, hdrop]
  simp [funext Notice.isWatch_eq_decide]

/-- Where a routine notice stands, the last notice of an ordered queue is one: the newest of them. -/
theorem exists_newest_routine {q : List Notice}
    (h : q.Pairwise (fun a b => b.isWatch = true → a.isWatch = true)) (hr : ∃ a ∈ q, a.kind ≠ .watchHit) :
    ∃ kept newest, q = kept ++ [newest] ∧ newest.kind ≠ .watchHit := by
  obtain ⟨a, ha, hroutine⟩ := hr
  obtain rfl | ⟨kept, newest, rfl⟩ := List.eq_nil_or_concat q
  · cases ha
  · refine ⟨kept, newest, by simp, fun hwatch => ?_⟩
    simp only [List.concat_eq_append, List.pairwise_append, List.mem_append, List.mem_singleton] at h ha
    obtain ⟨-, -, hbefore⟩ := h
    obtain ha | rfl := ha
    · exact hroutine (a.isWatch_iff.1 (hbefore a ha newest rfl (newest.isWatch_iff.2 hwatch)))
    · exact hroutine hwatch

section queueNotice
variable {s : State} {x : Notice}

theorem State.queueNotice_of_place (h : s.notices.length < 32) :
    s.queueNotice x = { s with notices := placeNotice s.notices x } := if_pos h

/-- At a full queue a watch notice takes the place of the newest routine notice, which is lost (R140). -/
theorem State.queueNotice_displaces {kept : List Notice} {newest : Notice} (h : s.notices.length = 32)
    (hx : x.kind = .watchHit) (hq : s.notices = kept ++ [newest]) (hn : newest.kind ≠ .watchHit) :
    s.queueNotice x = { s with notices := placeNotice kept x, dropped := saturateDropped 1 s.dropped } := by
  have hall : s.notices.all Notice.isWatch = false := by
    simpa [hq, Notice.isWatch_eq_decide] using fun _ => hn
  have hdisplaces : (x.isWatch && !s.notices.all Notice.isWatch) = true := by
    rw [hall, x.isWatch_iff.2 hx]
    rfl
  rw [State.queueNotice, if_neg (by rw [h]; decide), if_pos hdisplaces, hq, List.dropLast_concat]

/-- At a full queue a routine notice is lost, and a watch notice where no routine notice stands (R140). -/
theorem State.queueNotice_lost (h : s.notices.length = 32)
    (hx : x.kind ≠ .watchHit ∨ ∀ a ∈ s.notices, a.kind = .watchHit) :
    s.queueNotice x = { s with dropped := saturateDropped 1 s.dropped } := by
  rw [State.queueNotice, if_neg (by rw [h]; decide), if_neg]
  obtain hx | hall := hx
  · simp [Notice.isWatch_eq_decide, hx]
  · have hall : s.notices.all Notice.isWatch = true := List.all_eq_true.2 fun a ha => a.isWatch_iff.2 (hall a ha)
    simp [hall]

end queueNotice

/-! ## Requests offered to the Watch Unit (R135, R136) -/

theorem isWriteKind_iff (o : Operation) : isWriteKind o = true ↔ o ≠ .read ∧ o ≠ .summary := by
  cases o <;> simp [isWriteKind]

theorem Watch.hits_iff (x : Watch) (n : Fin 32) (o : Operation) (h : OxHeader) :
    x.hits n o h = true ↔ x.controller = n ∧ (x.cls = none ∨ x.cls = some h.cls) ∧ x.low ≤ h.idx ∧ h.idx ≤ x.high
      ∧ (x.all = true ∨ (o ≠ .read ∧ o ≠ .summary)) := by
  simp [Watch.hits, isWriteKind_iff, and_assoc]

/-- The notice of a hit on one watch, with the device time of the hit (R136, R137). -/
def hitNotice (t : Nat) (n : Fin 32) (o : Operation) (f : Frame) (e : Ending) (w : Fin 8) : Notice :=
  let h := oxHeader f.payload
  { kind := .watchHit, time := t, controller := some n, station := some f.src, object := some (h.cls, h.idx)
    tid := requestTid o h, reason := e.reason, first := some (watchValue w o h.level e) }

/-- The four bytes of the first value of WATCH_HIT do not run into one another (R175). -/
theorem watchValue_eq (w : Fin 8) (o : Operation) (h : OxHeader) (e : Ending) :
    watchValue w o h.level e
      = BitVec.ofNat 32 (w.val * 16777216 + o.code * 65536 + min h.claimed 3 * 256 + e.code) := by
  have hw : w.val < 256 := Nat.lt_of_lt_of_le w.isLt (by decide)
  have ho : o.code < 256 := by cases o <;> decide
  have hl : min h.claimed 3 < 256 := Nat.lt_of_le_of_lt (Nat.min_le_right ..) (by decide)
  have he : e.code < 256 := by cases e <;> simp [Ending.code]
  have hbytes : ∀ a b c d : Nat, a < 256 → b < 256 → c < 256 → d < 256 →
      natOf [BitVec.ofNat 8 a, BitVec.ofNat 8 b, BitVec.ofNat 8 c, BitVec.ofNat 8 d]
        = a * 16777216 + b * 65536 + c * 256 + d := fun a b c d ha hb hc hd => by
    simp only [natOf, List.foldl_cons, List.foldl_nil, BitVec.toNat_ofNat]
    omega
  exact congrArg (BitVec.ofNat 32) (hbytes _ _ _ _ hw ho hl he)

section offer
variable {n : Fin 32} {o : Operation} {f : Frame} {e : Ending}

/-- A request hits the watch that a watch number holds, where it holds one. -/
def State.hitAt (s : State) (n : Fin 32) (o : Operation) (f : Frame) (w : Fin 8) : Bool :=
  (s.watch w).any (fun x => x.hits n o (oxHeader f.payload))

/-- A watch that is hit without repeat is disarmed; any other stays as it is (R136). -/
def Watch.stays (n : Fin 32) (o : Operation) (f : Frame) (x : Watch) : Bool :=
  !x.hits n o (oxHeader f.payload) || x.repeats

/-- What is left in a watch number by an offer. -/
theorem Watch.filter_stays (x : Watch) : (some x).filter (Watch.stays n o f) =
    if x.hits n o (oxHeader f.payload) = true ∧ x.repeats = false then none else some x := by
  cases hhit : x.hits n o (oxHeader f.payload) <;> cases hrep : x.repeats <;>
    simp [Option.filter, Watch.stays, hhit, hrep]

/-- The state with its watches as given. -/
def State.withWatches (s : State) (v : Vector (Option Watch) 8) : State := { s with watches := v }

@[simp] theorem State.withWatches_withWatches (s : State) (u v : Vector (Option Watch) 8) :
    (s.withWatches u).withWatches v = s.withWatches v := rfl

/-- What a posted notice does has nothing to do with the watches. -/
theorem State.post_withWatches (s : State) (v : Vector (Option Watch) 8) (x : Notice) :
    (s.withWatches v).post x = (s.post x).withWatches v := by
  obtain ⟨q, d, p, hs⟩ := s.post_shape x
  obtain ⟨q', d', p', ht⟩ := (s.withWatches v).post_shape x
  obtain ⟨hq, hd, hp, -⟩ := State.post_agree (s := s) (t := s.withWatches v) ⟨rfl, rfl, rfl, rfl, rfl, rfl⟩ x
  rw [hs, ht] at hq hd hp
  dsimp only at hq hd hp
  rw [hs, ht, ← hq, ← hd, ← hp]
  rfl

theorem State.offerTo_of_hit {s : State} {w : Fin 8} (h : s.hitAt n o f w = true) :
    ∃ v, State.offerTo n o f e s w = (s.withWatches v).post (hitNotice s.time n o f e w) := by
  obtain ⟨x, hx, hhit⟩ := (Option.any_eq_true ..).1 h
  simp only [State.offerTo, hx, hhit, if_true]
  split
  · exact ⟨s.watches, rfl⟩
  · exact ⟨s.watches.set w none, rfl⟩

theorem State.offerTo_of_miss {s : State} {w : Fin 8} (h : s.hitAt n o f w = false) :
    State.offerTo n o f e s w = s := by
  unfold State.offerTo
  dsimp only
  split
  · rfl
  · rename_i x hx
    rw [State.hitAt, hx] at h
    exact if_neg (Bool.eq_false_iff.1 h)

theorem State.watch_offerTo (s : State) (w v : Fin 8) :
    (State.offerTo n o f e s w).watch v = if w = v then (s.watch v).filter (Watch.stays n o f) else s.watch v := by
  unfold State.offerTo
  dsimp only
  split
  · rename_i hw
    split
    · rename_i hv
      rw [← hv, hw]
      rfl
    · rfl
  · rename_i x hx
    by_cases hv : w = v
    · subst hv
      rw [if_pos rfl, hx, Watch.filter_stays]
      cases x.hits n o (oxHeader f.payload) <;> cases x.repeats <;> simp [hx]
    · rw [if_neg hv]
      split
      · split <;> simp [hv]
      · rfl

/-- Each watch that is offered the request stays or is disarmed; a second offer would change nothing. -/
theorem State.watch_foldl_offerTo (ws : List (Fin 8)) (s : State) (v : Fin 8) :
    (ws.foldl (State.offerTo n o f e) s).watch v =
      if v ∈ ws then (s.watch v).filter (Watch.stays n o f) else s.watch v := by
  induction ws generalizing s with
  | nil => rfl
  | cons w ws ih =>
    rw [List.foldl_cons, ih, State.watch_offerTo]
    by_cases hv : w = v
    · subst hv
      simp [Option.filter_filter]
    · have hne : v ≠ w := fun h => hv h.symm
      simp [hv, hne]

theorem State.watch_offer (s : State) (v : Fin 8) :
    (s.offer n o f e).watch v = (s.watch v).filter (Watch.stays n o f) := by
  rw [State.offer, State.watch_foldl_offerTo, if_pos (List.mem_finRange v)]

/-- Over distinct watches the hits are those of the state before the offer, and each posts its notice in turn. -/
theorem State.foldl_offerTo_eq_posts (ws : List (Fin 8)) (hws : ws.Nodup) (s : State) :
    ws.foldl (State.offerTo n o f e) s =
      ((ws.filter (s.hitAt n o f)).map (hitNotice s.time n o f e)).foldl State.post
        (s.withWatches (ws.foldl (State.offerTo n o f e) s).watches) := by
  induction ws generalizing s with
  | nil => rfl
  | cons w ws ih =>
    obtain ⟨hw, hnodup⟩ := List.nodup_cons.1 hws
    have hlater : ws.filter ((State.offerTo n o f e s w).hitAt n o f) = ws.filter (s.hitAt n o f) :=
      List.filter_congr fun v hv => by
        rw [State.hitAt, State.watch_offerTo, if_neg (fun h : w = v => hw (h ▸ hv)), State.hitAt]
    have hrest := ih hnodup (State.offerTo n o f e s w)
    rw [hlater, State.offerTo_time] at hrest
    rw [List.foldl_cons, List.filter_cons]
    generalize (ws.foldl (State.offerTo n o f e) (State.offerTo n o f e s w)).watches = final at hrest ⊢
    rw [hrest]
    cases hhit : s.hitAt n o f w with
    | false => rw [State.offerTo_of_miss hhit, if_neg nofun]
    | true =>
      obtain ⟨v, hpost⟩ := State.offerTo_of_hit (e := e) hhit
      rw [hpost, if_pos rfl, List.map_cons, List.foldl_cons, State.post_withWatches, State.post_withWatches,
        State.withWatches_withWatches]

theorem State.offer_eq_posts (s : State) :
    s.offer n o f e = (((List.finRange 8).filter (s.hitAt n o f)).map (hitNotice s.time n o f e)).foldl State.post
      (s.withWatches (s.offer n o f e).watches) :=
  State.foldl_offerTo_eq_posts _ (List.nodup_finRange 8) s

end offer

/-- The watch notices that stand first are watch notices, and behind them no further one stands first. -/
theorem watchRun_spec (q : List Notice) :
    (∀ a ∈ q.takeWhile Notice.isWatch, a.isWatch = true)
      ∧ (q.dropWhile Notice.isWatch).takeWhile Notice.isWatch = []
      ∧ (q.dropWhile Notice.isWatch).dropWhile Notice.isWatch = q.dropWhile Notice.isWatch := by
  induction q with
  | nil => simp only [List.takeWhile_nil, List.dropWhile_nil, List.not_mem_nil, false_implies, implies_true, and_self]
  | cons a q ih =>
    obtain ⟨hall, htake, hdrop⟩ := ih
    cases ha : a.isWatch with
    | true =>
      rw [List.takeWhile_cons_of_pos ha, List.dropWhile_cons_of_pos ha]
      exact ⟨List.forall_mem_cons.2 ⟨ha, hall⟩, htake, hdrop⟩
    | false =>
      have hnot : ¬ a.isWatch = true := Bool.eq_false_iff.1 ha
      rw [List.takeWhile_cons_of_neg hnot, List.dropWhile_cons_of_neg hnot]
      exact ⟨fun b hb => absurd hb List.not_mem_nil, List.takeWhile_cons_of_neg hnot, List.dropWhile_cons_of_neg hnot⟩

/-- Watch notices posted behind a full Plant originate queue, with a place for each, stand behind the watch notices
before them, in the order in which they were posted (R139). -/
theorem State.foldl_post_of_watches (hits : List Notice) (s : State) (hk : ∀ x ∈ hits, x.isWatch = true)
    (hd : s.destination ≠ 0#48) (hfull : 8 ≤ s.plant.originate.length) (hroom : s.notices.length + hits.length ≤ 32) :
    hits.foldl State.post s = { s with
      notices := s.notices.takeWhile Notice.isWatch ++ hits ++ s.notices.dropWhile Notice.isWatch } := by
  induction hits generalizing s with
  | nil => simp
  | cons x hits ih =>
    obtain ⟨hx, hrest⟩ := List.forall_mem_cons.1 hk
    rw [List.length_cons] at hroom
    have hplaced : placeNotice s.notices x =
        s.notices.takeWhile Notice.isWatch ++ x :: s.notices.dropWhile Notice.isWatch := if_pos hx
    have hpost : s.post x = { s with notices := placeNotice s.notices x } := by
      rw [State.post_of_full s x hd hfull, State.queueNotice_of_place (by omega)]
    obtain ⟨hall, htaken, hdropped⟩ := watchRun_spec s.notices
    have htake : (placeNotice s.notices x).takeWhile Notice.isWatch = s.notices.takeWhile Notice.isWatch ++ [x] := by
      rw [hplaced, List.takeWhile_append_of_pos hall, List.takeWhile_cons_of_pos hx, htaken]
    have hdrop : (placeNotice s.notices x).dropWhile Notice.isWatch = s.notices.dropWhile Notice.isWatch := by
      rw [hplaced, List.dropWhile_append_of_pos hall, List.dropWhile_cons_of_pos hx, hdropped]
    rw [List.foldl_cons, hpost, ih { s with notices := placeNotice s.notices x } hrest hd hfull
      (by simp only [placeNotice_length]; omega), htake, hdrop]
    simp

end Sys2Proof.Machine

open Sys2Proof Sys2Proof.Machine

/-- Settles O45: behind a full Plant originate queue the notice stays in the Notice Unit, which is ordered; with a free
place there the Notice Queue is empty, and the notice passes through it. -/
theorem postedNoticeIsPlacedOrLost : Obligations.PostedNoticeIsPlacedOrLost := by
  intro s x hgood
  have ⟨_, hordered, hdropped, _, _⟩ := hgood
  refine ⟨fun hd => if_pos hd, fun hd hlt => ?_, fun hd hfull hlt => ?_, fun hd hfull hlen =>
    ⟨fun hx hr => ?_, fun hx => ?_⟩⟩
  · exact s.post_of_free x hd (State.NoticesGood.empty hgood hlt) hlt
  · rw [s.post_of_full x hd hfull, State.queueNotice_of_place hlt, placeNotice_of_ordered hordered]
  · obtain ⟨kept, newest, hq, hn⟩ := exists_newest_routine hordered hr
    have hkept := (List.pairwise_append.1 (hq ▸ hordered)).1
    refine ⟨kept, newest, hq, hn, ?_⟩
    rw [s.post_of_full x hd hfull, State.queueNotice_displaces hlen hx hq hn, saturateDropped_one hdropped,
      placeNotice_of_ordered hkept, if_pos hx]
  · rw [s.post_of_full x hd hfull, State.queueNotice_lost hlen hx, saturateDropped_one hdropped]

/-- Settles O46: the offer is a run of posts, one for each watch that is hit, over the watches that it leaves. -/
theorem watchesHitInAscendingOrder : Obligations.WatchesHitInAscendingOrder := by
  intro s n o f e
  refine ⟨fun x => x.hits_iff n o _, fun w x hx => ?_, fun w hw => ?_, fun hits hhits => ?_⟩
  · rw [State.watch_offer, hx, Watch.filter_stays]
  · rw [State.watch_offer, hw]
    rfl
  · have hnotices : hits = ((List.finRange 8).filter (s.hitAt n o f)).map (hitNotice s.time n o f e) := by
      rw [hhits]
      refine List.map_congr_left fun w _ => ?_
      rw [hitNotice, requestTid_eq, watchValue_eq]
      cases e <;> rfl
    have hposts := s.offer_eq_posts (n := n) (o := o) (f := f) (e := e)
    rw [← hnotices] at hposts
    refine ⟨hposts, fun hd hfull hroom => hposts.trans ?_⟩
    have hwatch : ∀ x ∈ hits, x.isWatch = true := by
      rw [hnotices, List.forall_mem_map]
      exact fun _ _ => rfl
    have hlen : hits.length ≤ 8 := by
      rw [hnotices, List.length_map]
      exact Nat.le_trans (List.length_filter_le ..) (Nat.le_of_eq List.length_finRange)
    generalize (s.offer n o f e).watches = left
    exact State.foldl_post_of_watches hits { s with watches := left } hwatch hd hfull
      (Nat.le_trans (Nat.add_le_add_left hlen _) hroom)
end

section
/-! PROOFS. The ports, the store and power (O47, O49): the arbiter's choice, a placement at a busy and at an idle port,
the end of a store write, and what a start finds in the store. -/

namespace Sys2Proof.Machine

/-! ## The egress arbiter, and placements (R145, R146) -/

theorem PortState.isFree_iff (q : PortState) : q.isFree = true ↔ q.up = true ∧ q.sending = none := by
  simp [PortState.isFree]

theorem PortState.isIdle_iff (q : PortState) : q.isIdle = true ↔ q.forwarded = [] ∧ q.originate = [] := by
  simp [PortState.isIdle]

theorem PortState.isFree_eq_false {q : PortState} (h : q.up = false ∨ q.sending ≠ none) : q.isFree = false := by
  refine Bool.eq_false_iff.2 fun hfree => ?_
  obtain ⟨hup, hs⟩ := q.isFree_iff.1 hfree
  obtain hdown | hs' := h
  · rw [hup] at hdown
    cases hdown
  · exact hs' hs

section choose
variable {q : PortState} {f : Frame} {fs : List Frame} {o : OrigFrame} {os : List OrigFrame}

theorem PortState.choose_forwarded (ho : q.originate = []) (hf : q.forwarded = f :: fs) :
    q.choose = some { q with forwarded := fs, sending := some (.forwarded f), turns := 0, begun := none } := by
  simp [PortState.choose, ho, hf]

theorem PortState.choose_originated (ho : q.originate = o :: os) (hf : q.forwarded = []) :
    q.choose = some { q with originate := os, sending := some (.originated o), turns := 0, begun := none } := by
  simp [PortState.choose, ho, hf]

/-- An originated frame waits while it has waited at most three turns. -/
theorem PortState.choose_waits (ho : q.originate = o :: os) (hf : q.forwarded = f :: fs) (ht : q.turns ≤ 3) :
    q.choose = some { q with
      forwarded := fs, sending := some (.forwarded f), turns := q.turns + 1, begun := none } := by
  simp [PortState.choose, ho, hf, Config.maxTurns, Nat.lt_succ_of_le ht]

theorem PortState.choose_waited (ho : q.originate = o :: os) (hf : q.forwarded = f :: fs) (ht : 4 ≤ q.turns) :
    q.choose = some { q with originate := os, sending := some (.originated o), turns := 0, begun := none } := by
  simp [PortState.choose, ho, hf, Config.maxTurns, Nat.not_lt.2 ht]

theorem PortState.choose_empty (ho : q.originate = []) (hf : q.forwarded = []) : q.choose = none := by
  simp [PortState.choose, ho, hf]

/-- A choice sets what is being sent and when it was begun, whatever they were. -/
theorem PortState.choose_sent (q : PortState) :
    PortState.choose { q with sending := none, begun := none } = q.choose := by
  unfold PortState.choose
  rfl

theorem PortState.isIdle_of_choose {q q' : PortState} (h : q.choose = some q') : q.isIdle = false := by
  refine Bool.eq_false_iff.2 fun hidle => ?_
  obtain ⟨hf, ho⟩ := q.isIdle_iff.1 hidle
  rw [PortState.choose_empty ho hf] at h
  cases h

end choose

section place
variable {q : PortState} (f : Frame) (o : OrigFrame) (now : Nat)

/-- Behind a link that is down or a frame being sent, a frame stands at the tail of its queue (R144). -/
theorem PortState.placeForwarded_of_busy (h : q.isFree = false) :
    q.placeForwarded f now = { q with forwarded := q.forwarded ++ [f] } := by
  have hfree : PortState.isFree { q with forwarded := q.forwarded ++ [f] } = false := h
  rw [PortState.placeForwarded, h, PortState.arbitrate_of_busy hfree]
  rfl

/-- An originated one that is the first there, behind a start of this device time, has waited one turn (R146; L26). -/
theorem PortState.placeOriginated_of_busy (h : q.isFree = false) :
    q.placeOriginated o now = { q with
      originate := q.originate ++ [o]
      turns := if q.originate = [] ∧ q.begun = some now then 1 else q.turns
      begun := none } := by
  have hfree : PortState.isFree { q with
      originate := q.originate ++ [o]
      turns := if q.originate.isEmpty && q.begun == some now then 1 else q.turns
      begun := none } = false := h
  rw [PortState.placeOriginated, PortState.arbitrate_of_busy hfree]
  simp

/-- With the transmitter free and both queues empty a placed frame begins to be sent (R145, R146). -/
theorem PortState.placeForwarded_of_idle (h : q.isFree = true) (hf : q.forwarded = []) (ho : q.originate = []) :
    q.placeForwarded f now = { q with sending := some (.forwarded f), turns := 0, begun := some now } := by
  have hchoice := PortState.choose_forwarded (q := { q with forwarded := q.forwarded ++ [f] }) (f := f) (fs := []) ho
    (by simp [hf])
  have hfree : PortState.isFree { q with forwarded := q.forwarded ++ [f] } = true := h
  rw [PortState.placeForwarded, h, q.isIdle_iff.2 ⟨hf, ho⟩, PortState.arbitrate, if_pos hfree, hchoice]
  simp [hf]

theorem PortState.placeOriginated_of_idle (h : q.isFree = true) (hf : q.forwarded = []) (ho : q.originate = []) :
    q.placeOriginated o now = { q with sending := some (.originated o), turns := 0, begun := none } := by
  have hchoice := PortState.choose_originated (q := { q with
    originate := q.originate ++ [o]
    turns := if q.originate.isEmpty && q.begun == some now then 1 else q.turns
    begun := none }) (o := o) (os := []) (by simp [ho]) hf
  refine (if_pos h).trans ?_
  rw [hchoice]
  simp [ho]

end place

/-! ## The events of a port (R141, R145, R146) -/

section events
variable {s : State} {p : Port}

/-- The frame being sent is finished, or a choice is still to be made: what the arbiter chooses begins to be sent. -/
theorem exec_chooses {e : Instr} {r : PortState} (hp : s.powered = true) (hup : (s.port p).up = true)
    (he : (e = .frameSent p ∧ (s.port p).sending ≠ none) ∨ (e = .egressChoice p ∧ (s.port p).sending = none))
    (hc : (s.port p).choose = some r) : exec e s = .next ((s.setPort p r).offerPlaces p) := by
  obtain ⟨rfl, hs⟩ | ⟨rfl, hs⟩ := he
  · have hsome : (s.port p).sending.isSome = true := Option.isSome_iff_ne_none.2 hs
    have hfinish : (s.port p).finish = r := by
      rw [PortState.finish, if_pos hsome, PortState.arbitrate, if_pos (by simp [PortState.isFree, hup]),
        PortState.choose_sent, hc]
      rfl
    simp [exec, execFrameSent, hp, hsome, hfinish]
  · have hfree : (s.port p).isFree = true := (PortState.isFree_iff _).2 ⟨hup, hs⟩
    have hchoice : (s.port p).arbitrate = r := by
      rw [PortState.arbitrate, if_pos hfree, hc]
      rfl
    simp [exec, execEgressChoice, State.choiceDue, hp, hfree, PortState.isIdle_of_choose hc, hchoice]

/-- The last byte of the frame being sent has gone, and nothing is queued: the transmitter is free. -/
theorem exec_frameSent_last (hp : s.powered = true) (hs : (s.port p).sending ≠ none)
    (ho : (s.port p).originate = []) (hf : (s.port p).forwarded = []) : exec (.frameSent p) s =
      .next ((s.setPort p { s.port p with sending := none, begun := none }).offerPlaces p) := by
  have hsome : (s.port p).sending.isSome = true := Option.isSome_iff_ne_none.2 hs
  have hfinish : (s.port p).finish = { s.port p with sending := none, begun := none } := by
    rw [PortState.finish, if_pos hsome, PortState.arbitrate, PortState.choose_sent, PortState.choose_empty ho hf]
    exact ite_self _
  simp [exec, execFrameSent, hp, hsome, hfinish]

theorem exec_frameSent_of_free (hs : (s.port p).sending = none) : exec (.frameSent p) s = .next s := by
  simp [exec, execFrameSent, hs]

theorem exec_egressChoice_of_none
    (h : (s.port p).up = false ∨ (s.port p).sending ≠ none
      ∨ ((s.port p).originate = [] ∧ (s.port p).forwarded = [])) :
    exec (.egressChoice p) s = .next s := by
  have hnot : s.choiceDue p = false := by
    obtain h | h | ⟨ho, hf⟩ := h
    · simp [State.choiceDue, PortState.isFree_eq_false (.inl h)]
    · simp [State.choiceDue, PortState.isFree_eq_false (.inr h)]
    · simp [State.choiceDue, (PortState.isIdle_iff _).2 ⟨hf, ho⟩]
  simp [exec, execEgressChoice, hnot]

theorem State.offerPlaces_of_still (h : p = .line ∨ s.notices = [] ∨ 8 ≤ s.plant.originate.length) :
    s.offerPlaces p = s := by
  cases p with
  | line => rfl
  | plant =>
    refine s.settleNotices_of_still (Bool.eq_false_iff.2 fun hm => ?_)
    obtain ⟨hne, hlt⟩ := s.noticeMoves_iff.1 hm
    obtain h | h | h := h
    · cases h
    · exact hne h
    · exact Nat.not_lt.2 h hlt

end events

/-! ## The end of a store write (R158) -/

section storeWriteEnd
variable {s : State}

/-- Whether a restart is due has nothing to do with the stored image. -/
theorem State.restartDue_withStored (s : State) (i w : Option StoredImage) :
    State.restartDue { s with stored := i, writing := w } = State.restartDue { s with writing := w } := rfl

theorem State.restartDue_post (s : State) (x : Notice) : (s.post x).restartDue = s.restartDue := by
  simp [State.restartDue, State.storeBusy]

theorem State.takeDueRestart_of_not (h : s.restartDue = false) : s.takeDueRestart = s :=
  if_neg (Bool.eq_false_iff.1 h)

theorem State.takeDueRestart_of_due (h : s.restartDue = true) :
    s.takeDueRestart = s.warmRestarts (max 1 s.lineWaiting) := if_pos h

variable {image : StoredImage}

theorem exec_storeWriteEnd_stored (hp : s.powered = true) (hw : s.writing = some image) :
    exec (.storeWriteEnd true) s = .next (State.takeDueRestart { s with stored := some image, writing := none }) := by
  simp [exec, execStoreWriteEnd, hp, State.storeBusy, State.endWrite, hw]

theorem exec_storeWriteEnd_failed (hp : s.powered = true) (hw : s.writing = some image) :
    exec (.storeWriteEnd false) s = .next (State.takeDueRestart (State.post { s with stored := none, writing := none }
      { kind := .storeFailed, time := s.time })) := by
  simp [exec, execStoreWriteEnd, hp, State.storeBusy, State.endWrite, hw, State.notice]

end storeWriteEnd

/-! ## Power (R157, R159) -/

/-- A store write in flight leaves no image (R158). -/
theorem State.losePower_eq (s : State) : s.losePower = { State.reset with
    identity := s.identity, powered := false, stored := if s.writing = none then s.stored else none
    lineClosed := s.lineClosed, pending := s.pending, choices := s.choices } := by
  cases h : s.writing <;> simp [State.losePower, State.storeBusy, h]

/-- A start without a stored image is one in Closed fallback (R159). -/
theorem State.powerOn_of_none {s : State} (h : s.stored = none ∨ s.writing ≠ none) : s.powerOn = { State.reset with
    identity := s.identity, lineClosed := s.lineClosed, pending := s.pending, choices := s.choices } := by
  have hnone : (if s.writing = none then s.stored else none) = none := by
    obtain h | h := h
    · rw [h, ite_self]
    · exact if_neg h
  rw [State.powerOn, State.losePower_eq, hnone]
  rfl

/-- A start from the stored image: its bank, its settings, and a fresh controller for each definition (R20, R157). -/
theorem State.powerOn_of_image {s : State} {image : StoredImage} (h : s.stored = some image) (hw : s.writing = none) :
    s.powerOn = { State.reset with
      identity := s.identity, lineClosed := s.lineClosed, pending := s.pending, choices := s.choices
      stored := some image, fallback := false, timing := image.timing, generation := image.generation
      active := image.bank, destination := image.destination
      controllers := image.bank.definitions.map (Option.map (fun _ =>
        { window := .locked, mismatches := 0
          monitor := { observed := .none, lastFrame := none, stale := image.timing.stale * 1000, quiet := none }
          schedule := { nextDue := 60000000, postponed := 0, overdue := false } })) } := by
  rw [State.powerOn, State.losePower_eq, if_pos hw, h]
  simp [State.freshController, State.freshMonitor, State.freshSchedule, State.reset, milliseconds, Config.scanDelay]

end Sys2Proof.Machine

open Sys2Proof Sys2Proof.Machine

/-- Settles O47: the choice is `choose`'s, whichever event makes it; a placement meets a busy or an idle port; and the
moves are those of the Notice Queue's head, one after another. -/
theorem portsSendInTheirOrder : Obligations.PortsSendInTheirOrder := by
  intro s hp
  refine ⟨fun p q hq => ?_, fun p h => State.offerPlaces_of_still h, fun x rest t hx hlt ht => ?_⟩
  · subst hq
    refine ⟨fun e hup he => ⟨fun f fs ho hf => ?_, fun o os ho hf => ?_, fun o os f fs ho hf hturns => ?_,
      fun o os f fs ho hf hturns => ?_⟩, fun _ hs ho hf => exec_frameSent_last hp hs ho hf, exec_frameSent_of_free,
      exec_egressChoice_of_none, fun f o now => ⟨fun hbusy => ?_, fun hup hs hf ho => ?_⟩⟩
    · exact exec_chooses hp hup he (PortState.choose_forwarded ho hf)
    · exact exec_chooses hp hup he (PortState.choose_originated ho hf)
    · exact exec_chooses hp hup he (PortState.choose_waits ho hf hturns)
    · exact exec_chooses hp hup he (PortState.choose_waited ho hf hturns)
    · have hfree := PortState.isFree_eq_false hbusy
      exact ⟨PortState.placeForwarded_of_busy f now hfree, PortState.placeOriginated_of_busy o now hfree⟩
    · have hfree := (PortState.isFree_iff _).2 ⟨hup, hs⟩
      exact ⟨PortState.placeForwarded_of_idle f now hfree hf ho, PortState.placeOriginated_of_idle o now hfree hf ho⟩
  · have hmoves : s.noticeMoves = true := s.noticeMoves_iff.2 ⟨by rw [hx]; nofun, hlt⟩
    have hmove : s.moveNotice = t := (s.moveNotice_of_cons hx).trans ht.symm
    refine ⟨(s.settleNotices_of_moves hmoves).trans (by rw [hmove]; rfl), ?_⟩
    simp [exec, execNoticeLeavesQueue, State.moveDue, hp, hmoves, hmove]

/-- Settles O49: a restart is due after the write whether or not it stored its image, and power starts from what is
left of the store. -/
theorem storeWritesAndPowerTakeEffect : Obligations.StoreWritesAndPowerTakeEffect := by
  intro s
  refine ⟨fun image hp hw => ?_, congrArg Host.Outcome.next s.losePower_eq,
    fun h => congrArg Host.Outcome.next (State.powerOn_of_none h),
    fun image hi hw => congrArg Host.Outcome.next (State.powerOn_of_image hi hw)⟩
  rw [exec_storeWriteEnd_stored hp hw, exec_storeWriteEnd_failed hp hw]
  have hstored := s.restartDue_withStored (some image) none
  have hfailed := (State.restartDue_post { s with stored := none, writing := none }
    { kind := .storeFailed, time := s.time }).trans (s.restartDue_withStored none none)
  refine ⟨fun hnot => ?_, fun hdue => ?_⟩
  · rw [State.takeDueRestart_of_not (hstored.trans hnot), State.takeDueRestart_of_not (hfailed.trans hnot)]
    exact ⟨rfl, rfl⟩
  · rw [State.takeDueRestart_of_due (hstored.trans hdue), State.takeDueRestart_of_due (hfailed.trans hdue),
      State.post_lineWaiting]
    exact ⟨rfl, rfl⟩
end

section
/-! PROOFS. READ-COUNTERS, SET-TIMING and SET-NOTICE-DESTINATION (O59): the bodies of the three commands, each by the
range of its arguments and by the store-busy flag. -/

namespace Sys2Proof.Machine

/-! ## READ-COUNTERS (R167) -/

theorem boolOfCode_of_le {c : Nat} (h : c ≤ 1) : boolOfCode c = some (decide (c = 1)) := by
  obtain rfl | rfl : c = 0 ∨ c = 1 := by omega
  · rfl
  · rfl

section commands
variable {s : State} {args : List Byte}

theorem State.doReadCounters_outOfRange
    (h : 1 < fieldAt args 1 1 ∨ (31 < fieldAt args 0 1 ∧ fieldAt args 0 1 ≠ 255)) :
    s.doReadCounters args = s.answer .outOfRange := by
  unfold State.doReadCounters
  split
  · rfl
  · rename_i clear hclear
    obtain h | ⟨h, hall⟩ := h
    · rw [boolOfCode_of_lt h] at hclear
      cases hclear
    · rw [if_neg hall, controllerOf_of_lt h]

/-- The counters of a controller number, cleared as the second argument says. -/
theorem State.doReadCounters_controller {n : Fin 32} (hn : fieldAt args 0 1 = n) (hc : fieldAt args 1 1 ≤ 1) :
    s.doReadCounters args =
      (if fieldAt args 1 1 = 1 then s.setCount n { admitted := 0, refusals := 0, released := 0, mismatches := 0 }
        else s, { status := .ok, results := counterResults (s.count n) }) := by
  have hne : n.val ≠ 255 := by omega
  rw [State.doReadCounters, boolOfCode_of_le hc, hn]
  simp [hne, controllerOf_val, ControllerCounters.zero]

/-- The six device counters, cleared as the second argument says. -/
theorem State.doReadCounters_device (hd : fieldAt args 0 1 = 255) (hc : fieldAt args 1 1 ≤ 1) :
    s.doReadCounters args =
      (if fieldAt args 1 1 = 1 then { s with device := DeviceCounters.zero } else s,
        { status := .ok, results := deviceResults s.device }) := by
  rw [State.doReadCounters, boolOfCode_of_le hc, hd]
  simp

/-! ## SET-TIMING (R168) -/

theorem Parameter.ofCode_eq_none {c : Nat} (h : c = 0 ∨ 7 < c) : Parameter.ofCode c = none := by
  unfold Parameter.ofCode
  split
  case h_8 => rfl
  all_goals omega

/-- The seven parameters by their codes, with their ranges and what a value set changes. -/
theorem Parameter.of_mem {code lowest highest : Nat} (h : (code, lowest, highest) ∈
      [(1, 100, 30000), (2, 5, 600), (3, 10, 5000), (4, 60, 14400), (5, 60, 3600), (6, 100, 60000), (7, 100, 30000)]) :
    ∃ q, Parameter.ofCode code = some q ∧ q.lowest = lowest ∧ q.highest = highest ∧
      ∀ (t : Timing) (v : Nat), t.set q v = {
          settle := if code = 1 then v else t.settle, opening := if code = 2 then v else t.opening
          stale := if code = 3 then v else t.stale, win := if code = 4 then v else t.win
          openRate := if code = 5 then v else t.openRate, seg := if code = 6 then v else t.seg
          resp := if code = 7 then v else t.resp } := by
  simp only [List.mem_cons, Prod.mk.injEq, List.not_mem_nil, or_false] at h
  obtain ⟨rfl, rfl, rfl⟩ | ⟨rfl, rfl, rfl⟩ | ⟨rfl, rfl, rfl⟩ | ⟨rfl, rfl, rfl⟩ | ⟨rfl, rfl, rfl⟩ | ⟨rfl, rfl, rfl⟩
    | ⟨rfl, rfl, rfl⟩ := h <;> exact ⟨_, rfl, rfl, rfl, fun _ _ => rfl⟩

theorem State.doSetTiming_outOfRange (h : fieldAt args 0 1 = 0 ∨ 7 < fieldAt args 0 1) :
    s.doSetTiming args = s.answer .outOfRange := by
  rw [State.doSetTiming, Parameter.ofCode_eq_none h]

theorem State.doSetTiming_storeBusy {q : Parameter} (h : Parameter.ofCode (fieldAt args 0 1) = some q)
    (hw : s.writing ≠ none) : s.doSetTiming args = s.answer .storeBusy := by
  rw [State.doSetTiming, h]
  exact if_pos (Option.isSome_iff_ne_none.2 hw)

theorem State.doSetTiming_set {q : Parameter} (h : Parameter.ofCode (fieldAt args 0 1) = some q)
    (hw : s.writing = none) {v : Nat} (hv : v = q.clamp (fieldAt args 1 4)) :
    s.doSetTiming args = (State.beginWriteOutside { s with timing := s.timing.set q v },
      { status := if v = fieldAt args 1 4 then .ok else .clamped
        results := bytesOf 1 (fieldAt args 0 1) ++ bytesOf 4 v }) := by
  rw [State.doSetTiming, h, hv]
  exact if_neg (by simp [State.storeBusy, hw])

/-- Outside Closed fallback a write begins, where none is in flight, with the bank and the settings as they stand. -/
theorem State.beginWriteOutside_of_idle (hw : s.writing = none) : s.beginWriteOutside = { s with
    writing := if s.fallback then none else some
      { bank := s.active, generation := s.generation, timing := s.timing, destination := s.destination } } := by
  by_cases h : s.fallback = true
  · rw [State.beginWriteOutside, if_pos h, if_pos h, ← hw]
  · rw [State.beginWriteOutside, if_neg h, if_neg h]
    rfl

/-! ## SET-NOTICE-DESTINATION (R138, R169) -/

theorem individualAddr_eq_false {own a : Addr} (h : isGroup a = true ∨ a = own) : individualAddr own a = false := by
  obtain h | rfl := h <;> simp [individualAddr, *]

theorem individualAddr_eq_true {own a : Addr} (hg : isGroup a = false) (ho : a ≠ own) :
    individualAddr own a = true := by
  simp [individualAddr, hg, ho]

theorem State.setDestination_eq (s : State) (a : Addr) : s.setDestination a = { s with
    destination := a
    notices := if a = 0#48 then [] else s.notices
    dropped := if a = 0#48 then 0 else s.dropped } := by
  unfold State.setDestination
  split <;> rfl

theorem State.doSetNoticeDestination_outOfRange
    (h : isGroup (addrAt args 0) = true ∨ addrAt args 0 = s.identity.station) :
    s.doSetNoticeDestination args = s.answer .outOfRange :=
  if_pos (by rw [individualAddr_eq_false h]; rfl)

theorem State.doSetNoticeDestination_storeBusy (h : individualAddr s.identity.station (addrAt args 0) = true)
    (hw : s.writing ≠ none) : s.doSetNoticeDestination args = s.answer .storeBusy :=
  (if_neg (by rw [h]; nofun)).trans (if_pos (Option.isSome_iff_ne_none.2 hw))

theorem State.doSetNoticeDestination_set (h : individualAddr s.identity.station (addrAt args 0) = true)
    (hw : s.writing = none) : s.doSetNoticeDestination args =
      ((s.setDestination (addrAt args 0)).beginWriteOutside,
        { status := .ok, results := addrBytes (addrAt args 0) }) := by
  refine (if_neg (by rw [h]; nofun)).trans (if_neg ?_)
  simp [State.storeBusy, hw]

end commands

end Sys2Proof.Machine

open Sys2Proof Sys2Proof.Machine

/-- Settles O59: each command is its body, which goes by the range of its arguments and by whether a store write is in
flight. -/
theorem countersAndSettings : Obligations.CountersAndSettings := by
  intro s p f
  refine ⟨fun h => ⟨fun hout => ?_, fun n hn => ⟨fun hc => ?_, fun hc => ?_⟩, fun hd hc => ?_⟩,
    fun h => ⟨fun hout => ?_, fun code lowest highest hmem hcode => ?_⟩,
    fun h a ha => ⟨fun hout => ?_, fun hg ho => ⟨fun hw => ?_, fun hw => ?_⟩⟩⟩
  · exact exec_managementInstr_body h nofun (State.doReadCounters_outOfRange hout)
  · exact exec_managementInstr_body h nofun
      ((State.doReadCounters_controller hn (by omega)).trans (by rw [if_neg (by omega)]; rfl))
  · exact exec_managementInstr_body h nofun
      ((State.doReadCounters_controller hn (by omega)).trans (by rw [if_pos hc]; rfl))
  · exact exec_managementInstr_body h nofun (State.doReadCounters_device hd hc)
  · exact exec_managementInstr_body h nofun (State.doSetTiming_outOfRange hout)
  · obtain ⟨q, hq, hlow, hhigh, hset⟩ := Parameter.of_mem hmem
    subst hcode
    refine ⟨fun hw => exec_managementInstr_body h nofun (State.doSetTiming_storeBusy hq hw), fun hw v t hv ht => ?_⟩
    have hclamp : v = q.clamp (fieldAt (f.payload.drop 8) 1 4) := by rw [hv, Parameter.clamp, hlow, hhigh]
    refine exec_managementInstr_body h nofun ((State.doSetTiming_set hq hw hclamp).trans ?_)
    rw [hset, ← ht, State.beginWriteOutside_of_idle (by exact hw)]
  · subst ha
    exact exec_managementInstr_body h nofun (State.doSetNoticeDestination_outOfRange hout)
  · subst ha
    exact exec_managementInstr_body h nofun
      (State.doSetNoticeDestination_storeBusy (individualAddr_eq_true hg ho) hw)
  · subst ha
    refine exec_managementInstr_body h nofun
      ((State.doSetNoticeDestination_set (individualAddr_eq_true hg ho) hw).trans ?_)
    rw [State.setDestination_eq, State.beginWriteOutside_of_idle (by exact hw)]
    rfl
end

section
/-! PROOFS. Frames that go across (O16), and what meets every management frame before its command's own rule, with the
reply it is answered by (O51). -/

namespace Sys2Proof.Machine

/-! ## Frames that go across (R144, R145, R149) -/

section across
variable {s : State} {p : Port} {f : Frame}

theorem State.forward_of_down (h : (s.port p).up = false) : s.forward p f = s.countLinkDiscarded 1 := by
  simp [State.forward, h]

theorem State.forward_of_full (hup : (s.port p).up = true) (h : 256 ≤ (s.port p).forwarded.length) :
    s.forward p f = s.countOverflow := by
  simp [State.forward, hup, Config.forwardedPlaces, Nat.not_lt.2 h]

/-- One rise of a count that is not saturated adds one. -/
theorem saturate32By_one {n : Nat} (h : n < 4294967295) : saturate32By 1 n = n + 1 := by
  unfold saturate32By
  split <;> omega

theorem exec_forwardFrame_of_row (hr : s.rowOf p f = .forward) :
    exec (.forwardFrame p f) s = .next (s.forward (otherPort p) f) :=
  congrArg Host.Outcome.next (if_pos hr)

/-- A frame that finds a place at the other port stands at the tail behind a frame being sent, and is sent at once where
nothing else waits. -/
theorem exec_forwardFrame_placed (hr : s.rowOf p f = .forward) (hup : (s.port (otherPort p)).up = true)
    (hlen : (s.port (otherPort p)).forwarded.length < 256) :
    exec (.forwardFrame p f) s =
        .next (s.setPort (otherPort p) ((s.port (otherPort p)).placeForwarded f s.time))
      ∧ ((s.port (otherPort p)).sending ≠ none → exec (.forwardFrame p f) s =
        .next (s.setPort (otherPort p) { s.port (otherPort p) with
          forwarded := (s.port (otherPort p)).forwarded ++ [f] }))
      ∧ ((s.port (otherPort p)).sending = none → (s.port (otherPort p)).forwarded = [] →
        (s.port (otherPort p)).originate = [] → exec (.forwardFrame p f) s =
          .next (s.setPort (otherPort p) { s.port (otherPort p) with
            sending := some (.forwarded f), turns := 0, begun := some s.time })) := by
  rw [exec_forwardFrame_of_row hr, State.forward_of_place hup hlen]
  refine ⟨rfl, fun hs => ?_, fun hs hf ho => ?_⟩
  · rw [PortState.placeForwarded_of_busy f _ (PortState.isFree_eq_false (.inr hs))]
  · rw [PortState.placeForwarded_of_idle f _ ((PortState.isFree_iff _).2 ⟨hup, hs⟩) hf ho]

theorem exec_forwardFrame_overflow (hr : s.rowOf p f = .forward) (hup : (s.port (otherPort p)).up = true)
    (hlen : 256 ≤ (s.port (otherPort p)).forwarded.length) :
    exec (.forwardFrame p f) s = .next { s with
      device := { s.device with forwardOverflow := saturate32 s.device.forwardOverflow } } := by
  rw [exec_forwardFrame_of_row hr, State.forward_of_full hup hlen]
  rfl

theorem exec_forwardFrame_lost (hr : s.rowOf p f = .forward) (hup : (s.port (otherPort p)).up = false)
    (hcount : s.device.linkDiscarded < 4294967295) :
    exec (.forwardFrame p f) s = .next { s with
      device := { s.device with linkDiscarded := s.device.linkDiscarded + 1 } } := by
  rw [exec_forwardFrame_of_row hr, State.forward_of_down hup, State.countLinkDiscarded, saturate32By_one hcount]

end across

/-! ## Acceptance and the request check (R161, R162) -/

section management
variable {s : State} {c : Command} {p : Port} {f : Frame}

theorem State.accepts_iff : s.accepts p f = true ↔
    p = .plant ∧ (s.fallback = true ∨ ∃ e, s.station f.src = some e ∧ e.rights.manage = true) := by
  simp [State.accepts, Option.any_eq_true]

/-- A command other than RESTART is carried out by its body once it is accepted and passes the checks. -/
theorem State.takeCommand_of_row (hr : s.rowOf p f = .management c) (body : List Byte → State → State × Reply) :
    s.takeCommand c p f body =
      if s.accepts p f = true then
        (s.requestCheck f).elim
          ((body (argumentBytes f.payload) s).1.reply f .reply (body (argumentBytes f.payload) s).2)
          fun status => s.reply f .reply { status := status }
      else s.refuseManagement p f := by
  refine (if_pos hr).trans ?_
  unfold State.manage
  cases s.requestCheck f <;> rfl

/-- Every command, RESTART among them, is reached through the same acceptance and the same checks. -/
theorem exec_managementInstr_of_row (hr : s.rowOf p f = .management c) :
    ∃ done : State, exec (managementInstr c p f) s = .next
      (if s.accepts p f = true then
        (s.requestCheck f).elim done fun status => s.reply f .reply { status := status }
      else s.refuseManagement p f) := by
  cases c
  case restart =>
    refine ⟨s.doRestart f, congrArg Host.Outcome.next ((if_pos hr).trans ?_)⟩
    dsimp only
    cases s.requestCheck f <;> rfl
  all_goals exact ⟨_, congrArg Host.Outcome.next (State.takeCommand_of_row hr _)⟩

theorem refusedInFallback_iff (c : Command) : refusedInFallback c = true ↔
    c = .openWindow ∨ c = .closeWindow ∨ c = .quarantine ∨ c = .release ∨ c = .approveCandidate
      ∨ c = .discardCandidate ∨ c = .armWatch ∨ c = .disarmWatch := by
  cases c <;> decide

/-- A known command code is that of the row the frame is taken under. -/
theorem State.command_of_rowOf {c' : Command} (hr : s.rowOf p f = .management c)
    (hc : Command.ofCode (managementHeader f.payload).code = some c') : c' = c := by
  have hcode : f.code = (managementHeader f.payload).code := Frame.code_eq f
  rw [← State.commandRow_of_rowOf hr, Frame.commandRow, hcode, hc]
  rfl

/-- The checks in their order, in terms of the row's command. -/
theorem State.requestCheck_of_rowOf (hr : s.rowOf p f = .management c) : s.requestCheck f =
    (if (managementHeader f.payload).status ≠ 0 ∨ (managementHeader f.payload).reserved ≠ 0 then some .badFormat
    else if (managementHeader f.payload).kind ≠ 1 then some .badFormat
    else if f.payload.length < 8 + (managementHeader f.payload).length then some .badFormat
    else if Command.ofCode (managementHeader f.payload).code = none then some .unknownCommand
    else if (managementHeader f.payload).length < argumentLength c (f.payload.drop 8) then some .badFormat
    else if s.fallback = true ∧ (c = .openWindow ∨ c = .closeWindow ∨ c = .quarantine ∨ c = .release
        ∨ c = .approveCandidate ∨ c = .discardCandidate ∨ c = .armWatch ∨ c = .disarmWatch) then some .fallback
    else none) := by
  simp only [← refusedInFallback_iff]
  cases hcode : Command.ofCode (managementHeader f.payload).code with
  | none => simp [State.requestCheck, hcode, Config.managementHeaderBytes]
  | some c' =>
    obtain rfl := State.command_of_rowOf hr hcode
    simp [State.requestCheck, hcode, Config.managementHeaderBytes, argumentBytes, and_comm]

end management

/-! ## Replies (R148, R163, R174) -/

theorem State.reply_of_place {s : State} (f : Frame) (kind : OrigKind) (r : Reply) (h : s.plant.originate.length < 8) :
    s.reply f kind r = { s with
      plant := s.plant.placeOriginated { kind := kind, frame := replyFrame s.identity.station f r } s.time } := by
  rw [State.reply, State.originate_plant_eq, if_pos h, if_pos h]

theorem State.reply_of_full {s : State} (f : Frame) (kind : OrigKind) (r : Reply) (h : 8 ≤ s.plant.originate.length) :
    s.reply f kind r = { s with device := { s.device with notSent := saturate32By 1 s.device.notSent } } := by
  rw [State.reply, State.originate_plant_eq, if_neg (Nat.not_lt.2 h), if_neg (Nat.not_lt.2 h)]

theorem ReplyStatus.code_lt (st : ReplyStatus) : st.code < 256 := by cases st <;> decide

/-- The header of a reply's payload is read back, whatever follows it: it echoes the command code and the tag. -/
theorem managementHeader_replyPayload {h : ManagementHeader} {r : Reply} (hcode : h.code < 256) (htag : h.tag < 65536)
    (hlen : r.results.length < 65536) (tail : List Byte) :
    managementHeader (replyPayload h r ++ tail) =
      { kind := 2, code := h.code, tag := h.tag, status := r.status.code, reserved := 0
        length := r.results.length } := by
  simp [managementHeader, replyPayload, fieldAt_bytesOf_append, fieldAt_cons, fieldAt_bytesOf, fieldAt_byte,
    Nat.mod_eq_of_lt, hcode, htag, hlen, ReplyStatus.code_lt]

/-- The results stand behind the 8 bytes of the header. -/
theorem drop_replyPayload (h : ManagementHeader) (r : Reply) (tail : List Byte) :
    (replyPayload h r ++ tail).drop 8 = r.results ++ tail := by
  simp [replyPayload, bytesOf]

theorem le_padPayload_length (bs : List Byte) : 46 ≤ (padPayload bs).length := by
  simp only [padPayload, Config.minPayload, List.length_append, List.length_replicate]
  omega

end Sys2Proof.Machine

open Sys2Proof Sys2Proof.Machine

/-- Settles O16: the frame is placed, overflows or is lost to the link, by the state of the other port. -/
theorem forwardedFrameIsPlacedOrCounted : Obligations.ForwardedFrameIsPlacedOrCounted := fun _ _ =>
  ⟨fun hr => ⟨exec_forwardFrame_placed hr, exec_forwardFrame_overflow hr, exec_forwardFrame_lost hr⟩,
    fun hr => ⟨exec_forwardFrame_placed hr, exec_forwardFrame_overflow hr, exec_forwardFrame_lost hr⟩⟩

/-- Settles O51: every command is reached through one acceptance and one chain of checks, and a reply's frame is its
payload, padded. -/
theorem managementFramesAreCheckedAndAnswered : Obligations.ManagementFramesAreCheckedAndAnswered := by
  refine ⟨fun s c p f hr => ?_, fun s f kind r => ⟨State.reply_of_place f kind r, State.reply_of_full f kind r,
    fun hlen => ⟨rfl, rfl, rfl, ?_, ?_, le_padPayload_length _⟩⟩⟩
  · obtain ⟨done, hexec⟩ := exec_managementInstr_of_row hr
    refine ⟨State.accepts_iff, fun ha => ?_, fun st ha hk => ?_, State.requestCheck_of_rowOf hr⟩
    · rw [hexec, if_neg (Bool.eq_false_iff.1 ha)]
      cases p <;> rfl
    · rw [hexec, if_pos ha, hk]
      rfl
  · exact managementHeader_replyPayload (fieldAt_lt ..) (fieldAt_lt ..) hlen _
  · exact (congrArg (List.take _) (drop_replyPayload ..)).trans (List.take_left ..)
end

section
/-! PROOFS. LOAD-RECORD and CLEAR-SHADOW (O54): for each table which bytes are a record and which record they are, then
the command by its table, its position and its presence byte. -/

namespace Sys2Proof.Machine

/-! ## Fields behind leading bytes -/

theorem fieldAt_drop (bs : List Byte) (k off len : Nat) : fieldAt (bs.drop k) off len = fieldAt bs (k + off) len := by
  rw [fieldAt, fieldAt, List.drop_drop]

theorem addrAt_drop (bs : List Byte) (k off : Nat) : addrAt (bs.drop k) off = addrAt bs (k + off) := by
  rw [addrAt, addrAt, fieldAt_drop]

theorem addrAt_addrBytes (a : Addr) (tail : List Byte) : addrAt (addrBytes a ++ tail) 0 = a := by
  rw [addrAt, fieldAt_addrBytes, BitVec.ofNat_toNat, BitVec.setWidth_eq]

/-! ## Codes (R174) -/

theorem anyControllerOf_code (n : Option (Fin 32)) : anyControllerOf (anyControllerCode n) = some n := by
  cases n with
  | none => rfl
  | some n =>
    have hne : n.val ≠ 255 := by omega
    exact (if_neg hne).trans (congrArg (Option.map some) (controllerOf_val n))

theorem anyControllerOf_of_lt {c : Nat} (h : 31 < c) (ha : c ≠ 255) : anyControllerOf c = none := by
  rw [anyControllerOf, if_neg ha, controllerOf_of_lt h, Option.map_none]

theorem ImageCheck.ofCode_code (k : ImageCheck) : ImageCheck.ofCode k.code = some k := by cases k <;> rfl

theorem ImageCheck.code_of_ofCode {c : Nat} {k : ImageCheck} (h : ImageCheck.ofCode c = some k) : k.code = c := by
  unfold ImageCheck.ofCode at h
  split at h <;> cases h <;> rfl

theorem ImageCheck.code_bounds (k : ImageCheck) : 1 ≤ k.code ∧ k.code ≤ 3 := by cases k <;> decide

theorem Rights.ofCode_of_lt {c : Nat} (h : 31 < c) : Rights.ofCode c = none := if_neg (Nat.not_lt.2 h)

theorem Rights.code_of_ofCode {c : Nat} {r : Rights} (h : Rights.ofCode c = some r) : r.code = c := by
  have hc : c < 32 := Nat.lt_of_not_le fun hle => nomatch (Rights.ofCode_of_lt hle).symm.trans h
  have hall : ∀ c : Fin 32, ∀ r ∈ Rights.ofCode c.val, r.code = c.val := by decide
  exact hall ⟨c, hc⟩ r h

/-- Which of the rights a refusal of LOAD-RECORD speaks of are in a code. -/
theorem Rights.code_bits (r : Rights) :
    (r.code % 2 = 1 ↔ r.manage = true) ∧ (r.code / 4 % 2 = 1 ↔ r.write = true)
      ∧ (r.code / 16 % 2 = 1 ↔ r.force = true) := by
  obtain ⟨a, b, c, d, e⟩ := r
  revert a b c d e
  decide

/-! ## The bytes that are a record (R152, R174) -/

section decoders
variable {own : Addr} {bs : List Byte}

theorem scanIntervalOk_iff (i : Nat) : scanIntervalOk i = true ↔ i = 0 ∨ (10 ≤ i ∧ i ≤ 86400) := by
  simp [scanIntervalOk]

theorem individualAddr_iff (own a : Addr) : individualAddr own a = true ↔ isGroup a = false ∧ a ≠ own := by
  simp [individualAddr]

/-- The definition that bytes are, and the checks they pass. -/
theorem definitionOf_eq_some_iff {d : ControllerDef} : definitionOf own bs = some d ↔
    (addrAt bs 0 ≠ 0#48 ∧ (isGroup (addrAt bs 0) = false ∧ addrAt bs 0 ≠ own) ∧ fieldAt bs 6 2 ≤ 1499
      ∧ 1 ≤ fieldAt bs 8 1 ∧ fieldAt bs 8 1 ≤ 4 ∧ (((bs.drop 9).take 4).take (fieldAt bs 8 1)).Nodup
      ∧ (∀ b ∈ ((bs.drop 9).take 4).drop (fieldAt bs 8 1), b = 0#8) ∧ fieldAt bs 13 1 = 0
      ∧ (fieldAt bs 14 4 = 0 ∨ (10 ≤ fieldAt bs 14 4 ∧ fieldAt bs 14 4 ≤ 86400)))
    ∧ { addr := addrAt bs 0, statusOffset := fieldAt bs 6 2
        quietSet := ((bs.drop 9).take 4).take (fieldAt bs 8 1), scanInterval := fieldAt bs 14 4 } = d := by
  simp only [definitionOf, Option.ite_none_right_eq_some, Bool.and_eq_true, bne_iff_ne, individualAddr_iff,
    decide_eq_true_eq, distinctBytes_iff, List.all_eq_true, beq_iff_eq, scanIntervalOk_iff, Option.some.injEq, and_assoc]

/-- The station entry that bytes are, and the checks they pass. -/
theorem stationOf_eq_some_iff {e : StationEntry} : stationOf own bs = some e ↔
    (addrAt bs 0 ≠ 0#48 ∧ (isGroup (addrAt bs 0) = false ∧ addrAt bs 0 ≠ own) ∧ fieldAt bs 6 1 ≤ 3)
    ∧ ∃ r, Rights.ofCode (fieldAt bs 7 1) = some r ∧ { addr := addrAt bs 0, level := fieldAt bs 6 1, rights := r } = e := by
  unfold stationOf
  cases Rights.ofCode (fieldAt bs 7 1) with
  | none => simp
  | some r => simp [individualAddr_iff, and_assoc]

theorem grantOk_iff (g : Grant) : grantOk g = true ↔
    g.low ≤ g.high ∧ g.operations.manage = false ∧ g.level ≤ 3
    ∧ (g.operations.write = true ∨ g.operations.force = true → g.needed = true)
    ∧ (g.check ≠ .none → g.operations.write = true) := by
  simp only [grantOk, Bool.and_eq_true, Bool.not_eq_true', Bool.and_eq_false_imp, Bool.or_eq_true, bne_iff_ne,
    Bool.not_eq_false', decide_eq_true_eq, and_assoc]

/-- The grant entry that bytes are, and the checks they pass. -/
theorem grantOf_eq_some_iff {g : Grant} : grantOf bs = some g ↔
    (anyControllerOf (fieldAt bs 0 1) = some g.controller ∧ anyClassOf (fieldAt bs 1 2) = some g.cls
      ∧ fieldAt bs 3 2 = g.low ∧ fieldAt bs 5 2 = g.high ∧ Rights.ofCode (fieldAt bs 7 1) = some g.operations
      ∧ fieldAt bs 8 1 = g.level ∧ boolOfCode (fieldAt bs 9 1) = some g.needed
      ∧ ImageCheck.ofCode (fieldAt bs 10 1) = some g.check)
    ∧ grantOk g = true ∧ fieldAt bs 11 1 = 0 := by
  unfold grantOf
  split
  · rename_i n c r w k hn hc hr hw hk
    simp only [hn, hc, hr, hw, hk, Option.some.injEq, Option.ite_none_right_eq_some, Bool.and_eq_true, beq_iff_eq]
    constructor
    · rintro ⟨hok, rfl⟩
      exact ⟨⟨rfl, rfl, rfl, rfl, rfl, rfl, rfl, rfl⟩, hok⟩
    · obtain ⟨⟩ := g
      rintro ⟨⟨rfl, rfl, rfl, rfl, rfl, rfl, rfl, rfl⟩, hok⟩
      exact ⟨hok, rfl⟩
  · rename_i hnone
    refine iff_of_false nofun ?_
    rintro ⟨⟨hn, hc, -, -, hr, -, hw, hk⟩, -⟩
    exact hnone _ _ _ _ _ hn hc hr hw hk

/-- The image record that bytes are, and the checks they pass. -/
theorem imageOf_eq_some_iff {r : ImageRecord} : imageOf bs = some r ↔
    (1 ≤ fieldAt bs 4 4 ∧ fieldAt bs 4 4 ≤ 262144 ∧ fieldAt bs 12 10 = 0)
    ∧ ∃ n, controllerOf (fieldAt bs 0 1) = some n
      ∧ { controller := n, cls := fieldAt bs 1 1, idx := fieldAt bs 2 2, length := fieldAt bs 4 4
          fingerprint := BitVec.ofNat 32 (fieldAt bs 8 4), status := .approved } = r := by
  unfold imageOf
  cases controllerOf (fieldAt bs 0 1) with
  | none => simp
  | some n =>
    simp only [Option.ite_none_right_eq_some, Bool.and_eq_true, decide_eq_true_eq, beq_iff_eq, Option.some.injEq,
      exists_eq_left', and_assoc]
    rfl

/-! ### Records that are refused -/

theorem definitionOf_eq_none (h : addrAt bs 0 = 0#48 ∨ isGroup (addrAt bs 0) = true ∨ addrAt bs 0 = own
      ∨ 1499 < fieldAt bs 6 2 ∨ fieldAt bs 8 1 = 0 ∨ 4 < fieldAt bs 8 1
      ∨ ¬ ((bs.drop 9).take (fieldAt bs 8 1)).Nodup
      ∨ (∃ b ∈ ((bs.drop 9).take 4).drop (fieldAt bs 8 1), b ≠ 0#8) ∨ fieldAt bs 13 1 ≠ 0
      ∨ (fieldAt bs 14 4 ≠ 0 ∧ fieldAt bs 14 4 < 10) ∨ 86400 < fieldAt bs 14 4) :
    definitionOf own bs = none := by
  refine Option.eq_none_iff_forall_ne_some.2 fun d hd => ?_
  obtain ⟨⟨hzero, ⟨hgroup, hown⟩, hoff, hone, hfour, hnodup, hrest, hreserved, hscan⟩, -⟩ :=
    definitionOf_eq_some_iff.1 hd
  obtain h | h | h | h | h | h | h | ⟨b, hb, h⟩ | h | h | h := h
  · exact hzero h
  · exact nomatch hgroup.symm.trans h
  · exact hown h
  · omega
  · omega
  · omega
  · rw [List.take_take, Nat.min_eq_left hfour] at hnodup
    exact h hnodup
  · exact h (hrest b hb)
  · exact h hreserved
  · omega
  · omega

theorem stationOf_eq_none (h : addrAt bs 0 = 0#48 ∨ isGroup (addrAt bs 0) = true ∨ addrAt bs 0 = own
      ∨ 3 < fieldAt bs 6 1 ∨ 31 < fieldAt bs 7 1) : stationOf own bs = none := by
  refine Option.eq_none_iff_forall_ne_some.2 fun e he => ?_
  obtain ⟨⟨hzero, ⟨hgroup, hown⟩, hlevel⟩, r, hr, -⟩ := stationOf_eq_some_iff.1 he
  obtain h | h | h | h | h := h
  · exact hzero h
  · exact nomatch hgroup.symm.trans h
  · exact hown h
  · omega
  · exact nomatch (Rights.ofCode_of_lt h).symm.trans hr

theorem grantOf_eq_none (h : (31 < fieldAt bs 0 1 ∧ fieldAt bs 0 1 ≠ 255)
      ∨ (255 < fieldAt bs 1 2 ∧ fieldAt bs 1 2 ≠ 65535) ∨ fieldAt bs 5 2 < fieldAt bs 3 2 ∨ 31 < fieldAt bs 7 1
      ∨ fieldAt bs 7 1 % 2 = 1 ∨ 3 < fieldAt bs 8 1 ∨ 1 < fieldAt bs 9 1 ∨ fieldAt bs 10 1 = 0 ∨ 3 < fieldAt bs 10 1
      ∨ ((fieldAt bs 7 1 / 4 % 2 = 1 ∨ fieldAt bs 7 1 / 16 % 2 = 1) ∧ fieldAt bs 9 1 = 0)
      ∨ (fieldAt bs 10 1 ≠ 3 ∧ fieldAt bs 7 1 / 4 % 2 = 0) ∨ fieldAt bs 11 1 ≠ 0) : grantOf bs = none := by
  refine Option.eq_none_iff_forall_ne_some.2 fun g hg => ?_
  obtain ⟨⟨hn, hc, hlow, hhigh, hr, hlevel, hw, hk⟩, hok, hreserved⟩ := grantOf_eq_some_iff.1 hg
  obtain ⟨hle, hmanage, hthree, hneeded, hcheck⟩ := (grantOk_iff g).1 hok
  obtain ⟨bitManage, bitWrite, bitForce⟩ := g.operations.code_bits
  rw [Rights.code_of_ofCode hr] at bitManage bitWrite bitForce
  have hcode := ImageCheck.code_of_ofCode hk
  have hrange := g.check.code_bounds
  obtain ⟨h, ha⟩ | ⟨h, ha⟩ | h | h | h | h | h | h | h | ⟨h, hz⟩ | ⟨h, hz⟩ | h := h
  · exact nomatch (anyControllerOf_of_lt h ha).symm.trans hn
  · exact nomatch (anyClassOf_of_lt h ha).symm.trans hc
  · omega
  · exact nomatch (Rights.ofCode_of_lt h).symm.trans hr
  · exact nomatch hmanage.symm.trans (bitManage.1 h)
  · omega
  · exact nomatch (boolOfCode_of_lt h).symm.trans hw
  · omega
  · omega
  · rw [hneeded (h.imp bitWrite.1 bitForce.1), hz] at hw
    exact nomatch hw
  · have hnone : g.check ≠ .none := fun hn => h (by rw [← hcode, hn]; rfl)
    have := bitWrite.2 (hcheck hnone)
    omega
  · exact h hreserved

theorem imageOf_eq_none (h : 31 < fieldAt bs 0 1 ∨ fieldAt bs 4 4 = 0 ∨ 262144 < fieldAt bs 4 4
      ∨ fieldAt bs 12 10 ≠ 0) : imageOf bs = none := by
  refine Option.eq_none_iff_forall_ne_some.2 fun r hr => ?_
  obtain ⟨⟨hone, hmax, hreserved⟩, n, hn, -⟩ := imageOf_eq_some_iff.1 hr
  obtain h | h | h | h := h
  · exact nomatch (controllerOf_of_lt h).symm.trans hn
  · omega
  · omega
  · exact h hreserved

end decoders

/-! ### Records that are read back -/

/-- The fields of a definition's layout; its quiet set is padded to four bytes. -/
theorem definitionBytes_fields (d : ControllerDef) (tail : List Byte) (hfour : d.quietSet.length ≤ 4) :
    addrAt (definitionBytes d ++ tail) 0 = d.addr
    ∧ fieldAt (definitionBytes d ++ tail) 6 2 = d.statusOffset % 65536
    ∧ fieldAt (definitionBytes d ++ tail) 8 1 = d.quietSet.length
    ∧ ((definitionBytes d ++ tail).drop 9).take 4 = d.quietSet ++ List.replicate (4 - d.quietSet.length) 0#8
    ∧ fieldAt (definitionBytes d ++ tail) 13 1 = 0
    ∧ fieldAt (definitionBytes d ++ tail) 14 4 = d.scanInterval % 4294967296 := by
  have hset : (d.quietSet ++ List.replicate (4 - d.quietSet.length) 0#8).length = 4 := by simp; omega
  unfold definitionBytes
  generalize d.quietSet ++ List.replicate (4 - d.quietSet.length) 0#8 = padded at hset ⊢
  have hpadded : ∀ (b : List Byte) off len, 4 ≤ off → fieldAt (padded ++ b) off len = fieldAt b (off - 4) len :=
    fun b off len h => by rw [fieldAt_append _ _ _ _ (by omega), hset]
  have hlen : d.quietSet.length % 256 = d.quietSet.length := Nat.mod_eq_of_lt (by omega)
  simp [addrAt_addrBytes, fieldAt_addrBytes_append, fieldAt_bytesOf_append, fieldAt_bytesOf, fieldAt_byte, hpadded,
    fieldAt_cons, hlen, List.drop_append, List.drop_eq_nil_of_le, List.take_left' hset]

theorem definitionOf_definitionBytes {own : Addr} {d : ControllerDef} (tail : List Byte) (hzero : d.addr ≠ 0#48)
    (hgroup : isGroup d.addr = false) (hown : d.addr ≠ own) (hoff : d.statusOffset ≤ 1499)
    (hone : 1 ≤ d.quietSet.length) (hfour : d.quietSet.length ≤ 4) (hnodup : d.quietSet.Nodup)
    (hscan : d.scanInterval = 0 ∨ (10 ≤ d.scanInterval ∧ d.scanInterval ≤ 86400)) :
    definitionOf own (definitionBytes d ++ tail) = some d := by
  obtain ⟨haddr, hoffset, hcount, hquiet, hreserved, hinterval⟩ := definitionBytes_fields d tail hfour
  rw [Nat.mod_eq_of_lt (by omega)] at hoffset hinterval
  rw [definitionOf_eq_some_iff, haddr, hoffset, hcount, hquiet, hreserved, hinterval, List.take_left, List.drop_left]
  exact ⟨⟨hzero, ⟨hgroup, hown⟩, hoff, hone, hfour, hnodup, fun _ => List.eq_of_mem_replicate, rfl, hscan⟩, rfl⟩

/-- The fields of a station entry's layout. -/
theorem stationBytes_fields (e : StationEntry) (tail : List Byte) :
    addrAt (stationBytes e ++ tail) 0 = e.addr ∧ fieldAt (stationBytes e ++ tail) 6 1 = e.level % 256
    ∧ fieldAt (stationBytes e ++ tail) 7 1 = e.rights.code := by
  have hr : e.rights.code % 256 = e.rights.code := Nat.mod_eq_of_lt (Nat.lt_trans e.rights.code_lt (by decide))
  simp [stationBytes, addrAt_addrBytes, fieldAt_addrBytes_append, fieldAt_bytesOf_append, fieldAt_bytesOf, hr]

theorem stationOf_stationBytes {own : Addr} {e : StationEntry} (tail : List Byte) (hzero : e.addr ≠ 0#48)
    (hgroup : isGroup e.addr = false) (hown : e.addr ≠ own) (hlevel : e.level ≤ 3) :
    stationOf own (stationBytes e ++ tail) = some e := by
  obtain ⟨haddr, hlev, hrights⟩ := stationBytes_fields e tail
  rw [Nat.mod_eq_of_lt (by omega)] at hlev
  rw [stationOf_eq_some_iff, haddr, hlev, hrights]
  exact ⟨⟨hzero, ⟨hgroup, hown⟩, hlevel⟩, e.rights, e.rights.ofCode_code, rfl⟩

/-- The fields of a grant entry's layout. -/
theorem grantBytes_fields (g : Grant) (tail : List Byte) :
    fieldAt (grantBytes g ++ tail) 0 1 = anyControllerCode g.controller
    ∧ fieldAt (grantBytes g ++ tail) 1 2 = anyClassCode g.cls % 65536
    ∧ fieldAt (grantBytes g ++ tail) 3 2 = g.low % 65536 ∧ fieldAt (grantBytes g ++ tail) 5 2 = g.high % 65536
    ∧ fieldAt (grantBytes g ++ tail) 7 1 = g.operations.code ∧ fieldAt (grantBytes g ++ tail) 8 1 = g.level % 256
    ∧ fieldAt (grantBytes g ++ tail) 9 1 = boolCode g.needed ∧ fieldAt (grantBytes g ++ tail) 10 1 = g.check.code
    ∧ fieldAt (grantBytes g ++ tail) 11 1 = 0 := by
  have hn : anyControllerCode g.controller % 256 = anyControllerCode g.controller := by
    refine Nat.mod_eq_of_lt ?_
    cases g.controller <;> simp only [anyControllerCode] <;> omega
  have hr : g.operations.code % 256 = g.operations.code :=
    Nat.mod_eq_of_lt (Nat.lt_trans g.operations.code_lt (by decide))
  have hw : boolCode g.needed % 256 = boolCode g.needed := by cases g.needed <;> rfl
  have hk : g.check.code % 256 = g.check.code := by cases g.check <;> rfl
  simp [grantBytes, fieldAt_bytesOf_append, fieldAt_bytesOf, fieldAt_byte, hn, hr, hw, hk]

theorem grantOf_grantBytes {g : Grant} (tail : List Byte) (hc : ∀ c ∈ g.cls, c ≤ 255) (hhigh : g.high ≤ 65535)
    (hok : grantOk g = true) :
    grantOf (grantBytes g ++ tail) = some g := by
  obtain ⟨hn, hcls, hl, hh, hr, hlev, hw, hk, hreserved⟩ := grantBytes_fields g tail
  obtain ⟨hle, -, hthree, -⟩ := (grantOk_iff g).1 hok
  have hclass : anyClassCode g.cls < 65536 := by
    cases hg : g.cls with
    | none => decide
    | some c => exact Nat.lt_of_le_of_lt (hc c hg) (by decide)
  rw [Nat.mod_eq_of_lt (by omega)] at hcls hl hh hlev
  rw [anyClassCode_eq] at hcls
  rw [boolCode_eq] at hw
  rw [grantOf_eq_some_iff, hn, hcls, hr, hw, hk]
  exact ⟨⟨anyControllerOf_code _, anyClassOf_getD hc, hl, hh, Rights.ofCode_code _, hlev, boolOfCode_toNat _,
    ImageCheck.ofCode_code _⟩, hok, hreserved⟩

/-- The bytes that load an image record: behind its fingerprint all are reserved, as `imageOf` reads them (R174). -/
def loadedImageBytes (r : ImageRecord) : List Byte :=
  bytesOf 1 r.controller ++ bytesOf 1 r.cls ++ bytesOf 2 r.idx ++ bytesOf 4 r.length ++ bytesOf 4 r.fingerprint.toNat
    ++ List.replicate 10 0#8

theorem loadedImageBytes_fields (r : ImageRecord) (tail : List Byte) :
    fieldAt (loadedImageBytes r ++ tail) 0 1 = r.controller ∧ fieldAt (loadedImageBytes r ++ tail) 1 1 = r.cls % 256
    ∧ fieldAt (loadedImageBytes r ++ tail) 2 2 = r.idx % 65536
    ∧ fieldAt (loadedImageBytes r ++ tail) 4 4 = r.length % 4294967296
    ∧ fieldAt (loadedImageBytes r ++ tail) 8 4 = r.fingerprint.toNat
    ∧ fieldAt (loadedImageBytes r ++ tail) 12 10 = 0 := by
  have hn : r.controller.val % 256 = r.controller := by omega
  have hf : r.fingerprint.toNat % 4294967296 = r.fingerprint.toNat := Nat.mod_eq_of_lt r.fingerprint.isLt
  have hz : List.replicate 10 0#8 = bytesOf 10 0 := by decide
  simp only [loadedImageBytes, hz, List.append_assoc]
  simp [fieldAt_bytesOf_append, fieldAt_bytesOf, hn, hf]

theorem imageOf_loadedImageBytes {r : ImageRecord} (tail : List Byte) (hc : r.cls ≤ 255) (hi : r.idx ≤ 65535)
    (hone : 1 ≤ r.length) (hmax : r.length ≤ 262144) (hs : r.status = .approved) :
    imageOf (loadedImageBytes r ++ tail) = some r := by
  obtain ⟨hn, hcls, hidx, hlen, hf, hreserved⟩ := loadedImageBytes_fields r tail
  rw [Nat.mod_eq_of_lt (by omega)] at hcls hidx hlen
  rw [imageOf_eq_some_iff, hn, hcls, hidx, hlen, hf, BitVec.ofNat_toNat, BitVec.setWidth_eq, ← hs]
  exact ⟨⟨hone, hmax, hreserved⟩, r.controller, controllerOf_val _, rfl⟩

/-! ## LOAD-RECORD (R152) -/

theorem Table.ofCode_code (t : Table) : Table.ofCode t.code = some t := by cases t <;> rfl

theorem Table.ofCode_eq_none {c : Nat} (h : c = 0 ∨ 4 < c) : Table.ofCode c = none := by
  unfold Table.ofCode
  split
  case h_5 => rfl
  all_goals omega

section doLoadRecord
variable {s : State} {args : List Byte} {t : Table}

/-- A table, a position, a presence byte and what follows it, read from the arguments they are written in. -/
theorem loadArguments_read {i : Nat} {x : Byte} {rest : List Byte} (hi : i < t.positions)
    (h : args = [BitVec.ofNat 8 t.code] ++ bytesOf 2 i ++ [x] ++ rest) :
    Table.ofCode (fieldAt args 0 1) = some t ∧ fieldAt args 1 2 = i ∧ fieldAt args 3 1 = x.toNat
    ∧ args.drop 4 = rest := by
  have hcode : t.code % 256 = t.code := by cases t <;> rfl
  have hpos : i < 65536 := Nat.lt_of_lt_of_le hi (by cases t <;> decide)
  subst h
  refine ⟨?_, ?_, ?_, ?_⟩
  · simp [fieldAt_byte, hcode, Table.ofCode_code]
  · simp [fieldAt_cons, fieldAt_bytesOf, Nat.mod_eq_of_lt hpos]
  · simp [fieldAt_cons, fieldAt_bytesOf_append, fieldAt_byte]
  · simp [List.drop_append]

/-- What loads into the shadow bank is its new content. -/
theorem State.doLoadRecord_loads {record : Option (List Byte)} {b : Bank}
    (ht : Table.ofCode (fieldAt args 0 1) = some t) (hi : fieldAt args 1 2 < t.positions)
    (hr : recordArgument args = some record)
    (hb : loadInto s.identity.station s.shadow t (fieldAt args 1 2) record = some b) :
    s.doLoadRecord args = ({ s with shadow := b }, { status := .ok }) := by
  simp only [State.doLoadRecord, ht, hr, if_pos hi, hb]

/-- Presence 0 loads an empty position. -/
theorem State.doLoadRecord_empty {i : Nat} {tail : List Byte} {b : Bank} (hi : i < t.positions)
    (h : args = [BitVec.ofNat 8 t.code] ++ bytesOf 2 i ++ [0#8] ++ tail)
    (hb : loadInto s.identity.station s.shadow t i none = some b) :
    s.doLoadRecord args = ({ s with shadow := b }, { status := .ok }) := by
  obtain ⟨ht, hpos, hx, -⟩ := loadArguments_read hi h
  subst hpos
  exact State.doLoadRecord_loads ht hi (by rw [recordArgument, hx]; rfl) hb

/-- Presence 1 loads the bytes that follow. -/
theorem State.doLoadRecord_record {i : Nat} {record tail : List Byte} {b : Bank} (hi : i < t.positions)
    (h : args = [BitVec.ofNat 8 t.code] ++ bytesOf 2 i ++ [1#8] ++ record ++ tail)
    (hb : loadInto s.identity.station s.shadow t i (some (record ++ tail)) = some b) :
    s.doLoadRecord args = ({ s with shadow := b }, { status := .ok }) := by
  obtain ⟨ht, hpos, hx, hrest⟩ := loadArguments_read hi (h.trans (List.append_assoc ..))
  subst hpos
  exact State.doLoadRecord_loads ht hi (by rw [recordArgument, hx, hrest]; rfl) hb

theorem State.doLoadRecord_noTable (h : fieldAt args 0 1 = 0 ∨ 4 < fieldAt args 0 1) :
    s.doLoadRecord args = s.answer .outOfRange := by
  rw [State.doLoadRecord, Table.ofCode_eq_none h]

theorem State.doLoadRecord_noPresence (h : 1 < fieldAt args 3 1) : s.doLoadRecord args = s.answer .outOfRange := by
  have hr : recordArgument args = none := by rw [recordArgument, boolOfCode_of_lt h]
  unfold State.doLoadRecord
  rw [hr]
  split
  · contradiction
  · rfl

theorem State.doLoadRecord_noPosition (ht : fieldAt args 0 1 = t.code) (hi : t.positions ≤ fieldAt args 1 2) :
    s.doLoadRecord args = s.answer .outOfRange := by
  rw [State.doLoadRecord, ht, Table.ofCode_code]
  split
  · rename_i hu _
    cases hu
    exact if_neg (Nat.not_lt.2 hi)
  · rfl

/-- A record that does not load is refused, whatever its position. -/
theorem State.doLoadRecord_unloadable (ht : fieldAt args 0 1 = t.code) (hx : fieldAt args 3 1 = 1)
    (h : loadInto s.identity.station s.shadow t (fieldAt args 1 2) (some (args.drop 4)) = none) :
    s.doLoadRecord args = s.answer .outOfRange := by
  have hr : recordArgument args = some (some (args.drop 4)) := by rw [recordArgument, hx]; rfl
  simp only [State.doLoadRecord, ht, Table.ofCode_code, hr, h, ite_self]

end doLoadRecord

end Sys2Proof.Machine

open Sys2Proof Sys2Proof.Machine

/-- Settles O54: the arguments name a table, a position and a record, and the table's decoder reads the record back or
fails one of its checks. -/
theorem shadowBankIsLoaded : Obligations.ShadowBankIsLoaded := by
  intro s p f
  refine ⟨fun h => exec_managementInstr_body h nofun rfl, fun h => ⟨fun i tail hi ha => ?_, fun i tail hi ha => ?_,
    fun i tail hi ha => ?_, fun i tail hi ha => ?_, fun i d tail hi ha hzero hgroup hown hoff hone hfour hnodup hscan => ?_,
    fun i e tail hi ha hzero hgroup hown hlevel => ?_,
    fun i g tail hi ha hc hle hhigh hmanage hlevel hneeded hcheck => ?_,
    fun i r tail hi ha hc hidx hone hmax hs => ?_, ?_⟩⟩
  · exact exec_managementInstr_body h nofun (State.doLoadRecord_empty (t := .definitions) hi ha rfl)
  · exact exec_managementInstr_body h nofun (State.doLoadRecord_empty (t := .stations) hi ha rfl)
  · exact exec_managementInstr_body h nofun (State.doLoadRecord_empty (t := .grants) hi ha rfl)
  · exact exec_managementInstr_body h nofun (State.doLoadRecord_empty (t := .images) hi ha rfl)
  · exact exec_managementInstr_body h nofun (State.doLoadRecord_record (t := .definitions) hi ha (congrArg (Option.map _)
      (definitionOf_definitionBytes tail hzero hgroup hown hoff hone hfour hnodup hscan)))
  · exact exec_managementInstr_body h nofun (State.doLoadRecord_record (t := .stations) hi ha (congrArg (Option.map _)
      (stationOf_stationBytes tail hzero hgroup hown hlevel)))
  · exact exec_managementInstr_body h nofun (State.doLoadRecord_record (t := .grants) hi ha (congrArg (Option.map _)
      (grantOf_grantBytes tail hc hhigh ((grantOk_iff g).2 ⟨hle, hmanage, hlevel, hneeded, hcheck⟩))))
  · exact exec_managementInstr_body h nofun (State.doLoadRecord_record (t := .images) hi ha (congrArg (Option.map _)
      (imageOf_loadedImageBytes tail hc hidx hone hmax hs)))
  · rintro _ rfl hout
    refine exec_managementInstr_body h nofun (?_ : s.doLoadRecord (f.payload.drop 8) = s.answer .outOfRange)
    generalize f.payload.drop 8 = a at hout ⊢
    have hfield : ∀ off len, fieldAt (a.drop 4) off len = fieldAt a (4 + off) len := fieldAt_drop a 4
    have haddr : addrAt (a.drop 4) 0 = addrAt a 4 := addrAt_drop a 4 0
    have hdrop : (a.drop 4).drop 9 = a.drop 13 := List.drop_drop
    obtain ht | ht | hx | ⟨ht, hi⟩ | ⟨ht, hi⟩ | ⟨ht, hi⟩ | ⟨ht, hi⟩ | ⟨ht, hx, hr⟩ | ⟨ht, hx, hr⟩ | ⟨ht, hx, hr⟩
      | ⟨ht, hx, hr⟩ := hout
    · exact State.doLoadRecord_noTable (.inl ht)
    · exact State.doLoadRecord_noTable (.inr ht)
    · exact State.doLoadRecord_noPresence hx
    · exact State.doLoadRecord_noPosition (t := .definitions) ht hi
    · exact State.doLoadRecord_noPosition (t := .stations) ht hi
    · exact State.doLoadRecord_noPosition (t := .grants) ht hi
    · exact State.doLoadRecord_noPosition (t := .images) ht hi
    · exact State.doLoadRecord_unloadable (t := .definitions) ht hx (congrArg (Option.map _)
        (definitionOf_eq_none (by simpa only [hfield, haddr, hdrop] using hr)))
    · exact State.doLoadRecord_unloadable (t := .stations) ht hx (congrArg (Option.map _)
        (stationOf_eq_none (by simpa only [hfield, haddr] using hr)))
    · exact State.doLoadRecord_unloadable (t := .grants) ht hx (congrArg (Option.map _)
        (grantOf_eq_none (by simpa only [hfield] using hr)))
    · exact State.doLoadRecord_unloadable (t := .images) ht hx (congrArg (Option.map _)
        (imageOf_eq_none (by simpa only [hfield] using hr)))
end

section
/-! PROOFS. The machine's step on a queue that is not empty (O1). -/

open Sys2Proof Sys2Proof.Machine

/-- Settles O1: the queue decides which branch of `step` is taken, and its front and rest are that branch's command and
the queue it runs against. -/
theorem stepRunsFrontCommand : Obligations.StepRunsFrontCommand := by
  intro s c rest hpending
  unfold step
  rw [hpending]
end

section
/-! PROOFS. What one step can do to the windows and quiet runs of the controllers, the transfer slots, the lanes and the
Segment Queue: the inversion lemma `step_acts` that the invariants of downloads and windows rest on (O6, O7, O10, O11). -/

namespace Sys2Proof.Machine

/-! ## What the acts speak of -/

/-- The window state and the quiet run of every defined controller number (R20, R25). -/
def windowsIn (v : Vector (Option Controller) 32) : Vector (Option (Window × Option QuietRun)) 32 :=
  v.map (Option.map fun c => (c.window, c.monitor.quiet))

theorem windowsIn_getElem (v : Vector (Option Controller) 32) (n : Fin 32) :
    (windowsIn v)[n] = v[n].map fun c => (c.window, c.monitor.quiet) := by
  simp [windowsIn]

/-- A change of a controller that leaves its window and its quiet run. -/
theorem State.updateController_windows (s : State) (n : Fin 32) {f : Controller → Controller}
    (hw : ∀ c, (f c).window = c.window) (hq : ∀ c, (f c).monitor.quiet = c.monitor.quiet) :
    windowsIn (s.updateController n f).controllers = windowsIn s.controllers := by
  refine Vector.ext fun i hi => ?_
  have h := s.controller_updateController n ⟨i, hi⟩ f
  simp only [State.controller, Fin.getElem_fin] at h
  simp only [windowsIn, Vector.getElem_map, h]
  split
  · simp [Function.comp_def, hw, hq]
  · rfl

@[simp] theorem State.updateSchedule_windows (s : State) (n : Fin 32) (f : Schedule → Schedule) :
    windowsIn (s.updateSchedule n f).controllers = windowsIn s.controllers :=
  s.updateController_windows n (fun _ => rfl) (fun _ => rfl)

@[simp] theorem State.postponeScan_windows (s : State) (n : Fin 32) :
    windowsIn (s.postponeScan n).controllers = windowsIn s.controllers := by
  simp only [State.postponeScan]; repeat' split
  all_goals simp

@[simp] theorem State.endRound_windows (s : State) (n : Fin 32) (v : Nat) (b : Bool) :
    windowsIn (s.endRound n v b).controllers = windowsIn s.controllers := by
  simp [State.endRound]

@[simp] theorem State.continueRound_windows (s : State) (n : Fin 32) (v l : Nat) :
    windowsIn (s.continueRound n v l).controllers = windowsIn s.controllers := by
  simp only [State.continueRound]; repeat' split
  all_goals simp

@[simp] theorem State.checkController_windows (s : State) (n : Fin 32) :
    windowsIn (s.checkController n).controllers = windowsIn s.controllers := by
  simp only [State.checkController]; repeat' split
  all_goals simp

@[simp] theorem State.scheduleCheck_windows (s : State) :
    windowsIn s.scheduleCheck.controllers = windowsIn s.controllers :=
  foldl_keeps (fun s => windowsIn s.controllers) _ (by simp) _ s

@[simp] theorem State.cancelRound_windows (s : State) :
    windowsIn s.cancelRound.controllers = windowsIn s.controllers := by
  simp only [State.cancelRound]; repeat' split
  all_goals simp

@[simp] theorem State.cancelRoundOf_windows (s : State) (n : Fin 32) :
    windowsIn (s.cancelRoundOf n).controllers = windowsIn s.controllers := by
  simp only [State.cancelRoundOf]; repeat' split
  all_goals simp

@[simp] theorem State.miss_windows (s : State) (r : Round) (i : ImageRecord) (v : Option Nat) :
    windowsIn (s.miss r i v).controllers = windowsIn s.controllers := by
  simp only [State.miss]; repeat' split
  all_goals simp

@[simp] theorem State.scanTimeout_windows (s : State) :
    windowsIn s.scanTimeout.controllers = windowsIn s.controllers := by
  simp only [State.scanTimeout]; repeat' split
  all_goals simp

@[simp] theorem State.cancelForSelection_windows (s : State) (b : Bank) :
    windowsIn (s.cancelForSelection b).controllers = windowsIn s.controllers := by
  simp only [State.cancelForSelection]; repeat' split
  all_goals simp

/-- All that the invariants of downloads and windows speak of. -/
def State.downloads (s : State) : Vector Slot 8 × List SegmentEntry × Vector (Option LaneWork) 2
    × Vector (Option (Window × Option QuietRun)) 32 :=
  (s.slots, s.waiting, s.lanes, windowsIn s.controllers)

theorem State.updateController_downloads (s : State) (n : Fin 32) {f : Controller → Controller}
    (hw : ∀ c, (f c).window = c.window) (hq : ∀ c, (f c).monitor.quiet = c.monitor.quiet) :
    (s.updateController n f).downloads = s.downloads := by
  simp [State.downloads, s.updateController_windows n hw hq]

section downloads
variable {s t : State}

theorem State.slot_of_downloads (h : t.downloads = s.downloads) (k : Fin 8) : t.slot k = s.slot k := by
  simp only [State.downloads, Prod.mk.injEq] at h
  simp [State.slot, h]

theorem State.lane_of_downloads (h : t.downloads = s.downloads) (l : Fin 2) : t.lane l = s.lane l := by
  simp only [State.downloads, Prod.mk.injEq] at h
  simp [State.lane, h]

theorem State.controller_of_downloads (h : t.downloads = s.downloads) (n : Fin 32) :
    (t.controller n).map (fun c => (c.window, c.monitor.quiet))
      = (s.controller n).map fun c => (c.window, c.monitor.quiet) := by
  simp only [State.downloads, Prod.mk.injEq] at h
  obtain ⟨-, -, -, hw⟩ := h
  rw [State.controller, State.controller, ← windowsIn_getElem, ← windowsIn_getElem, hw]

theorem State.window_of_downloads (h : t.downloads = s.downloads) (n : Fin 32) : t.window? n = s.window? n := by
  simpa [State.window?, Function.comp_def] using congrArg (Option.map Prod.fst) (State.controller_of_downloads h n)

theorem State.quietRun_of_downloads (h : t.downloads = s.downloads) (n : Fin 32) : t.quietRun n = s.quietRun n := by
  have hq := congrArg (Option.map Prod.snd) (State.controller_of_downloads h n)
  simp only [Option.map_map, Function.comp_def] at hq
  unfold State.quietRun
  cases ht : t.controller n <;> cases hs : s.controller n <;> simp_all

end downloads

/-! ## One act -/

/-- The window states that have no slot and are not QUARANTINE, but for OPEN. -/
def Window.isShut (w : Option Window) : Prop := w = none ∨ w = some .locked ∨ ∃ c, w = some (.quarantined c)

/-- A window changes without its slot: it opens, its opening fails, or the fields of closing change (R26, R29, R31 to
R33). -/
inductive Window.Moves : Window → Window → Prop where
  | accepted (m : WindowMode) (l d : Nat) : Moves .locked (.opening m l d)
  | failed (m : WindowMode) (l d : Nat) : Moves (.opening m l d) .locked
  | verify (m : WindowMode) (d d' : Option Nat) (k : Fin 8) (c c' : Option CloseCause) :
      Moves (.verify m d k c) (.verify m d' k c')
  | commitWait (m : WindowMode) (d d' : Option Nat) (k : Fin 8) (c c' : Option CloseCause) :
      Moves (.commitWait m d k c) (.commitWait m d' k c')

/-- A window goes at once: to QUARANTINE from any other state, to LOCKED from OPENING, OPEN and TRANSFER, and from VERIFY
at a running controller (R30, R32, R33, R38). -/
inductive Window.Goes : Window → Window → Prop where
  | quarantined {w : Window} (c : QuarantineCause) : w.isQuarantined = false → Goes w (.quarantined c)
  | opening (m : WindowMode) (l d : Nat) : Goes (.opening m l d) .locked
  | opened (m : WindowMode) (d : Nat) : Goes (.opened m d) .locked
  | transfer (m : WindowMode) (d : Nat) (k : Fin 8) : Goes (.transfer m d k) .locked
  | verify (m : WindowMode) (d : Option Nat) (k : Fin 8) (c : Option CloseCause) : Goes (.verify m d k c) .locked

/-- No slot is live, nothing is queued or in a lane, and no window is open. -/
structure State.Cleared (t : State) : Prop where
  slots : ∀ k, t.slot k = .free
  waiting : t.waiting = []
  lanes : ∀ l, t.lane l = none
  windows : ∀ n, Window.isShut (t.window? n)

/-- A selection: every slot is FREE, before and after it, and no window is open after it (R42). -/
structure State.Reselected (s t : State) : Prop where
  free : ∀ k, s.slot k = .free
  slots : t.slots = s.slots
  waiting : t.waiting = s.waiting
  lanes : t.lanes = s.lanes
  windows : ∀ n, Window.isShut (t.window? n)

/-- One act of the Transfer Tracker, the Window Controller, the Status Monitor or the Fingerprint Unit on the windows, the
slots, the lanes and the Segment Queue. -/
inductive State.Act (s : State) : State → Prop where
  /-- an abort ends a transfer (R71 to R74, R77, R78, R86) -/
  | ended {k : Fin 8} {x : Transfer} (b : Bool) (r : Option Reason) (v : Option Quad) (c : Bool) :
      (s.slot k).abortable = some x → Act s ((s.abort k b r v).transferEnded x.controller c)
  | went {n : Fin 32} {w w' : Window} (r : Reason) : s.window? n = some w → w.Goes w' →
      Act s ((s.abortOwned w r).setWindow n w')
  | moved {n : Fin 32} {w w' : Window} : s.window? n = some w → w.Moves w' → Act s (s.setWindow n w')
  /-- RELEASE (R40) -/
  | released {n : Fin 32} {c : QuarantineCause} : s.window? n = some (.quarantined c) →
      s.releasedSlotNames n = false → Act s (s.setWindow n .locked)
  /-- an observation in OPENING that does not settle (R25) -/
  | observed {n : Fin 32} {m : WindowMode} {l d : Nat} (q : Option QuietRun) :
      s.window? n = some (.opening m l d) → Act s (s.setQuiet n q)
  /-- the window settles, after its quiet run or one that begins now (R28) -/
  | settled {n : Fin 32} {m : WindowMode} {l d p : Nat} : s.window? n = some (.opening m l d) →
      s.quietEnough ((s.quietRun n).getD { since := s.time, settle := p }) = true → Act s (s.settle n m l)
  /-- a BEGIN starts a transfer (R56) -/
  | started {n : Fin 32} {k : Fin 8} {m : WindowMode} {d : Nat} (f : Frame) (check : ImageCheck) :
      s.slot k = .free → s.window? n = some (.opened m d) → Act s (s.startTransfer n k f check)
  /-- a SEGMENT that repeats the last one, or a BEGIN that is answered (R71, R76) -/
  | retaken {k : Fin 8} {x : Transfer} {z : Sums} {p : Nat} {q : Intake} (q' : Intake) :
      s.slot k = .taking x z p q → Act s (s.setSlot k (.taking x z p q'))
  /-- a SEGMENT is accepted (R74) -/
  | accepted {k : Fin 8} {x x' : Transfer} {z : Sums} {p : Nat} {q q' : Intake} {e : SegmentEntry} :
      s.slot k = .taking x z p q → x'.controller = x.controller → s.segmentsHeld < Config.segmentPlaces → e.slot = k →
      Act s ((s.setSlot k (.taking x' z (p + 1) q')).appendSegment e)
  /-- a COMMIT is held (R78) -/
  | held {k : Fin 8} {x : Transfer} {z : Sums} {p : Nat} {q : Intake} (f : Frame) :
      s.slot k = .taking x z p q → p ≠ 0 → Act s ((s.setSlot k (.verifying x z p f)).commitHeld x.controller)
  /-- a COMMIT with nothing pending completes at once (R78, R79) -/
  | completed {k : Fin 8} {x : Transfer} {z : Sums} {q : Intake} (f : Frame) : s.slot k = .taking x z 0 q →
      Act s (((s.setSlot k (.verifying x z 0 f)).commitHeld x.controller).completeVerifying k)
  /-- a released commit is answered, or not in time (R84) -/
  | answered {k : Fin 8} {x : Transfer} {d : Nat} (notice : Option (NoticeKind × Option Quad)) :
      s.slot k = .released x d → Act s (s.endReleased k notice)
  /-- a lane finishes (R101 to R103) -/
  | finished {l : Fin 2} {w : LaneWork} : s.lane l = some w → Act s (s.finishLane l)
  /-- a Line link loss (R41, R91) -/
  | lost : Act s ((List.finRange 32).foldl State.linkLossWindow ((List.finRange 8).foldl State.linkLossSlot s))
  | cleared {t : State} : t.Cleared → Act s t
  | reselected {t : State} : s.Reselected t → Act s t

/-- From `s` to `u` nothing changes of what the acts speak of or depend on. -/
structure State.Before (s u : State) : Prop where
  downloads : u.downloads = s.downloads
  time : u.time = s.time
  timing : u.timing = s.timing
  active : u.active = s.active

/-- From `s` to `t` there is one act, or none, on the windows, the slots, the lanes and the Segment Queue. -/
inductive State.Acts (s t : State) : Prop where
  | still : t.downloads = s.downloads → Acts s t
  | act {u v : State} : s.Before u → u.Act v → t.downloads = v.downloads → Acts s t

theorem State.Act.acts {s t : State} (h : s.Act t) : s.Acts t := .act ⟨rfl, rfl, rfl, rfl⟩ h rfl

namespace State.Acts
variable {s t u : State}

theorem refl (s : State) : s.Acts s := .still rfl

/-- What follows an act and reaches nothing that the acts speak of. -/
theorem after (h : s.Acts t) (hu : u.downloads = t.downloads) : s.Acts u := by
  cases h with
  | still h => exact .still (hu.trans h)
  | act hb ha hv => exact .act hb ha (hu.trans hv)

/-- What comes before an act and reaches nothing that the acts speak of or depend on. -/
theorem before (hb : s.Before u) (h : u.Acts t) : s.Acts t := by
  cases h with
  | still h => exact .still (h.trans hb.downloads)
  | act hb' ha hv =>
    exact .act ⟨hb'.downloads.trans hb.downloads, hb'.time.trans hb.time, hb'.timing.trans hb.timing,
      hb'.active.trans hb.active⟩ ha hv

theorem ite {c : Prop} [Decidable c] (h : c → s.Acts t) : s.Acts (if c then t else s) := by
  split
  · exact h ‹_›
  · exact .refl s

theorem post (h : s.Acts t) (n : Notice) : s.Acts (t.post n) := h.after (by simp [State.downloads])

theorem forward (h : s.Acts t) (p : Port) (f : Frame) : s.Acts (t.forward p f) :=
  h.after (by simp [State.downloads])

theorem offer (h : s.Acts t) (n : Fin 32) (o : Operation) (f : Frame) (e : Ending) : s.Acts (t.offer n o f e) :=
  h.after (by simp [State.downloads])

theorem scheduleCheck (h : s.Acts t) : s.Acts t.scheduleCheck := h.after (by simp [State.downloads])

theorem cancelRoundOf (h : s.Acts t) (n : Fin 32) : s.Acts (t.cancelRoundOf n) :=
  h.after (by simp [State.downloads])

theorem reply (h : s.Acts t) (f : Frame) (k : OrigKind) (r : Reply) : s.Acts (t.reply f k r) :=
  h.after (by simp [State.downloads, State.reply])

end State.Acts

/-! ## Windows -/

theorem State.refuse_before (s : State) (n : Option (Fin 32)) (o : Operation) (f : Frame) (r : Reason) :
    s.Before (s.refuse n o f r) := by constructor <;> simp [State.downloads]

theorem State.forward_before (s : State) (p : Port) (f : Frame) : s.Before (s.forward p f) := by
  constructor <;> simp [State.downloads]

theorem State.closeNow_acts {s : State} {n : Fin 32} {w : Window} (c : WindowCause) (hw : s.window? n = some w)
    (hg : w.Goes .locked) : s.Acts (s.closeNow n w c) := (State.Act.went .locked hw hg).acts.post _

theorem State.enterQuarantine_acts (s : State) (n : Fin 32) (c : QuarantineCause) :
    s.Acts (s.enterQuarantine n c) := by
  unfold State.enterQuarantine
  split
  · exact .refl s
  · exact .refl s
  · rename_i w hne hw
    refine (State.Act.went .quarantine hw (.quarantined c ?_)).acts.post _
    cases w with
    | quarantined q => exact absurd rfl (hne q)
    | _ => rfl

theorem State.observeQuiet_acts {s : State} {n : Fin 32} {m : WindowMode} {l d : Nat}
    (hw : s.window? n = some (.opening m l d)) : s.Acts (s.observeQuiet n m l) := by
  unfold State.observeQuiet
  dsimp only
  split
  · exact (State.Act.settled hw ‹_›).acts
  · exact (State.Act.observed _ hw).acts

theorem State.observe_acts (s : State) (n : Fin 32) (o : Observation) : s.Acts (s.observe n o) := by
  unfold State.observe
  split
  · exact .refl s
  · rename_i w hw
    split
    · exact State.observeQuiet_acts hw
    · exact .refl s
    · exact (State.Act.observed none hw).acts
    · exact State.closeNow_acts _ hw (.opened _ _)
    · exact State.closeNow_acts _ hw (.transfer _ _ _)
    · exact State.closeNow_acts _ hw (.verify _ _ _ _)
    · unfold State.runAfterCommit
      split
      · exact .refl s
      · exact (State.Act.moved hw (.commitWait _ _ _ _ _ _)).acts.post _
    · exact .refl s
    · exact .refl s

theorem State.monitorObserves_acts (s : State) (n : Fin 32) (o : Observation) (b : Bool) :
    s.Acts (s.monitorObserves n o b) := by
  refine .before ⟨?_, by simp, by simp, by simp⟩ (State.observe_acts _ n o)
  exact s.updateController_downloads n (fun _ => rfl) (fun _ => rfl)

theorem State.settleExpiry_acts (s : State) (n : Fin 32) : s.Acts (s.settleExpiry n) := by
  unfold State.settleExpiry
  split
  · rename_i m l d q hw hq
    split
    · exact (State.Act.settled (p := 0) hw (by rw [hq]; assumption)).acts
    · exact (State.Act.observed _ hw).acts
  · exact .refl s

theorem State.closeOrPend_acts {s : State} {n : Fin 32} {w : Window} (hw : s.window? n = some w) (c : CloseCause)
    (g : Option Nat → Option Nat) : s.Acts (s.closeOrPend n w c g) := by
  cases w with
  | locked => exact .refl s
  | quarantined _ => exact .refl s
  | verify m d k p => exact (State.Act.moved hw (.verify m d _ k p _)).acts
  | commitWait m d k p => exact (State.Act.moved hw (.commitWait m d _ k p _)).acts
  | opening m l d => exact State.closeNow_acts _ hw (.opening m l d)
  | opened m d => exact State.closeNow_acts _ hw (.opened m d)
  | transfer m d k => exact State.closeNow_acts _ hw (.transfer m d k)

/-! ## Requests -/

/-- A judgement that starts a transfer finds the window OPEN (R52). -/
theorem dispose_start {o : Operation} {needed : Bool} {w : Window} (h : dispose o needed w = .start) :
    ∃ m d, w = .opened m d := by
  obtain rfl := begins_of_dispose_start h
  cases w <;> simp [dispose] at h ⊢

theorem State.opened_of_judge {s : State} {n : Fin 32} {o : Operation} {f : Frame}
    (h : (s.judgeFrame n o f).outcome = .start) : ∃ m d, s.window? n = some (.opened m d) := by
  unfold State.judgeFrame State.judge at h
  dsimp only at h
  repeat' split at h
  all_goals try cases h
  obtain ⟨m, d, hw⟩ := dispose_start h
  unfold State.windowOf at hw
  cases hn : s.window? n <;> simp_all

theorem State.slot_of_stepThree {s : State} {n : Fin 32} {f : Frame} {k : Fin 8} (h : s.stepThree n f = .ok k) :
    s.requestSlot n f = some k := by
  unfold State.stepThree at h
  repeat' split at h
  all_goals simp_all

theorem State.admitBegin_acts (s : State) (n : Fin 32) (f : Frame) : s.Acts (s.admitBegin n f) := by
  unfold State.admitBegin
  dsimp only
  split
  · exact .still (by simp [State.downloads, State.refuseAndOffer])
  · exact .refl s
  · rename_i hstart
    split
    · exact .still (by simp [State.downloads, State.refuseAndOffer])
    · rename_i hok
      obtain ⟨m, d, hw⟩ := State.opened_of_judge hstart
      have hfree := ((s.freeSlot_eq_some_iff _).1 (State.freeSlot_of_startChecks hok)).1
      exact (State.Act.started f _ hfree hw).acts.offer n .begins f .start

theorem State.admitSingle_acts (s : State) (n : Fin 32) (o : Operation) (f : Frame) : s.Acts (s.admitSingle n o f) := by
  unfold State.admitSingle
  split
  · exact .still (by simp [State.downloads, State.passAndOffer])
  · exact .still (by simp [State.downloads, State.refuseAndOffer])
  · exact .refl s

section handed
variable {s : State} {n : Fin 32} {k : Fin 8} {x : Transfer}

theorem State.ended_acts {u : State} (hb : s.Before u) (hx : (s.slot k).abortable = some x) (b : Bool)
    (r : Option Reason) (v : Option Quad) (c : Bool) :
    s.Acts ((u.abort k b r v).transferEnded x.controller c) :=
  .before hb (State.Act.ended b r v c (by rw [State.slot_of_downloads hb.downloads]; exact hx)).acts

theorem State.refuseAndAbort_acts (hx : (s.slot k).abortable = some x) (hn : x.controller = n) (o : Operation)
    (f : Frame) (r : Reason) : s.Acts (s.refuseAndAbort n k o f r) := by
  subst hn
  exact State.ended_acts (s.refuse_before _ o f r) hx true _ none false

theorem State.newSegment_acts {z : Sums} {p : Nat} {q : Intake} (hk : s.slot k = .taking x z p q)
    (hn : x.controller = n) (f : Frame) : s.Acts (s.newSegment n k x z p q f).1 := by
  unfold State.newSegment
  dsimp only
  split
  · exact State.refuseAndAbort_acts (by rw [hk]; rfl) hn .segment f .length
  · split
    · exact .still (by simp [State.downloads])
    · rename_i hroom
      dsimp only
      have hb := s.forward_before .line f
      refine .before hb (State.Act.acts (.accepted ((State.slot_of_downloads hb.downloads k).trans hk) ?_ ?_ ?_))
      · rfl
      · have hheld : (s.forward .line f).segmentsHeld = s.segmentsHeld := by simp [State.segmentsHeld]
        rw [hheld]
        simpa [State.segmentQueueFull] using hroom
      · rfl

theorem State.segmentAt_acts (hk : (s.slot k).live = some x) (hn : x.controller = n) (f : Frame) :
    s.Acts (s.segmentAt n k f).1 := by
  unfold State.segmentAt
  split
  · rename_i y z p q hs
    obtain rfl : y = x := by simpa [hs, Slot.live] using hk
    unfold State.sequenceSegment
    dsimp only
    split
    · exact State.newSegment_acts hs hn f
    · split
      · have hb := s.forward_before .line f
        exact .before hb (State.Act.retaken _ ((State.slot_of_downloads hb.downloads k).trans hs)).acts
      · exact State.refuseAndAbort_acts (by rw [hs]; rfl) hn .segment f .sequence
  · exact .still (by simp [State.downloads])

theorem State.commitAt_acts (hk : (s.slot k).live = some x) (hn : x.controller = n) (f : Frame) :
    s.Acts (s.commitAt n k f).1 := by
  unfold State.commitAt
  split
  · rename_i y z p q hs
    obtain rfl : y = x := by simpa [hs, Slot.live] using hk
    subst hn
    split
    · dsimp only
      split
      · rename_i hp
        subst hp
        exact (State.Act.completed f hs).acts
      · exact (State.Act.held f hs ‹_›).acts
    · exact State.refuseAndAbort_acts (by rw [hs]; rfl) rfl .commit f .length
  · exact .refl s
  · exact .still (by simp [State.downloads])

theorem State.abandonAt_acts (hk : (s.slot k).live = some x) (hn : x.controller = n) (f : Frame) :
    s.Acts (s.abandonAt n k f).1 := by
  unfold State.abandonAt
  split
  · rename_i y hy
    obtain rfl : y = x := by cases hs : s.slot k <;> simp_all [Slot.live, Slot.abortable]
    subst hn
    exact State.ended_acts (s.forward_before .line f) hy false none none false
  · exact .still (by simp [State.downloads])

theorem State.handToTracker_acts (s : State) (n : Fin 32) (o : Operation) (f : Frame)
    {tracker : State → Fin 8 → State × Ending}
    (h : ∀ k x, (s.slot k).live = some x → x.controller = n → s.Acts (tracker s k).1) :
    s.Acts (s.handToTracker n o f tracker) := by
  unfold State.handToTracker
  split
  · exact .still (by simp [State.downloads, State.refuseAndOffer])
  · rename_i k hk
    obtain ⟨x, hx, hn, -⟩ := State.live_of_requestSlot (State.slot_of_stepThree hk)
    exact (h k x hx hn).offer n o f _

end handed

theorem State.requestEffect_acts (s : State) (o : Operation) (n : Fin 32) (f : Frame) :
    s.Acts (s.requestEffect o n f) := by
  cases o with
  | read => exact .still (by simp [State.downloads, State.requestEffect, State.passRead])
  | summary => exact .still (by simp [State.downloads, State.requestEffect, State.passRead])
  | setParam => exact s.admitSingle_acts n .setParam f
  | mode => exact s.admitSingle_acts n .mode f
  | force => exact s.admitSingle_acts n .force f
  | begins => exact s.admitBegin_acts n f
  | segment =>
    exact s.handToTracker_acts n .segment f (tracker := fun s k => s.segmentAt n k f) fun _ _ hx hn =>
      State.segmentAt_acts hx hn f
  | commit =>
    exact s.handToTracker_acts n .commit f (tracker := fun s k => s.commitAt n k f) fun _ _ hx hn =>
      State.commitAt_acts hx hn f
  | abandon =>
    exact s.handToTracker_acts n .abandon f (tracker := fun s k => s.abandonAt n k f) fun _ _ hx hn =>
      State.abandonAt_acts hx hn f

theorem State.takeRequest_acts (s : State) (o : Operation) (f : Frame) :
    s.Acts (s.takeRequest o f fun s n => s.requestEffect o n f) := by
  refine .ite fun _ => ?_
  split
  · exact .still (by simp [State.downloads, State.dropMalformed])
  · split
    · refine .still ?_
      unfold State.closedRequest
      split <;> simp [State.downloads]
    · split
      · exact s.requestEffect_acts o _ f
      · exact .refl s

/-! ## Responses and deadlines of a slot -/

/-- The slot a BEGIN response matches is in BEGUN, and its controller is the one that answers (R70). -/
theorem State.taking_of_beginSlot {s : State} {n : Fin 32} {f : Frame} {k : Fin 8} (h : s.beginSlot n f = some k) :
    ∃ x z p q, s.slot k = .taking x z p q ∧ q.answer ≠ none ∧ x.controller = n ∧ x.requester = f.dst
      ∧ x.tid = (oxHeader f.payload).tid := by
  have hk := List.find?_some (p := fun k => (s.slot k).awaitsBegin n f) h
  unfold Slot.awaitsBegin at hk
  split at hk
  · rename_i x z p q hs
    simp only [Bool.and_eq_true, beq_iff_eq, Option.isSome_iff_ne_none, and_assoc] at hk
    exact ⟨x, z, p, q, hs, hk⟩
  · cases hk

theorem State.takeBeginResponse_acts {s : State} {n : Fin 32} {k : Fin 8} {f : Frame} (h : s.beginSlot n f = some k)
    (v : Nat) : s.Acts (s.takeBeginResponse n k v) := by
  obtain ⟨x, z, p, q, hk, -, rfl, -⟩ := State.taking_of_beginSlot h
  unfold State.takeBeginResponse
  split
  · rw [hk]
    exact (State.Act.retaken _ hk).acts
  · exact State.ended_acts ⟨rfl, rfl, rfl, rfl⟩ (by rw [hk]; rfl) false none _ false

theorem State.endReleased_acts (s : State) (k : Fin 8) (x : Option (NoticeKind × Option Quad)) :
    s.Acts (s.endReleased k x) := by
  cases hk : s.slot k with
  | released y d => exact (State.Act.answered x hk).acts
  | _ => unfold State.endReleased; rw [hk]; exact .refl s

theorem State.takeCommitResponse_acts (s : State) (k : Fin 8) (v : Nat) : s.Acts (s.takeCommitResponse k v) := by
  unfold State.takeCommitResponse
  split <;> exact s.endReleased_acts k _

theorem State.timeoutSlot_acts (s : State) (k : Fin 8) : s.Acts (s.timeoutSlot k) := by
  unfold State.timeoutSlot
  split
  · exact State.ended_acts ⟨rfl, rfl, rfl, rfl⟩ ‹_› true _ none false
  · exact .refl s

theorem State.finishLane_acts (s : State) (l : Fin 2) : s.Acts (s.finishLane l) := by
  cases hl : s.lane l with
  | some w => exact (State.Act.finished hl).acts
  | none => unfold State.finishLane; rw [hl]; exact .refl s

/-! ## The Drift Scanner -/

theorem State.drift_acts (s : State) (r : Round) (i : ImageRecord) (x : Option Reason) (a b : Quad) :
    s.Acts (s.drift r i x a b) := by
  refine State.Acts.scheduleCheck (.before ?_ (State.enterQuarantine_acts _ r.controller .drift))
  constructor <;> simp [State.downloads]

theorem State.judgeSummary_acts (s : State) (r : Round) (i : ImageRecord) (f : Frame) :
    s.Acts (s.judgeSummary r i f) := by
  unfold State.judgeSummary
  dsimp only
  split
  · split
    · refine .still ?_
      split <;> simp [State.downloads]
    · split
      · exact s.drift_acts r i _ _ _
      · exact s.drift_acts r i _ _ _
  · split
    · exact s.drift_acts r i _ _ _
    · exact .still (by simp [State.downloads])

theorem State.takeSummaryResponse_acts (s : State) (f : Frame) : s.Acts (s.takeSummaryResponse f) := by
  unfold State.takeSummaryResponse
  split
  · exact .refl s
  · split
    · split
      · exact s.judgeSummary_acts _ _ f
      · exact .refl s
    · exact .refl s

/-! ## Restarts and power -/

theorem State.Cleared.of_downloads {s t : State} (h : s.Cleared) (hd : t.downloads = s.downloads) : t.Cleared where
  slots k := (State.slot_of_downloads hd k).trans (h.slots k)
  waiting := (congrArg (fun x => x.2.1) hd).trans h.waiting
  lanes l := (State.lane_of_downloads hd l).trans (h.lanes l)
  windows n := State.window_of_downloads hd n ▸ h.windows n

theorem Window.restart_isShut (w : Window) : Window.isShut (some w.restart) := by
  cases w <;> simp [Window.restart, Window.isShut]

theorem State.restartBlocks_cleared (s : State) : s.restartBlocks.Cleared where
  slots k := by simp [State.restartBlocks, State.slot]
  waiting := rfl
  lanes l := by simp [State.restartBlocks, State.lane]
  windows n := by
    have hn : s.restartBlocks.window? n = (s.window? n).map Window.restart := by
      simp [State.restartBlocks, State.window?, State.controller, Controller.restart, Function.comp_def]
    rw [hn]
    cases s.window? n with
    | none => exact .inl rfl
    | some w => exact w.restart_isShut

theorem State.warmRestart_cleared (s : State) : s.warmRestart.Cleared := by
  unfold State.warmRestart
  split
  · exact s.restartBlocks_cleared.of_downloads (by simp [State.downloads])
  · exact s.restartBlocks_cleared

theorem State.warmRestarts_cleared (k : Nat) (s : State) : (s.warmRestarts (k + 1)).Cleared := by
  induction k generalizing s with
  | zero => exact s.warmRestart_cleared
  | succ k ih => exact ih s.warmRestart

theorem State.takeDueRestart_acts (s : State) : s.Acts s.takeDueRestart := by
  refine .ite fun _ => (State.Act.cleared ?_).acts
  obtain ⟨k, hk⟩ := Nat.exists_eq_add_of_le' (Nat.le_max_left 1 s.lineWaiting)
  rw [hk]
  exact s.warmRestarts_cleared k

theorem State.reset_cleared : State.reset.Cleared where
  slots k := by simp [State.reset, State.slot]
  waiting := rfl
  lanes l := by simp [State.reset, State.lane]
  windows n := .inl (by simp [State.reset, State.window?, State.controller])

theorem State.losePower_cleared (s : State) : s.losePower.Cleared := State.reset_cleared.of_downloads rfl

theorem State.powerOn_cleared (s : State) : s.powerOn.Cleared := by
  cases hi : s.losePower.stored with
  | none =>
    have hp : s.powerOn = { s.losePower with powered := true } := by simp [State.powerOn, hi]
    rw [hp]
    exact s.losePower_cleared.of_downloads rfl
  | some image =>
    have hp : ∃ c : Controller, c.window = .locked
        ∧ s.powerOn.controllers = image.bank.definitions.map (Option.map fun _ => c)
        ∧ s.powerOn.slots = s.losePower.slots ∧ s.powerOn.waiting = s.losePower.waiting
        ∧ s.powerOn.lanes = s.losePower.lanes := by
      unfold State.powerOn
      dsimp only
      rw [hi]
      exact ⟨_, rfl, rfl, rfl, rfl, rfl⟩
    obtain ⟨c, hc, hv, hs, hw, hl⟩ := hp
    obtain ⟨hslots, hwaiting, hlanes, -⟩ := s.losePower_cleared
    refine ⟨fun k => ?_, hw.trans hwaiting, fun l => ?_, fun n => ?_⟩
    · rw [State.slot, hs]; exact hslots k
    · rw [State.lane, hl]; exact hlanes l
    · rw [State.window?, State.controller, hv]
      cases hd : image.bank.definitions[n] with
      | none => exact .inl (by simp_all)
      | some d => exact .inr (.inl (by simp_all))

/-! ## Management commands -/

/-- Ready for a selection: no window is open, and every slot is FREE (R42, R154). -/
theorem State.readyForSelection_iff (s : State) :
    s.readyForSelection = true ↔ (∀ n, Window.isShut (s.window? n)) ∧ ∀ k, s.slot k = .free := by
  have hwindow : ∀ n, (s.controller n).all (fun c => c.window.settledForSelection) = true ↔
      Window.isShut (s.window? n) := fun n => by
    unfold State.window? Window.isShut
    cases s.controller n with
    | none => simp
    | some c => cases hc : c.window <;> simp [hc, Window.settledForSelection]
  simp only [State.readyForSelection, Bool.and_eq_true, List.all_eq_true, ← hwindow]
  refine and_congr ⟨fun h n => ?_, fun h c hc => ?_⟩ ⟨fun h k => ?_, fun h x hx => ?_⟩
  · exact h _ (by simp [State.controller])
  · obtain ⟨i, hi, rfl⟩ := List.getElem_of_mem hc
    exact h ⟨i, by simpa using hi⟩
  · simpa using h _ (by simp [State.slot] : s.slot k ∈ s.slots.toList)
  · obtain ⟨i, hi, rfl⟩ := List.getElem_of_mem hx
    simpa [State.slot] using h ⟨i, by simpa using hi⟩

theorem State.makeSelection_reselected {s : State} (h : s.readyForSelection = true) :
    s.Reselected s.makeSelection := by
  obtain ⟨hw, hk⟩ := s.readyForSelection_iff.1 h
  have hcancel : ∀ b, (s.cancelForSelection b).slots = s.slots ∧ (s.cancelForSelection b).waiting = s.waiting
      ∧ (s.cancelForSelection b).lanes = s.lanes := fun b => by
    unfold State.cancelForSelection
    split
    · exact ⟨rfl, rfl, rfl⟩
    · dsimp only
      split <;> simp
  obtain ⟨hslots, hwaiting, hlanes⟩ := hcancel s.shadow
  refine ⟨hk, by simp [State.makeSelection, hslots], by simp [State.makeSelection, hwaiting],
    by simp [State.makeSelection, hlanes], fun n => ?_⟩
  have hold : (s.cancelForSelection s.shadow).controllers[n].map Controller.window = s.window? n := by
    refine State.window_of_downloads (s := s) (t := s.cancelForSelection s.shadow) ?_ n
    simp [State.downloads, hslots, hwaiting, hlanes]
  have hshut := hw n
  rw [← hold] at hshut
  simp only [State.makeSelection, State.window?, State.controller, State.beginWrite_controllers,
    State.post_controllers, Fin.getElem_fin, Vector.getElem_ofFn]
  unfold State.selectController
  split
  · exact .inl rfl
  · rename_i c hd hc
    simpa [hc] using hshut
  · exact .inr (.inl rfl)

theorem State.forController_acts {s : State} {args : List Byte} {body : Fin 32 → Controller → State × Reply}
    (h : ∀ n c, s.controller n = some c → s.Acts (body n c).1) : s.Acts (s.forController args body).1 := by
  unfold State.forController
  split
  · exact .refl s
  · split
    · exact .refl s
    · exact h _ _ ‹_›

theorem State.window_of_controller {s : State} {n : Fin 32} {c : Controller} (h : s.controller n = some c) :
    s.window? n = some c.window := by rw [State.window?, h, Option.map_some]

theorem State.doCloseWindow_acts (s : State) (args : List Byte) : s.Acts (s.doCloseWindow args).1 :=
  State.forController_acts fun _ _ hc => State.closeOrPend_acts (State.window_of_controller hc) _ _

theorem State.doQuarantine_acts (s : State) (args : List Byte) : s.Acts (s.doQuarantine args).1 := by
  refine State.forController_acts fun n c _ => ?_
  split
  · exact .refl s
  · exact (s.enterQuarantine_acts n .manual).cancelRoundOf n

theorem State.doRelease_acts (s : State) (args : List Byte) : s.Acts (s.doRelease args).1 := by
  refine State.forController_acts fun n c hc => ?_
  split
  · rename_i q hq
    split
    · exact .refl s
    · rename_i hnames
      have hw : s.window? n = some (.quarantined q) := by rw [State.window_of_controller hc, hq]
      exact (State.Act.released hw (by simpa using hnames)).acts.post _
  · exact .refl s

theorem State.doOpenWindow_acts (s : State) (args : List Byte) : s.Acts (s.doOpenWindow args).1 := by
  unfold State.doOpenWindow
  split
  · rename_i n m _ _
    split
    · exact .refl s
    · rename_i c hc
      split
      · exact .refl s
      · rename_i hlocked
        split
        · exact (State.Acts.refl s).post _
        · have hw : s.window? n = some .locked := by rw [State.window_of_controller hc, hlocked]
          have hb : s.Before s.recordOpening := by constructor <;> rfl
          exact .cancelRoundOf (.before hb (State.Act.moved (by exact hw) (.accepted ..)).acts) n
      · exact .refl s
  · exact .refl s

theorem State.doSelectBank_acts (s : State) (src : Addr) (args : List Byte) : s.Acts (s.doSelectBank src args).1 := by
  unfold State.doSelectBank
  dsimp only
  split
  · exact .refl s
  · split
    · exact .refl s
    · split
      · exact .refl s
      · rename_i hready
        split
        · exact .refl s
        · split
          · exact .refl s
          · exact (State.Act.reselected (State.makeSelection_reselected (by simpa using hready))).acts

theorem State.beginWriteOutside_downloads (s : State) : s.beginWriteOutside.downloads = s.downloads := by
  obtain ⟨w, hw, -⟩ := s.beginWriteOutside_shape
  rw [hw]
  rfl

theorem State.doLoadRecord_downloads (s : State) (args : List Byte) :
    (s.doLoadRecord args).1.downloads = s.downloads := by
  unfold State.doLoadRecord
  repeat' split
  all_goals rfl

theorem State.doApproveCandidate_downloads (s : State) (args : List Byte) :
    (s.doApproveCandidate args).1.downloads = s.downloads := by
  unfold State.doApproveCandidate
  dsimp only
  repeat' split
  all_goals rfl

theorem State.doDiscardCandidate_downloads (s : State) (args : List Byte) :
    (s.doDiscardCandidate args).1.downloads = s.downloads := by
  unfold State.doDiscardCandidate
  dsimp only
  split
  · rfl
  · split
    · split
      · dsimp only
        split <;> rfl
      · rfl
    · rfl

theorem State.doArmWatch_downloads (s : State) (args : List Byte) :
    (s.doArmWatch args).1.downloads = s.downloads := by
  unfold State.doArmWatch
  split <;> rfl

theorem State.doDisarmWatch_downloads (s : State) (args : List Byte) :
    (s.doDisarmWatch args).1.downloads = s.downloads := by
  unfold State.doDisarmWatch
  split <;> rfl

theorem State.doReadCounters_downloads (s : State) (args : List Byte) :
    (s.doReadCounters args).1.downloads = s.downloads := by
  unfold State.doReadCounters
  split
  · rfl
  · split
    · dsimp only
      split <;> rfl
    · split
      · rfl
      · dsimp only
        split <;> rfl

theorem State.doSetTiming_downloads (s : State) (args : List Byte) :
    (s.doSetTiming args).1.downloads = s.downloads := by
  unfold State.doSetTiming
  split
  · rfl
  · split
    · rfl
    · exact State.beginWriteOutside_downloads _

theorem State.doSetNoticeDestination_downloads (s : State) (args : List Byte) :
    (s.doSetNoticeDestination args).1.downloads = s.downloads := by
  unfold State.doSetNoticeDestination
  dsimp only
  split
  · rfl
  · split
    · rfl
    · refine (State.beginWriteOutside_downloads _).trans ?_
      unfold State.setDestination
      split <;> rfl

/-- The body of a management command does one act, or none. -/
theorem State.commandBody_acts (s : State) (c : Command) (f : Frame) : s.Acts (s.commandBody c f).1 := by
  cases c with
  | identify => exact .refl s
  | readTime => exact .refl s
  | readController => rw [State.commandBody, State.doReadController_same]; exact .refl s
  | readRecord => rw [State.commandBody, State.doReadRecord_same]; exact .refl s
  | loadRecord => exact .still (s.doLoadRecord_downloads _)
  | clearShadow => exact .still rfl
  | selectBank => exact s.doSelectBank_acts _ _
  | openWindow => exact s.doOpenWindow_acts _
  | closeWindow => exact s.doCloseWindow_acts _
  | quarantine => exact s.doQuarantine_acts _
  | release => exact s.doRelease_acts _
  | approveCandidate => exact .still (s.doApproveCandidate_downloads _)
  | discardCandidate => exact .still (s.doDiscardCandidate_downloads _)
  | armWatch => exact .still (s.doArmWatch_downloads _)
  | disarmWatch => exact .still (s.doDisarmWatch_downloads _)
  | probe => rw [State.commandBody, State.doProbe_same]; exact .refl s
  | readCounters => exact .still (s.doReadCounters_downloads _)
  | setTiming => exact .still (s.doSetTiming_downloads _)
  | setNoticeDestination => exact .still (s.doSetNoticeDestination_downloads _)
  | restart => exact .refl s

theorem State.doRestart_acts (s : State) (f : Frame) : s.Acts (s.doRestart f) := by
  unfold State.doRestart
  split
  · exact (State.Acts.refl s).reply f _ _
  · refine .before ?_ (State.takeDueRestart_acts _)
    constructor <;> simp [State.reply, State.downloads]

/-! ## Every command -/

theorem exec_request_acts (o : Operation) (f : Frame) (s : State) :
    ∃ t, exec (requestInstr o f) s = .next t ∧ s.Acts t :=
  ⟨_, exec_requestInstr o f s, s.takeRequest_acts o f⟩

theorem exec_management_acts (c : Command) (p : Port) (f : Frame) (s : State) :
    ∃ t, exec (managementInstr c p f) s = .next t ∧ s.Acts t := by
  by_cases hc : c = .restart
  · subst hc
    refine ⟨_, rfl, .ite fun _ => ?_⟩
    dsimp only
    split
    · split
      · exact (State.Acts.refl s).reply f _ _
      · exact s.doRestart_acts f
    · exact (State.Acts.refl s).post _
  · by_cases ht : s.takesCommand c p f
    · exact ⟨_, exec_managementInstr_taken ht hc, (s.commandBody_acts c f).reply f _ _⟩
    · have hbody : ∀ body, s.Acts (s.takeCommand c p f body) := fun body => by
        refine .ite fun hr => ?_
        unfold State.manage
        split
        · rename_i ha
          split
          · exact (State.Acts.refl s).reply f _ _
          · rename_i hk
            exact absurd ⟨hr, ha, hk⟩ ht
        · exact (State.Acts.refl s).post _
      cases c <;> first | exact absurd rfl hc | exact ⟨_, rfl, hbody _⟩

/-- What happens at a port reaches nothing that the acts speak of. -/
theorem State.setPort_offerPlaces_downloads (s : State) (p q : Port) (x : PortState) :
    ((s.setPort p x).offerPlaces q).downloads = s.downloads := by
  cases q <;> simp [State.downloads, State.offerPlaces]

/-- Every command answers a next state, and does one act, or none. -/
theorem exec_acts (i : Instr) (s : State) : ∃ t, exec i s = .next t ∧ s.Acts t := by
  have hrefl := State.Acts.refl s
  cases i with
  | frameCheckDiscard p bytes =>
    refine ⟨_, rfl, ?_⟩
    split
    · exact .ite fun _ => .still rfl
    · exact .ite fun _ => .still rfl
  | forwardFrame p f => exact ⟨_, rfl, .ite fun _ => hrefl.forward _ f⟩
  | filterAddressedDiscard p f => exact ⟨_, rfl, .ite fun _ => .still rfl⟩
  | oxRead f => exact exec_request_acts .read f s
  | oxSummary f => exact exec_request_acts .summary f s
  | oxSetParam f => exact exec_request_acts .setParam f s
  | oxMode f => exact exec_request_acts .mode f s
  | oxForce f => exact exec_request_acts .force f s
  | oxBegin f => exact exec_request_acts .begins f s
  | oxSegment f => exact exec_request_acts .segment f s
  | oxCommit f => exact exec_request_acts .commit f s
  | oxAbandon f => exact exec_request_acts .abandon f s
  | cyclicStatusFrame f =>
    refine ⟨_, rfl, .ite fun _ => .forward ?_ .plant f⟩
    split
    · split
      · exact s.monitorObserves_acts _ _ true
      · exact hrefl
    · exact hrefl
  | beginResponse f =>
    refine ⟨_, rfl, .ite fun _ => .forward ?_ .plant f⟩
    split
    · split
      · exact State.takeBeginResponse_acts ‹_› _
      · exact hrefl
    · exact hrefl
  | commitResponse f =>
    refine ⟨_, rfl, .ite fun _ => .forward ?_ .plant f⟩
    split
    · split
      · exact s.takeCommitResponse_acts _ _
      · exact hrefl
    · exact hrefl
  | summaryResponse f => exact ⟨_, rfl, .ite fun _ => s.takeSummaryResponse_acts f⟩
  | abandonResponse f => exact ⟨_, rfl, hrefl⟩
  | staleDeadline n => exact ⟨_, rfl, .ite fun _ => s.monitorObserves_acts n .stale false⟩
  | settleDeadline n => exact ⟨_, rfl, .ite fun _ => s.settleExpiry_acts n⟩
  | openingDeadline n =>
    refine ⟨_, rfl, .ite fun hd => ?_⟩
    obtain ⟨m, l, d, hw⟩ : ∃ m l d, s.window? n = some (.opening m l d) := by
      cases hw : s.window? n with
      | none => simp [State.openingDue, State.reached?, hw] at hd
      | some w => cases w <;> simp_all [State.openingDue, State.reached?, Window.openingDeadline?]
    exact (State.Act.moved hw (.failed m l d)).acts.post _
  | windowDeadline n =>
    refine ⟨_, rfl, .ite fun _ => ?_⟩
    split
    · exact State.closeOrPend_acts ‹_› _ _
    · exact hrefl
  | idleDeadline k => exact ⟨_, rfl, .ite fun _ => s.timeoutSlot_acts k⟩
  | beginResponseDeadline k => exact ⟨_, rfl, .ite fun _ => s.timeoutSlot_acts k⟩
  | commitResponseDeadline k => exact ⟨_, rfl, .ite fun _ => s.endReleased_acts k _⟩
  | laneFinish l => exact ⟨_, rfl, .ite fun _ => s.finishLane_acts l⟩
  | nextDueExpiry n => exact ⟨_, rfl, .ite fun _ => hrefl.scheduleCheck⟩
  | scanResponseDeadline => exact ⟨_, rfl, .ite fun _ => .still (by simp [State.downloads])⟩
  | identify p f => exact exec_management_acts .identify p f s
  | readTime p f => exact exec_management_acts .readTime p f s
  | readController p f => exact exec_management_acts .readController p f s
  | readRecord p f => exact exec_management_acts .readRecord p f s
  | loadRecord p f => exact exec_management_acts .loadRecord p f s
  | clearShadow p f => exact exec_management_acts .clearShadow p f s
  | selectBank p f => exact exec_management_acts .selectBank p f s
  | openWindow p f => exact exec_management_acts .openWindow p f s
  | closeWindow p f => exact exec_management_acts .closeWindow p f s
  | quarantine p f => exact exec_management_acts .quarantine p f s
  | release p f => exact exec_management_acts .release p f s
  | approveCandidate p f => exact exec_management_acts .approveCandidate p f s
  | discardCandidate p f => exact exec_management_acts .discardCandidate p f s
  | armWatch p f => exact exec_management_acts .armWatch p f s
  | disarmWatch p f => exact exec_management_acts .disarmWatch p f s
  | probe p f => exact exec_management_acts .probe p f s
  | readCounters p f => exact exec_management_acts .readCounters p f s
  | setTiming p f => exact exec_management_acts .setTiming p f s
  | setNoticeDestination p f => exact exec_management_acts .setNoticeDestination p f s
  | restart p f => exact exec_management_acts .restart p f s
  | warmRestart => exact ⟨_, rfl, .ite fun _ => s.takeDueRestart_acts⟩
  | restartInputClosed =>
    refine ⟨_, rfl, ?_⟩
    split
    · exact hrefl
    · dsimp only
      split
      · exact .still rfl
      · split
        · exact .still rfl
        · exact (State.Act.cleared (State.warmRestart_cleared _)).acts
  | storeWriteEnd success =>
    refine ⟨_, rfl, .ite fun _ => .before ?_ (State.takeDueRestart_acts _)⟩
    obtain h | ⟨_, -, h⟩ | ⟨_, h⟩ := s.endWrite_cases success <;> rw [h] <;> constructor <;> simp [State.downloads]
  | powerOnReset => exact ⟨_, rfl, (State.Act.cleared s.powerOn_cleared).acts⟩
  | linkDown p =>
    refine ⟨_, rfl, .ite fun _ => ?_⟩
    cases p with
    | plant => exact .still (by simp [State.downloads, State.offerPlaces, State.dropPort])
    | line =>
      have hb : s.Before (s.dropPort .line) := by constructor <;> rfl
      refine .before hb ?_
      unfold State.lineLinkLoss
      dsimp only
      split
      · exact State.Act.lost.acts.after (by simp [State.downloads])
      · exact State.Act.lost.acts
  | linkUp p => exact ⟨_, rfl, .ite fun _ => .still (s.setPort_offerPlaces_downloads p p _)⟩
  | egressChoice p => exact ⟨_, rfl, .ite fun _ => .still (s.setPort_offerPlaces_downloads p p _)⟩
  | frameSent p => exact ⟨_, rfl, .ite fun _ => .still (s.setPort_offerPlaces_downloads p p _)⟩
  | noticeLeavesQueue =>
    refine ⟨_, rfl, .ite fun _ => .still ?_⟩
    obtain ⟨q, d, x, h⟩ := s.moveNotice_shape
    rw [h]
    rfl
  | restartInputOpened => exact ⟨_, rfl, .still rfl⟩
  | powerLoss => exact ⟨_, rfl, (State.Act.cleared s.losePower_cleared).acts⟩

/-- Every step does one act on the windows, the slots, the lanes and the Segment Queue, or none. -/
theorem step_acts {s t : State} (h : step s = .next t) : s.Acts t := by
  unfold step at h
  split at h
  · rename_i i rest _
    obtain ⟨u, hu, hacts⟩ := exec_acts i { s with pending := rest }
    obtain rfl : u = t := Host.Outcome.next.inj (hu.symm.trans h)
    have hb : s.Before { s with pending := rest } := ⟨rfl, rfl, rfl, rfl⟩
    exact .before hb hacts
  · cases h
    refine .still ?_
    unfold State.idle
    split
    · split <;> rfl
    · rfl

end Sys2Proof.Machine
end

section
/-! PROOFS. The Segment Queue, the lanes and the pending counts (O6): the end of a slot, a segment appended, a lane that
finishes and the entry it is given next. -/

namespace Sys2Proof.Machine

/-! ## Counting over the two lanes -/

/-- The lane holds a segment of a slot. -/
def laneOf (w : Option LaneWork) (k : Fin 8) : Nat := if w.any (fun w => w.entry.slot == k) then 1 else 0

@[simp] theorem laneOf_none (k : Fin 8) : laneOf none k = 0 := rfl

@[simp] theorem laneOf_some (w : LaneWork) (k : Fin 8) : laneOf (some w) k = if w.entry.slot = k then 1 else 0 := by
  simp [laneOf]

section lanes
variable (s : State) (l : Fin 2) (k : Fin 8)

theorem State.lanes_toList : s.lanes.toList = [s.lane 0, s.lane 1] := by
  refine List.ext_getElem (by simp) fun i hi _ => ?_
  obtain rfl | rfl : i = 0 ∨ i = 1 := by have := hi; simp at this; omega
  · simp [State.lane]
  · simp [State.lane]

/-- The lanes that hold a segment of a slot, told by one lane and the other. -/
theorem State.lanesOf_eq : s.lanesOf k = laneOf (s.lane l) k + laneOf (s.lane (1 - l)) k := by
  have htwo : s.lanesOf k = laneOf (s.lane 0) k + laneOf (s.lane 1) k := by
    rw [State.lanesOf, s.lanes_toList, List.countP_cons, List.countP_cons, List.countP_nil, Nat.zero_add, Nat.add_comm]
    rfl
  fin_cases l
  · exact htwo
  · rw [htwo, Nat.add_comm]
    rfl

theorem State.segmentsHeld_eq :
    s.segmentsHeld = s.waiting.length + ((s.lane l).isSome.toNat + (s.lane (1 - l)).isSome.toNat) := by
  have htwo : s.segmentsHeld = s.waiting.length + ((s.lane 0).isSome.toNat + (s.lane 1).isSome.toNat) := by
    rw [State.segmentsHeld, s.lanes_toList]
    cases s.lane 0 <;> cases s.lane 1 <;> rfl
  fin_cases l
  · exact htwo
  · rw [htwo, Nat.add_comm (Option.isSome (s.lane 0)).toNat]
    rfl

theorem State.laneHolds_iff : s.laneHolds k = true ↔ 0 < s.lanesOf k := by
  rw [State.laneHolds, State.lanesOf, List.countP_pos_iff, List.any_eq_true]

theorem State.laneHolds_eq_false_iff : s.laneHolds k = false ↔ s.lanesOf k = 0 := by
  rw [← Bool.not_eq_true, State.laneHolds_iff]
  omega

variable {l}

theorem other_lane_ne {l' : Fin 2} (h : l' ≠ l) : l' = 1 - l := by omega

theorem State.lane_setLane_other (w : Option LaneWork) : (s.setLane l w).lane (1 - l) = s.lane (1 - l) :=
  s.lane_setLane_of_ne w (by omega)

theorem State.lane_setLane_same (w : Option LaneWork) : (s.setLane l w).lane l = w := by simp

end lanes

/-! ## Good counts -/

/-- At most 16 segments are held, a slot's pending count is its waiting entries and lanes, no two lanes hold segments of
one slot, and a DRAINING slot has no waiting entry. -/
structure State.Counted (s : State) : Prop where
  held : s.segmentsHeld ≤ Config.segmentPlaces
  pending : ∀ k, (s.slot k).pendingCount = s.waitingOf k + s.lanesOf k
  lanes : ∀ k, s.lanesOf k ≤ 1
  draining : ∀ k, s.slot k = .draining → s.waitingOf k = 0

/-- While a lane is idle every waiting entry belongs to a slot whose segment a lane holds (R99, R103). -/
def State.LanesTaken (s : State) : Prop := ∀ l : Fin 2, s.lane l = none → ∀ e ∈ s.waiting, s.laneHolds e.slot = true

theorem State.segmentsGood_iff (s : State) : s.SegmentsGood ↔
    s.Counted ∧ (∀ k, (s.slot k).isVerifying = true → 0 < (s.slot k).pendingCount) ∧ s.LanesTaken := by
  refine ⟨fun ⟨hheld, hslot, htaken⟩ => ⟨⟨hheld, fun k => (hslot k).1, fun k => (hslot k).2.1, fun k => (hslot k).2.2.1⟩,
    fun k => (hslot k).2.2.2, htaken⟩, fun ⟨hc, hv, htaken⟩ => ⟨hc.held, fun k => ?_, htaken⟩⟩
  exact ⟨hc.pending k, hc.lanes k, hc.draining k, hv k⟩

section same
variable {s t : State}

theorem State.waitingOf_of_waiting (h : t.waiting = s.waiting) (k : Fin 8) : t.waitingOf k = s.waitingOf k := by
  rw [State.waitingOf, h, State.waitingOf]

theorem State.lanesOf_of_lanes (h : t.lanes = s.lanes) (k : Fin 8) : t.lanesOf k = s.lanesOf k := by
  rw [State.lanesOf, h, State.lanesOf]

theorem State.laneHolds_of_lanes (h : t.lanes = s.lanes) (k : Fin 8) : t.laneHolds k = s.laneHolds k := by
  rw [State.laneHolds, h, State.laneHolds]

theorem State.lane_of_lanes (h : t.lanes = s.lanes) (l : Fin 2) : t.lane l = s.lane l := by
  rw [State.lane, h, State.lane]

theorem State.slot_of_slots (h : t.slots = s.slots) (k : Fin 8) : t.slot k = s.slot k := by
  rw [State.slot, h, State.slot]

theorem State.segmentsHeld_of_lanes (hw : t.waiting.length ≤ s.waiting.length) (hl : t.lanes = s.lanes) :
    t.segmentsHeld ≤ s.segmentsHeld := by
  rw [State.segmentsHeld, hl, State.segmentsHeld]
  exact Nat.add_le_add_right hw _

/-- A slot changes to one with the same pending count. -/
theorem State.Counted.setSlot (h : s.Counted) {k : Fin 8} {x : Slot} (hp : x.pendingCount = (s.slot k).pendingCount)
    (hd : x ≠ .draining) : (s.setSlot k x).Counted where
  held := h.held
  pending j := by
    rw [State.slot_setSlot]
    split
    · subst k; rw [hp]; exact h.pending j
    · exact h.pending j
  lanes := h.lanes
  draining j hj := by
    rw [State.slot_setSlot] at hj
    split at hj
    · exact absurd hj hd
    · exact h.draining j hj

end same

/-! ## Slots that end -/

/-- From `s` to `t` slots end or change without a segment: the lanes stay, no entry is added, the counts stay right, and a
slot that is in VERIFYING was so as it is. -/
structure State.Ends (s t : State) : Prop where
  lanes : t.lanes = s.lanes
  waiting : ∀ e ∈ t.waiting, e ∈ s.waiting
  counted : s.Counted → t.Counted
  verifying : ∀ k, (t.slot k).isVerifying = true → t.slot k = s.slot k

namespace State.Ends
variable {s t u : State}

theorem refl (s : State) : s.Ends s := ⟨rfl, fun _ => id, id, fun _ _ => rfl⟩

theorem trans (h : s.Ends t) (h' : t.Ends u) : s.Ends u where
  lanes := h'.lanes.trans h.lanes
  waiting e he := h.waiting e (h'.waiting e he)
  counted := h'.counted ∘ h.counted
  verifying k hk := by
    have hu := h'.verifying k hk
    rw [hu] at hk ⊢
    exact h.verifying k hk

/-- What reaches neither the slots, nor the Segment Queue, nor the lanes. -/
theorem same (h : s.Ends t) (hs : u.slots = t.slots) (hw : u.waiting = t.waiting) (hl : u.lanes = t.lanes) :
    s.Ends u := by
  refine h.trans ⟨hl, fun e he => hw ▸ he, fun hc => ?_, fun k _ => State.slot_of_slots hs k⟩
  exact ⟨(State.segmentsHeld_of_lanes (by rw [hw]) hl).trans hc.held,
    fun k => by rw [State.slot_of_slots hs, State.waitingOf_of_waiting hw, State.lanesOf_of_lanes hl]; exact hc.pending k,
    fun k => by rw [State.lanesOf_of_lanes hl]; exact hc.lanes k,
    fun k => by rw [State.slot_of_slots hs, State.waitingOf_of_waiting hw]; exact hc.draining k⟩

/-- A slot changes to one with the same pending count that is neither DRAINING nor in VERIFYING. -/
theorem setSlot (h : s.Ends t) {k : Fin 8} {x : Slot} (hp : x.pendingCount = (t.slot k).pendingCount)
    (hd : x ≠ .draining) (hv : x.isVerifying = false) : s.Ends (t.setSlot k x) := by
  refine h.trans ⟨rfl, fun _ => id, fun hc => hc.setSlot hp hd, fun j hj => ?_⟩
  rw [State.slot_setSlot] at hj ⊢
  split
  · rw [if_pos ‹_›, hv] at hj
    cases hj
  · rfl

/-- A slot ends with its waiting entries: it is DRAINING while a lane holds its last segment (R87). -/
theorem endSlot (h : s.Ends t) (k : Fin 8) : s.Ends (t.endSlot k) := by
  have hwaiting : (t.endSlot k).waiting = t.waiting.filter (fun e => e.slot != k) := rfl
  have hslot : ∀ j, (t.endSlot k).slot j =
      if k = j then (if t.laneHolds k then .draining else .free) else t.slot j := fun j => State.slot_setSlot ..
  have hof : ∀ j, (t.endSlot k).waitingOf j = if k = j then 0 else t.waitingOf j := fun j => by
    rw [State.waitingOf, hwaiting, List.countP_filter]
    split
    · subst k
      simp
    · refine List.countP_congr fun e _ => ?_
      simp only [bne_iff_ne, Bool.and_eq_true, beq_iff_eq, ne_eq]
      exact ⟨And.left, fun he => ⟨he, fun hk => by omega⟩⟩
  refine h.trans ⟨rfl, fun e he => (List.mem_filter.1 he).1, fun hc => ⟨?_, fun j => ?_, hc.lanes, fun j hj => ?_⟩,
    fun j hj => ?_⟩
  · exact (State.segmentsHeld_of_lanes (s := t) (t := t.endSlot k) (List.length_filter_le _ _) rfl).trans hc.held
  · have hlanes : (t.endSlot k).lanesOf j = t.lanesOf j := rfl
    rw [hslot, hof, hlanes]
    split
    · subst k
      have hle := hc.lanes j
      cases hh : t.laneHolds j with
      | true =>
        have hpos := (t.laneHolds_iff j).1 hh
        simp only [if_true, Slot.pendingCount, Slot.pending?, Option.getD_some]
        omega
      | false =>
        have hzero := (t.laneHolds_eq_false_iff j).1 hh
        simp only [Bool.false_eq_true, if_false, Slot.pendingCount, Slot.pending?, Option.getD_none]
        omega
    · exact hc.pending j
  · rw [hof]
    split
    · rfl
    · rw [hslot, if_neg ‹_›] at hj
      exact hc.draining j hj
  · rw [hslot] at hj ⊢
    split
    · rw [if_pos ‹_›] at hj
      split at hj <;> cases hj
    · rfl

theorem abort (h : s.Ends t) (k : Fin 8) (b : Bool) (r : Option Reason) (v : Option Quad) :
    s.Ends (t.abort k b r v) := by
  unfold State.abort
  split
  · exact h
  · refine (h.endSlot k).same ?_ ?_ ?_ <;> dsimp only <;> split <;> simp

theorem abortOwned (h : s.Ends t) (w : Window) (r : Reason) : s.Ends (t.abortOwned w r) := by
  unfold State.abortOwned
  split
  · exact h.abort _ _ _ _
  · exact h

theorem setWindow (h : s.Ends t) (n : Fin 32) (w : Window) : s.Ends (t.setWindow n w) :=
  h.same (by simp) (by simp) (by simp)

theorem post (h : s.Ends t) (n : Notice) : s.Ends (t.post n) := h.same (by simp) (by simp) (by simp)

theorem transferEnded (h : s.Ends t) (n : Fin 32) (b : Bool) : s.Ends (t.transferEnded n b) :=
  h.same (by simp) (by simp) (by simp)

theorem refuse (h : s.Ends t) (n : Option (Fin 32)) (o : Operation) (f : Frame) (r : Reason) :
    s.Ends (t.refuse n o f r) := h.same (by simp) (by simp) (by simp)

theorem enterQuarantine (h : s.Ends t) (n : Fin 32) (c : QuarantineCause) : s.Ends (t.enterQuarantine n c) := by
  unfold State.enterQuarantine
  split
  · exact h
  · exact h
  · exact ((h.abortOwned _ .quarantine).setWindow n _).post _

theorem reportMismatch (h : s.Ends t) (n : Fin 32) : s.Ends (t.reportMismatch n) := by
  unfold State.reportMismatch
  split
  · split
    · have hcount : ∀ f, s.Ends ((t.countMismatch n).updateController n f) :=
        fun f => h.same (by simp) (by simp) (by simp)
      dsimp only
      split
      · exact (hcount _).enterQuarantine n _
      · exact (hcount _).transferEnded n false
    · exact h
  · exact h

theorem linkLossSlot (h : s.Ends t) (k : Fin 8) : s.Ends (t.linkLossSlot k) := by
  unfold State.linkLossSlot
  split
  · exact h.endSlot k
  · exact h.endSlot k
  · exact (h.endSlot k).post _
  · exact h
  · exact h

/-- What ended slots leave good. -/
theorem segmentsGood (h : s.Ends t) (hs : s.SegmentsGood) : t.SegmentsGood := by
  obtain ⟨hc, hv, htaken⟩ := s.segmentsGood_iff.1 hs
  refine t.segmentsGood_iff.2 ⟨h.counted hc, fun k hk => ?_, fun l hl e he => ?_⟩
  · have hsame := h.verifying k hk
    rw [hsame] at hk ⊢
    exact hv k hk
  · rw [State.lane_of_lanes h.lanes] at hl
    rw [State.laneHolds_of_lanes h.lanes]
    exact htaken l hl e (h.waiting e he)

/-- A slot that is not in VERIFYING does not enter it. -/
theorem notVerifying (h : s.Ends t) {k : Fin 8} (hk : (s.slot k).isVerifying = false) :
    (t.slot k).isVerifying = false := by
  rw [Bool.eq_false_iff] at hk ⊢
  intro ht
  rw [h.verifying k ht] at ht
  exact hk ht

end State.Ends

/-- The end of a slot takes it out of VERIFYING. -/
theorem State.abort_notVerifying (s : State) (k : Fin 8) (b : Bool) (r : Option Reason) (v : Option Quad) :
    ((s.abort k b r v).slot k).isVerifying = false := by
  cases hx : (s.slot k).abortable with
  | none =>
    have hsame : s.abort k b r v = s := by simp [State.abort, hx]
    rw [hsame]
    cases hk : s.slot k <;> simp_all [Slot.abortable, Slot.isVerifying]
  | some x =>
    have hslots : (s.abort k b r v).slots = (s.endSlot k).slots := by
      unfold State.abort
      rw [hx]
      dsimp only
      split <;> simp
    rw [State.slot_of_slots hslots, State.endSlot, State.slot_setSlot, if_pos rfl]
    split <;> rfl

section complete
variable {s u : State} {k : Fin 8} {x : Transfer} {z : Sums} {f : Frame}

/-- A slot in VERIFYING with nothing pending completes by the image decision on its fingerprint (R79 to R81, R107). -/
theorem State.completeVerifying_release (hk : s.slot k = .verifying x z 0 f)
    (hd : s.decideImage x z.i (fingerprint z z.i) = (u, .release)) :
    s.completeVerifying k = u.releaseCommit k x f (fingerprint z z.i) := by
  simp [State.completeVerifying, hk, hd]

theorem State.completeVerifying_mismatch (hk : s.slot k = .verifying x z 0 f)
    (hd : s.decideImage x z.i (fingerprint z z.i) = (u, .mismatch)) :
    s.completeVerifying k = (u.refuseHeld k x f .mismatch).reportMismatch x.controller := by
  simp [State.completeVerifying, hk, hd]

theorem State.completeVerifying_imageFull (hk : s.slot k = .verifying x z 0 f)
    (hd : s.decideImage x z.i (fingerprint z z.i) = (u, .imageFull)) :
    s.completeVerifying k = (u.refuseHeld k x f .imageFull).transferEnded x.controller false := by
  simp [State.completeVerifying, hk, hd]

theorem State.releaseCommit_slots (s : State) (k : Fin 8) (x : Transfer) (f : Frame) (v : Quad) :
    (s.releaseCommit k x f v).slots = ((s.forward .line f).setSlot k (.released x s.responseDeadline)).slots := by
  simp [State.releaseCommit]

/-- A completed slot has left VERIFYING, and nothing else has changed but slots that ended (R79 to R81). -/
theorem State.completeVerifying_ends (hk : s.slot k = .verifying x z 0 f) :
    s.Ends (s.completeVerifying k) ∧ ((s.completeVerifying k).slot k).isVerifying = false := by
  rcases hd : s.decideImage x z.i (fingerprint z z.i) with ⟨u, o⟩
  have hu : u = (s.decideImage x z.i (fingerprint z z.i)).1 := by rw [hd]
  have hends : s.Ends u := by
    rw [hu]
    exact (State.Ends.refl s).same (by simp) (by simp) (by simp)
  have hrefused : ∀ r, s.Ends (u.refuseHeld k x f r) := fun r => (hends.refuse _ .commit f r).abort _ _ _ _
  have hout : ∀ r, ((u.refuseHeld k x f r).slot k).isVerifying = false := fun r => State.abort_notVerifying ..
  cases o with
  | release =>
    rw [State.completeVerifying_release hk hd]
    have hslots := u.releaseCommit_slots k x f (fingerprint z z.i)
    have huk : u.slot k = .verifying x z 0 f := by
      rw [hu, State.slot_of_slots (State.decideImage_slots ..), hk]
    have hforward : s.Ends (u.forward .line f) := hends.same (by simp) (by simp) (by simp)
    have hreleased : s.Ends ((u.forward .line f).setSlot k (.released x u.responseDeadline)) := by
      refine hforward.setSlot ?_ nofun rfl
      rw [State.slot_of_slots (State.forward_slots ..), huk]
      rfl
    refine ⟨hreleased.same hslots (by simp) (by simp), ?_⟩
    rw [State.slot_of_slots hslots, State.slot_setSlot, if_pos rfl]
    rfl
  | mismatch =>
    rw [State.completeVerifying_mismatch hk hd]
    exact ⟨(hrefused _).reportMismatch _, ((State.Ends.refl _).reportMismatch _).notVerifying (hout _)⟩
  | imageFull =>
    rw [State.completeVerifying_imageFull hk hd]
    exact ⟨(hrefused _).transferEnded _ _, ((State.Ends.refl _).transferEnded _ _).notVerifying (hout _)⟩

end complete

/-! ## A segment is appended (R99) -/

section append
variable {s : State} {k : Fin 8} {e : SegmentEntry}

theorem State.waitingOf_append (h : e.slot = k) (j : Fin 8) :
    State.waitingOf { s with waiting := s.waiting ++ [e] } j = s.waitingOf j + if k = j then 1 else 0 := by
  simp only [State.waitingOf, List.countP_append, List.countP_singleton, h, beq_iff_eq]

theorem State.lanesOf_setLane (l : Fin 2) (w : Option LaneWork) (j : Fin 8) :
    (s.setLane l w).lanesOf j + laneOf (s.lane l) j = s.lanesOf j + laneOf w j := by
  rw [State.lanesOf_eq _ l, State.lane_setLane_same, State.lane_setLane_other, s.lanesOf_eq l]
  omega

theorem State.segmentsHeld_setLane (l : Fin 2) (w : Option LaneWork) :
    (s.setLane l w).segmentsHeld + (s.lane l).isSome.toNat = s.segmentsHeld + w.isSome.toNat := by
  rw [State.segmentsHeld_eq _ l, State.lane_setLane_same, State.lane_setLane_other, s.segmentsHeld_eq l,
    State.setLane_waiting]
  omega

/-- A lane that is idle takes an entry: whatever a lane held, a lane holds. -/
theorem State.laneHolds_load {l : Fin 2} (hl : s.lane l = none) {j : Fin 8} (hj : s.laneHolds j = true) :
    (s.load l e).laneHolds j = true := by
  rw [State.laneHolds_iff] at hj ⊢
  have h := s.lanesOf_setLane l (some { entry := e, sums := (s.slot e.slot).sums }) j
  rw [hl, laneOf_none] at h
  rw [State.load]
  omega

/-- The counts after a slot's pending count has risen by its new segment. -/
theorem State.Counted.append (hc : s.Counted) {x y : Slot} (hk : s.slot k = x)
    (hp : y.pendingCount = x.pendingCount + 1) (hy : y ≠ .draining) (hroom : s.segmentsHeld < Config.segmentPlaces)
    (he : e.slot = k) : ((s.setSlot k y).appendSegment e).Counted := by
  have hpending : ∀ j, ((s.setSlot k y).slot j).pendingCount
      = s.waitingOf j + s.lanesOf j + if k = j then 1 else 0 := fun j => by
    rw [State.slot_setSlot]
    split <;> rename_i h
    · rw [← h, hp, ← hk, hc.pending]
    · exact hc.pending j
  have hdraining : ∀ j, (s.setSlot k y).slot j = .draining → k ≠ j ∧ s.waitingOf j = 0 := fun j hj => by
    rw [State.slot_setSlot] at hj
    split at hj
    · exact absurd hj hy
    · exact ⟨‹_›, hc.draining j hj⟩
  by_cases hwaits : (s.setSlot k y).idleLane = none ∨ (s.setSlot k y).laneHolds e.slot = true
  · rw [State.appendSegment_waits hwaits]
    have hof := State.waitingOf_append (s := s.setSlot k y) he
    refine ⟨?_, fun j => ?_, hc.lanes, fun j hj => ?_⟩
    · have hlen : s.segmentsHeld + 1 = State.segmentsHeld { s.setSlot k y with waiting := s.waiting ++ [e] } := by
        simp only [State.segmentsHeld, List.length_append, List.length_singleton, State.setSlot_lanes]
        omega
      exact hlen ▸ hroom
    · have hlanes : State.lanesOf { s.setSlot k y with waiting := s.waiting ++ [e] } j = s.lanesOf j := rfl
      exact (hpending j).trans (by rw [State.setSlot_waiting] at hof; rw [State.setSlot_waiting, hof, hlanes]; exact Nat.add_right_comm ..)
    · obtain ⟨hne, hzero⟩ := hdraining j hj
      rw [hof, if_neg hne]
      exact hzero
  · obtain ⟨l, hl⟩ := Option.ne_none_iff_exists'.1 fun h => hwaits (.inl h)
    have hfree : (s.setSlot k y).laneHolds e.slot = false := Bool.eq_false_iff.2 fun h => hwaits (.inr h)
    rw [State.appendSegment_taken hl hfree]
    have hidle : s.lane l = none := ((State.idleLane_eq_some_iff l).1 hl).1
    have hof : ∀ j, ((s.setSlot k y).load l e).lanesOf j = s.lanesOf j + if k = j then 1 else 0 := fun j => by
      have h := (s.setSlot k y).lanesOf_setLane l (some { entry := e, sums := ((s.setSlot k y).slot e.slot).sums }) j
      have hl' : (s.setSlot k y).lane l = none := hidle
      have hsame : (s.setSlot k y).lanesOf j = s.lanesOf j := rfl
      rw [hl', laneOf_none, laneOf_some, hsame] at h
      have hentry : e.slot = j ↔ k = j := by rw [he]
      exact h.trans (if_congr hentry rfl rfl ▸ rfl)
    have hzero : s.lanesOf k = 0 := (s.laneHolds_eq_false_iff k).1 (he ▸ hfree)
    refine ⟨?_, fun j => ?_, fun j => ?_, fun j hj => (hdraining j hj).2⟩
    · have h := (s.setSlot k y).segmentsHeld_setLane l (some { entry := e, sums := ((s.setSlot k y).slot e.slot).sums })
      have hl' : (s.setSlot k y).lane l = none := hidle
      have hheld : (s.setSlot k y).segmentsHeld = s.segmentsHeld := rfl
      simp only [hl', hheld, Option.isSome_none, Option.isSome_some, Bool.toNat_false, Bool.toNat_true] at h
      rw [State.load]
      omega
    · exact (hpending j).trans (by rw [hof]; exact Nat.add_assoc ..)
    · rw [hof]
      split
      · subst j; omega
      · exact hc.lanes j

/-- After an append every entry that waits beside an idle lane belongs to a slot that a lane holds. -/
theorem State.LanesTaken.append (h : s.LanesTaken) : (s.appendSegment e).LanesTaken := by
  by_cases hwaits : s.idleLane = none ∨ s.laneHolds e.slot = true
  · rw [State.appendSegment_waits hwaits]
    intro l hl a ha
    obtain ha | ha := List.mem_append.1 ha
    · exact h l hl a ha
    · obtain rfl := List.mem_singleton.1 ha
      refine hwaits.resolve_left fun hnone => ?_
      obtain ⟨h0, h1⟩ := State.idleLane_eq_none_iff.1 hnone
      fin_cases l
      · exact h0 hl
      · exact h1 hl
  · obtain ⟨l, hl⟩ := Option.ne_none_iff_exists'.1 fun h => hwaits (.inl h)
    have hfree : s.laneHolds e.slot = false := Bool.eq_false_iff.2 fun h => hwaits (.inr h)
    rw [State.appendSegment_taken hl hfree]
    have hidle := ((State.idleLane_eq_some_iff l).1 hl).1
    exact fun _ _ a ha => State.laneHolds_load hidle (h l hidle a ha)

end append

/-! ## A lane finishes (R101 to R103) -/

section finish
variable {s : State} {l : Fin 2}

/-- The arbiter gives the oldest eligible entry, or finds none (R103). -/
theorem State.giveNext_cases (s : State) (l : Fin 2) :
    (s.giveNext l = s ∧ ∀ e ∈ s.waiting, s.laneHolds e.slot = true)
      ∨ ∃ older e newer, s.waiting = older ++ e :: newer ∧ s.laneHolds e.slot = false
        ∧ s.giveNext l = State.load { s with waiting := older ++ newer } l e := by
  cases hfind : s.waiting.find? s.eligible with
  | none =>
    have hheld : ∀ e ∈ s.waiting, s.laneHolds e.slot = true := fun e he => by
      simpa [State.eligible] using List.find?_eq_none.1 hfind e he
    exact .inl ⟨State.giveNext_of_none l hheld, hheld⟩
  | some e =>
    obtain ⟨he, older, newer, hw, holder⟩ := List.find?_eq_some_iff_append.1 hfind
    have hfree := State.eligible_iff.1 he
    exact .inr ⟨older, e, newer, hw, hfree,
      State.giveNext_of_oldest l hw (fun a ha => by simpa [State.eligible] using holder a ha) hfree⟩

/-- The counts after an idle lane has been given the oldest eligible entry. -/
theorem State.Counted.giveNext (hc : s.Counted) (hl : s.lane l = none) : (s.giveNext l).Counted := by
  obtain ⟨hsame, -⟩ | ⟨older, e, newer, hw, hfree, hgiven⟩ := s.giveNext_cases l
  · rw [hsame]
    exact hc
  · have hzero := (s.laneHolds_eq_false_iff _).1 hfree
    have hlanes : ∀ j, (s.giveNext l).lanesOf j = s.lanesOf j + if e.slot = j then 1 else 0 := fun j => by
      have h := State.lanesOf_setLane (s := { s with waiting := older ++ newer }) l
        (some { entry := e, sums := (s.slot e.slot).sums }) j
      have hidle : State.lane { s with waiting := older ++ newer } l = none := hl
      rw [hidle, laneOf_none, laneOf_some] at h
      rw [hgiven]
      exact h
    have hwaiting : ∀ j, s.waitingOf j = (s.giveNext l).waitingOf j + if e.slot = j then 1 else 0 := fun j => by
      have hof : (s.giveNext l).waitingOf j = (older ++ newer).countP (fun e => e.slot == j) := by rw [hgiven]; rfl
      rw [hof, State.waitingOf, hw]
      simp only [List.countP_append, List.countP_cons, beq_iff_eq]
      omega
    have hslot : ∀ j, (s.giveNext l).slot j = s.slot j := fun j => State.slot_of_slots (s.giveNext_slots l) j
    refine ⟨?_, fun j => ?_, fun j => ?_, fun j hj => ?_⟩
    · have h := State.segmentsHeld_setLane (s := { s with waiting := older ++ newer }) l
        (some { entry := e, sums := (s.slot e.slot).sums })
      have hidle : State.lane { s with waiting := older ++ newer } l = none := hl
      have hlen : s.segmentsHeld = State.segmentsHeld { s with waiting := older ++ newer } + 1 := by
        simp only [State.segmentsHeld, hw, List.length_append, List.length_cons]
        omega
      have hgivenHeld : (s.giveNext l).segmentsHeld = s.segmentsHeld := by
        rw [hidle] at h
        rw [hgiven, hlen]
        exact h
      rw [hgivenHeld]
      exact hc.held
    · rw [hslot, hc.pending, hwaiting, hlanes]
      omega
    · rw [hlanes]
      split
      · subst j; omega
      · exact hc.lanes j
    · have := hwaiting j
      rw [hc.draining j (hslot j ▸ hj)] at this
      omega

/-- After a lane has been given its next entry, where beside an idle other lane the entries all waited for one slot. -/
theorem State.giveNext_lanesTaken {k : Fin 8} (hrest : s.lane (1 - l) = none → ∀ e ∈ s.waiting, e.slot = k) :
    (s.giveNext l).LanesTaken := by
  obtain ⟨hsame, hheld⟩ | ⟨older, e, newer, hw, hfree, hgiven⟩ := s.giveNext_cases l
  · rw [hsame]
    exact fun _ _ => hheld
  · rw [hgiven]
    intro j hj a ha
    have hmem : a ∈ s.waiting := by
      have ha' : a ∈ older ++ newer := ha
      rw [hw]
      simp only [List.mem_append, List.mem_cons] at ha' ⊢
      exact ha'.imp_right .inr
    have hne : j ≠ l := fun h => by
      subst h
      rw [State.load, State.lane_setLane_same] at hj
      cases hj
    have hidle : s.lane (1 - l) = none := by
      rw [other_lane_ne hne, State.load, State.lane_setLane_other] at hj
      exact hj
    have hslot : e.slot = a.slot :=
      (hrest hidle e (by rw [hw]; simp)).trans (hrest hidle a hmem).symm
    rw [State.laneHolds_iff, State.lanesOf_eq _ l, State.load, State.lane_setLane_same, laneOf_some, if_pos hslot]
    omega

/-- A lane that becomes idle gives up its segment, and the slot's pending count falls with it; a VERIFYING slot with
nothing left completes, a DRAINING one is FREE (R88, R101, R102). -/
theorem State.laneReports_counted {w : LaneWork} (hs : s.SegmentsGood) (hl : s.lane l = some w) :
    ((s.setLane l none).laneReports w).Counted ∧ ((s.setLane l none).laneReports w).lanes = (s.setLane l none).lanes
      ∧ (∀ e ∈ ((s.setLane l none).laneReports w).waiting, e ∈ s.waiting)
      ∧ ∀ k, (((s.setLane l none).laneReports w).slot k).isVerifying = true →
        0 < (((s.setLane l none).laneReports w).slot k).pendingCount := by
  obtain ⟨hc, hv, -⟩ := s.segmentsGood_iff.1 hs
  have hlanes : ∀ j, (s.setLane l none).lanesOf j + (if w.entry.slot = j then 1 else 0) = s.lanesOf j := fun j => by
    have h := s.lanesOf_setLane l none j
    rwa [hl, laneOf_some, laneOf_none] at h
  have hone : s.lanesOf w.entry.slot = 1 := by
    have h := hlanes w.entry.slot
    have hle := hc.lanes w.entry.slot
    rw [if_pos rfl] at h
    omega
  have hheld : (s.setLane l none).segmentsHeld ≤ Config.segmentPlaces := by
    have h := s.segmentsHeld_setLane l none
    have hle := hc.held
    rw [hl, Option.isSome_some, Option.isSome_none, Bool.toNat_true, Bool.toNat_false] at h
    omega
  /- what the slot becomes with its pending count one lower -/
  have hcounted : ∀ y : Slot, y.pendingCount + 1 = (s.slot w.entry.slot).pendingCount →
      (y = .draining → s.waitingOf w.entry.slot = 0) → ((s.setLane l none).setSlot w.entry.slot y).Counted := by
    intro y hy hd
    have hslot : ∀ j, ((s.setLane l none).setSlot w.entry.slot y).slot j
        = if w.entry.slot = j then y else s.slot j := fun j => State.slot_setSlot ..
    refine ⟨hheld, fun j => ?_, fun j => ?_, fun j hj => ?_⟩
    · have hj : ((s.setLane l none).setSlot w.entry.slot y).waitingOf j
          + ((s.setLane l none).setSlot w.entry.slot y).lanesOf j = s.waitingOf j + (s.setLane l none).lanesOf j := rfl
      have hp := hc.pending j
      have hlj := hlanes j
      rw [hslot, hj]
      split <;> rename_i h
      · subst j
        rw [if_pos rfl] at hlj
        omega
      · rw [if_neg h] at hlj
        omega
    · have hlj := hlanes j
      have hle := hc.lanes j
      have hj : ((s.setLane l none).setSlot w.entry.slot y).lanesOf j = (s.setLane l none).lanesOf j := rfl
      rw [hj]
      omega
    · rw [hslot] at hj
      split at hj <;> rename_i h
      · subst j
        exact hd hj
      · exact hc.draining j hj
  have hverifying : ∀ y : Slot, (y.isVerifying = true → 0 < y.pendingCount) → ∀ k,
      (((s.setLane l none).setSlot w.entry.slot y).slot k).isVerifying = true →
        0 < (((s.setLane l none).setSlot w.entry.slot y).slot k).pendingCount := by
    intro y hy k
    have hslot : ((s.setLane l none).setSlot w.entry.slot y).slot k
        = if w.entry.slot = k then y else s.slot k := State.slot_setSlot ..
    rw [hslot]
    split
    · exact hy
    · exact hv k
  have hpending : 0 < (s.slot w.entry.slot).pendingCount := by
    rw [hc.pending]
    omega
  cases hk : s.slot w.entry.slot with
  | free => rw [hk] at hpending; cases hpending
  | released x d => rw [hk] at hpending; cases hpending
  | taking x z p q =>
    rw [State.laneReports_taking (s := s.setLane l none) hk]
    rw [hk] at hpending
    have hp : (Slot.taking x (w.sums.takeAll w.entry.words) (p - 1) q).pendingCount + 1 = (s.slot w.entry.slot).pendingCount := by
      rw [hk]
      exact Nat.sub_add_cancel hpending
    exact ⟨hcounted _ hp nofun, rfl, fun _ => id, hverifying _ nofun⟩
  | draining =>
    rw [State.laneReports_draining (s := s.setLane l none) hk]
    exact ⟨hcounted _ (by rw [hk]; rfl) nofun, rfl, fun _ => id, hverifying _ nofun⟩
  | verifying x z p f =>
    rw [State.laneReports_verifying (s := s.setLane l none) hk]
    rw [hk] at hpending
    have hp : (Slot.verifying x (w.sums.takeAll w.entry.words) (p - 1) f).pendingCount + 1
        = (s.slot w.entry.slot).pendingCount := by
      rw [hk]
      exact Nat.sub_add_cancel hpending
    have hself : ((s.setLane l none).setSlot w.entry.slot
        (.verifying x (w.sums.takeAll w.entry.words) (p - 1) f)).slot w.entry.slot
          = .verifying x (w.sums.takeAll w.entry.words) (p - 1) f := by rw [State.slot_setSlot, if_pos rfl]
    cases hzero : p - 1 with
    | zero =>
      rw [hzero] at hp hself
      obtain ⟨hends, hout⟩ := State.completeVerifying_ends hself
      refine ⟨hends.counted (hcounted _ hp nofun), hends.lanes, hends.waiting, fun j hj => ?_⟩
      have hsame := hends.verifying j hj
      by_cases hjk : w.entry.slot = j
      · subst j
        rw [hout] at hj
        cases hj
      · rw [State.slot_setSlot, if_neg hjk] at hsame
        rw [hsame] at hj ⊢
        exact hv j hj
    | succ p' =>
      rw [hzero] at hp hself
      rw [State.completeVerifying_of_pending hself (Nat.succ_ne_zero p')]
      exact ⟨hcounted _ hp nofun, rfl, fun _ => id, hverifying _ fun _ => Nat.succ_pos p'⟩

theorem State.finishLane_segmentsGood {w : LaneWork} (hs : s.SegmentsGood) (hl : s.lane l = some w) :
    (s.finishLane l).SegmentsGood := by
  obtain ⟨-, -, htaken⟩ := s.segmentsGood_iff.1 hs
  obtain ⟨hc, hlanes, hwaiting, hv⟩ := State.laneReports_counted hs hl
  have hfinish : s.finishLane l = ((s.setLane l none).laneReports w).giveNext l := by simp [State.finishLane, hl]
  have hidle : ((s.setLane l none).laneReports w).lane l = none := by
    rw [State.lane_of_lanes hlanes, State.lane_setLane_same]
  rw [hfinish]
  refine (State.segmentsGood_iff _).2 ⟨hc.giveNext hidle, fun k hk => ?_,
    State.giveNext_lanesTaken (k := w.entry.slot) fun hother e he => ?_⟩
  · rw [State.slot_of_slots (State.giveNext_slots ..)] at hk ⊢
    exact hv k hk
  · rw [State.lane_of_lanes hlanes, State.lane_setLane_other] at hother
    have hheld := htaken (1 - l) hother e (hwaiting e he)
    rw [State.laneHolds_iff, s.lanesOf_eq l, hl, hother, laneOf_none, laneOf_some] at hheld
    by_contra hne
    rw [if_neg fun h => hne h.symm] at hheld
    omega

end finish

/-! ## Every act -/

theorem State.Cleared.segmentsGood {t : State} (h : t.Cleared) : t.SegmentsGood := by
  have hlanes : ∀ k, t.lanesOf k = 0 := fun k => by
    rw [State.lanesOf_eq _ 0, h.lanes, h.lanes]
    rfl
  have hwaiting : ∀ k, t.waitingOf k = 0 := fun k => by rw [State.waitingOf, h.waiting, List.countP_nil]
  refine t.segmentsGood_iff.2 ⟨⟨?_, fun k => ?_, fun k => ?_, fun k _ => hwaiting k⟩, fun k hk => ?_, fun l _ e he => ?_⟩
  · rw [State.segmentsHeld_eq _ 0, h.lanes, h.lanes, h.waiting]
    decide
  · rw [h.slots, hwaiting, hlanes]
    rfl
  · rw [hlanes]
    exact Nat.zero_le 1
  · rw [h.slots] at hk
    cases hk
  · rw [h.waiting] at he
    cases he

theorem State.Ends.foldl {α : Type} {f : State → α → State} {s t : State} (hf : ∀ (t : State) a, t.Ends (f t a))
    (l : List α) (h : s.Ends t) : s.Ends (l.foldl f t) := by
  induction l generalizing t with
  | nil => exact h
  | cons a l ih => exact ih (h.trans (hf t a))

/-- Every act keeps the Segment Queue, the lanes and the pending counts in agreement. -/
theorem State.Act.segmentsGood {s t : State} (h : s.Act t) (hs : s.SegmentsGood) : t.SegmentsGood := by
  have hrefl := State.Ends.refl s
  obtain ⟨hc, hv, htaken⟩ := s.segmentsGood_iff.1 hs
  cases h with
  | ended b r v c _ => exact ((hrefl.abort _ b r v).transferEnded _ c).segmentsGood hs
  | went r _ _ => exact ((hrefl.abortOwned _ r).setWindow _ _).segmentsGood hs
  | moved _ _ => exact (hrefl.setWindow _ _).segmentsGood hs
  | released _ _ => exact (hrefl.setWindow _ _).segmentsGood hs
  | observed q _ => exact (hrefl.same (by simp) (by simp) (by simp)).segmentsGood hs
  | settled _ _ => exact (hrefl.same (by simp) (by simp) (by simp)).segmentsGood hs
  | @started n k _ _ f check hk _ =>
    have hstarted : s.Ends (s.setSlot k (.taking (transferOf n f check) Sums.zero 0
        { expected := 0, last := none, idle := s.idleDeadline, answer := some s.responseDeadline })) :=
      hrefl.setSlot (by rw [hk]; rfl) nofun rfl
    exact (hstarted.same (by simp [State.startTransfer]) (by simp [State.startTransfer])
      (by simp [State.startTransfer])).segmentsGood hs
  | @retaken k x z p _ q' hk =>
    have hretaken : s.Ends (s.setSlot k (.taking x z p q')) := hrefl.setSlot (by rw [hk]; rfl) nofun rfl
    exact hretaken.segmentsGood hs
  | @accepted k x x' z p q q' e hk hx hroom he =>
    refine (State.segmentsGood_iff _).2 ⟨hc.append hk rfl nofun hroom he, fun j hj => ?_, State.LanesTaken.append htaken⟩
    rw [State.slot_of_slots (State.appendSegment_slots ..), State.slot_setSlot] at hj ⊢
    split
    · exact Nat.succ_pos p
    · rw [if_neg ‹_›] at hj
      exact hv j hj
  | @held k x z p q f hk hp =>
    have hset : (s.setSlot k (.verifying x z p f)).SegmentsGood := by
      refine (State.segmentsGood_iff _).2 ⟨hc.setSlot (by rw [hk]; rfl) nofun, fun j hj => ?_, htaken⟩
      rw [State.slot_setSlot] at hj ⊢
      split
      · exact Nat.pos_of_ne_zero hp
      · rw [if_neg ‹_›] at hj
        exact hv j hj
    exact ((State.Ends.refl _).same (by simp) (by simp) (by simp)).segmentsGood hset
  | @completed k x z q f hk =>
    have hset : ((s.setSlot k (.verifying x z 0 f)).commitHeld x.controller).slot k = .verifying x z 0 f := by
      rw [State.slot_of_slots (State.commitHeld_slots ..), State.slot_setSlot, if_pos rfl]
    obtain ⟨hends, hout⟩ := State.completeVerifying_ends hset
    have hheld : (s.setSlot k (.verifying x z 0 f)).Ends ((s.setSlot k (.verifying x z 0 f)).commitHeld x.controller) :=
      (State.Ends.refl _).same (by simp) (by simp) (by simp)
    have hall := hheld.trans hends
    refine (State.segmentsGood_iff _).2 ⟨hall.counted (hc.setSlot (by rw [hk]; rfl) nofun), fun j hj => ?_,
      fun l hl e he => ?_⟩
    · have hsame := hall.verifying j hj
      by_cases hjk : k = j
      · subst j
        rw [hout] at hj
        cases hj
      · rw [State.slot_setSlot, if_neg hjk] at hsame
        rw [hsame] at hj ⊢
        exact hv j hj
    · rw [State.lane_of_lanes hall.lanes] at hl
      rw [State.laneHolds_of_lanes hall.lanes]
      exact htaken l hl e (hall.waiting e he)
  | @answered k x d notice hk =>
    have hfree : s.Ends (s.setSlot k .free) := hrefl.setSlot (by rw [hk]; rfl) nofun rfl
    have hshape : (s.endReleased k notice).slots = (s.setSlot k .free).slots := by
      unfold State.endReleased
      rw [hk]
      dsimp only
      split <;> simp
    exact (hfree.same hshape (by simp) (by simp)).segmentsGood hs
  | finished hl => exact State.finishLane_segmentsGood hs hl
  | lost =>
    have hslots := State.Ends.foldl (fun t k => (State.Ends.refl t).linkLossSlot k) (List.finRange 8) hrefl
    exact (State.Ends.foldl (fun t n => (State.Ends.refl t).same (by simp) (by simp) (by simp)) (List.finRange 32)
      hslots).segmentsGood hs
  | cleared h => exact h.segmentsGood
  | reselected h => exact (hrefl.same h.slots h.waiting h.lanes).segmentsGood hs

theorem State.segmentsGood_of_downloads {s t : State} (h : t.downloads = s.downloads) (hs : s.SegmentsGood) :
    t.SegmentsGood := by
  simp only [State.downloads, Prod.mk.injEq] at h
  obtain ⟨hslots, hwaiting, hlanes, -⟩ := h
  exact ((State.Ends.refl s).same hslots hwaiting hlanes).segmentsGood hs

end Sys2Proof.Machine

open Sys2Proof Sys2Proof.Machine

/-- Settles O6: the one act of a step keeps the counts, and what comes before and after it reaches none of them. -/
theorem stepsKeepSegmentsGood : Obligations.StepsKeepSegmentsGood := by
  intro s t hs h
  cases step_acts h with
  | still hd => exact State.segmentsGood_of_downloads hd hs
  | act hb ha hd =>
    exact State.segmentsGood_of_downloads hd (ha.segmentsGood (State.segmentsGood_of_downloads hb.downloads hs))
end

section
/-! PROOFS. Windows and transfer slots (O7): what each slot claims of its controller's window, told for one controller at
a time. -/

namespace Sys2Proof.Machine

/-! ## Window states read after a change -/

section windows
variable {s t : State} {n m : Fin 32} {w : Window}

theorem State.window_of_controllers (h : t.controllers = s.controllers) (n : Fin 32) : t.window? n = s.window? n := by
  rw [State.window?, State.controller, h, State.window?, State.controller]

theorem State.window_setWindow (s : State) (n m : Fin 32) (w : Window) :
    (s.setWindow n w).window? m = if n = m then (s.window? m).map (fun _ => w) else s.window? m := by
  rw [State.window?, State.setWindow, State.controller_updateController]
  split
  · rw [Option.map_map, State.window?, Option.map_map]
    rfl
  · rfl

theorem State.window_setWindow_same {w₀ : Window} (h : s.window? n = some w₀) :
    (s.setWindow n w).window? n = some w := by simp [State.window_setWindow, h]

theorem State.window_setWindow_of_ne (h : n ≠ m) : (s.setWindow n w).window? m = s.window? m := by
  simp [State.window_setWindow, h]

theorem State.window_updateController {f : Controller → Controller} (hf : ∀ c, (f c).window = c.window) :
    (s.updateController n f).window? m = s.window? m := by
  rw [State.window?, State.controller_updateController]
  split
  · rw [Option.map_map, State.window?]
    exact congrArg (fun g => (s.controller m).map g) (funext hf)
  · rfl

/-- The end of a transfer reaches the window of its own controller only. -/
theorem State.window_transferEnded_of_ne (b : Bool) (h : n ≠ m) : (s.transferEnded n b).window? m = s.window? m := by
  unfold State.transferEnded State.endTransfer
  repeat' split
  all_goals simp [State.postWindow, State.window_setWindow_of_ne h]

/-- A window goes on from the end of its transfer to LOCKED or OPEN (R36). -/
theorem State.window_endTransfer (hw : s.window? n = some w) (m : WindowMode) (d : Option Nat) (c : Option CloseCause)
    (b : Bool) : (s.endTransfer n m d c b).window? n = some .locked
      ∨ ∃ d', (s.endTransfer n m d c b).window? n = some (.opened m d') := by
  unfold State.endTransfer
  split
  · exact .inl (State.window_setWindow_same hw)
  · exact .inl (by simp [State.postWindow, State.window_setWindow_same hw])
  · split
    · exact .inl (by simp [State.postWindow, State.window_setWindow_same hw])
    · exact .inr ⟨_, State.window_setWindow_same hw⟩
  · exact .inl (by simp [State.postWindow, State.window_setWindow_same hw])

end windows

/-! ## Claims -/

/-- The phases of a live slot. -/
inductive Phase where
  | taking | verifying | released
  deriving DecidableEq

/-- The slot a window owns, and the phase its state stands for (R35). -/
def Window.owner : Window → Option (Phase × Fin 8)
  | .transfer _ _ k => some (.taking, k)
  | .verify _ _ k _ => some (.verifying, k)
  | .commitWait _ _ k _ => some (.released, k)
  | _ => none

/-- A window that owns a slot asks for its abort until the commit is released (R30, R38). -/
theorem Window.slotToAbort_of_owner {w : Window} {p : Phase} {k : Fin 8} (h : w.owner = some (p, k)) :
    w.slotToAbort = if p = .released then none else some k := by
  cases w <;> cases h <;> rfl

theorem Window.slotToAbort_of_owner_none {w : Window} (h : w.owner = none) : w.slotToAbort = none := by
  cases w <;> first | rfl | cases h

/-- The phase of a live slot, and the controller it names. -/
def Slot.claim : Slot → Option (Phase × Fin 32)
  | .taking x _ _ _ => some (.taking, x.controller)
  | .verifying x _ _ _ => some (.verifying, x.controller)
  | .released x _ => some (.released, x.controller)
  | _ => none

/-- A slot, live in a phase, names the controller. -/
def State.Names (s : State) (n : Fin 32) (k : Fin 8) (p : Phase) : Prop := (s.slot k).claim = some (p, n)

/-- The slots that name a controller, by its window: the one the window owns; one left RELEASED in QUARANTINE; none. -/
inductive State.Agrees (s : State) (n : Fin 32) : Prop where
  | owned {w : Window} {p : Phase} {k : Fin 8} : s.window? n = some w → w.owner = some (p, k) →
      (∀ j q, s.Names n j q ↔ j = k ∧ q = p) → Agrees s n
  | left {c : QuarantineCause} {k : Fin 8} : s.window? n = some (.quarantined c) →
      (∀ j q, s.Names n j q ↔ j = k ∧ q = .released) → Agrees s n
  | apart : (∀ w ∈ s.window? n, w.owner = none) → (∀ j q, ¬ s.Names n j q) → Agrees s n

theorem State.names_setWindow (s : State) (n m : Fin 32) (w : Window) (k : Fin 8) (p : Phase) :
    (s.setWindow n w).Names m k p ↔ s.Names m k p := by
  rw [State.Names, State.slot_of_slots (State.setWindow_slots ..), State.Names]

section agree
variable {s t : State} {n : Fin 32} {k : Fin 8}

theorem Slot.exists_live_iff {x : Slot} : (∃ y ∈ x.live, y.controller = n) ↔ ∃ p, x.claim = some (p, n) := by
  cases x <;> simp [Slot.live, Slot.claim]

theorem State.ownerAgrees_iff : s.ownerAgrees n = true ↔
    ∀ w, s.window? n = some w → ∀ q, w.owner = some q → s.Names n q.2 q.1 := by
  unfold State.ownerAgrees State.Names
  cases s.window? n with
  | none => simp
  | some w =>
    cases w with
    | transfer m d k => cases h : s.slot k <;> simp [Window.owner, Slot.claim, h]
    | verify m d k c => cases h : s.slot k <;> simp [Window.owner, Slot.claim, h]
    | commitWait m d k c => cases h : s.slot k <;> simp [Window.owner, Slot.claim, h]
    | _ => simp [Window.owner]

theorem State.slotAgrees_iff : s.slotAgrees k = true ↔ ∀ p n, s.Names n k p →
    ∃ w, s.window? n = some w ∧ (w.owner = some (p, k) ∨ p = .released ∧ ∃ c, w = .quarantined c) := by
  unfold State.slotAgrees State.Names
  cases s.slot k with
  | free => simp [Slot.claim]
  | draining => simp [Slot.claim]
  | taking x z p q => 
    cases hw : s.window? x.controller with
    | none => simp [Slot.claim, hw]
    | some w => cases w <;> simp [Slot.claim, hw, Window.owner]
  | verifying x z p q => 
    cases hw : s.window? x.controller with
    | none => simp [Slot.claim, hw]
    | some w => cases w <;> simp [Slot.claim, hw, Window.owner]
  | released x d => 
    cases hw : s.window? x.controller with
    | none => simp [Slot.claim, hw]
    | some w => cases w <;> simp [Slot.claim, hw, Window.owner]

/-- Windows and slots agree when they do so for each controller. -/
theorem State.ownersGood_iff : s.OwnersGood ↔ ∀ n, s.Agrees n := by
  constructor
  · rintro ⟨hown, hslot, hone⟩ n
    by_cases hex : ∃ k p, s.Names n k p
    · obtain ⟨k, p, hk⟩ := hex
      have hiff : ∀ j q, s.Names n j q ↔ j = k ∧ q = p := fun j q => by
        refine ⟨fun hj => ?_, fun ⟨hj, hq⟩ => by rw [hj, hq]; exact hk⟩
        obtain ⟨x, hx, hxn⟩ := Slot.exists_live_iff.2 ⟨q, hj⟩
        obtain ⟨y, hy, hyn⟩ := Slot.exists_live_iff.2 ⟨p, hk⟩
        obtain rfl := hone j k x hx y hy (hxn.trans hyn.symm)
        obtain ⟨rfl, -⟩ := Prod.mk.inj (Option.some.inj (hj.symm.trans hk))
        exact ⟨rfl, rfl⟩
      obtain ⟨w, hw, ho | ⟨rfl, c, rfl⟩⟩ := State.slotAgrees_iff.1 (hslot k) p n hk
      · exact .owned hw ho hiff
      · exact .left hw hiff
    · refine .apart (fun w hw => ?_) fun j q hj => hex ⟨j, q, hj⟩
      by_contra ho
      obtain ⟨⟨p, k⟩, ho⟩ := Option.ne_none_iff_exists'.1 ho
      exact hex ⟨k, p, State.ownerAgrees_iff.1 (hown n) w hw _ ho⟩
  · refine fun h => ⟨fun n => ?_, fun k => ?_, fun j k x hx y hy hxy => ?_⟩
    · refine State.ownerAgrees_iff.2 fun w hw ⟨p, k⟩ ho => ?_
      cases h n with
      | owned hw' ho' hiff =>
        obtain rfl := Option.some.inj (hw'.symm.trans hw)
        obtain ⟨rfl, rfl⟩ := Prod.mk.inj (Option.some.inj (ho'.symm.trans ho))
        exact (hiff _ _).2 ⟨rfl, rfl⟩
      | left hw' _ =>
        obtain rfl := Option.some.inj (hw'.symm.trans hw)
        cases ho
      | apart hnone _ => rw [hnone w hw] at ho; cases ho
    · refine State.slotAgrees_iff.2 fun p n hk => ?_
      cases h n with
      | owned hw ho hiff =>
        obtain ⟨rfl, rfl⟩ := (hiff _ _).1 hk
        exact ⟨_, hw, .inl ho⟩
      | left hw hiff => exact ⟨_, hw, .inr ⟨((hiff _ _).1 hk).2, _, rfl⟩⟩
      | apart _ hnone => exact absurd hk (hnone _ _)
    · obtain ⟨p, hj⟩ := Slot.exists_live_iff.1 ⟨x, hx, rfl⟩
      obtain ⟨q, hk⟩ := Slot.exists_live_iff.1 ⟨y, hy, hxy.symm⟩
      cases h x.controller with
      | owned _ _ hiff => exact ((hiff _ _).1 hj).1.trans ((hiff _ _).1 hk).1.symm
      | left _ hiff => exact ((hiff _ _).1 hj).1.trans ((hiff _ _).1 hk).1.symm
      | apart _ hnone => exact absurd hj (hnone _ _)

theorem State.Agrees.congr (h : s.Agrees n) (hw : t.window? n = s.window? n) (hk : ∀ j q, t.Names n j q ↔ s.Names n j q) :
    t.Agrees n := by
  cases h with
  | owned hw' ho hiff => exact .owned (hw.trans hw') ho fun j q => (hk j q).trans (hiff j q)
  | left hw' hiff => exact .left (hw.trans hw') fun j q => (hk j q).trans (hiff j q)
  | apart hnone hno => exact .apart (fun w h => hnone w (hw ▸ h)) fun j q h => hno j q ((hk j q).1 h)

/-- One controller's window and the slots that name it change, and agree again. -/
theorem State.OwnersGood.change (h : s.OwnersGood) (n : Fin 32) (hw : ∀ m, n ≠ m → t.window? m = s.window? m)
    (hk : ∀ m, n ≠ m → ∀ j q, t.Names m j q ↔ s.Names m j q) (hn : t.Agrees n) : t.OwnersGood := by
  refine State.ownersGood_iff.2 fun m => ?_
  by_cases hm : n = m
  · exact hm ▸ hn
  · exact (State.ownersGood_iff.1 h m).congr (hw m hm) (hk m hm)

/-- No window and no claim changes. -/
theorem State.OwnersGood.same (h : s.OwnersGood) (hw : ∀ m, t.window? m = s.window? m)
    (hk : ∀ j, (t.slot j).claim = (s.slot j).claim) : t.OwnersGood :=
  State.ownersGood_iff.2 fun m => (State.ownersGood_iff.1 h m).congr (hw m) fun j q => by rw [State.Names, hk, State.Names]

/-- No slot is live, and no window owns one. -/
theorem State.OwnersGood.of_apart (hw : ∀ n, Window.isShut (t.window? n)) (hk : ∀ k, (t.slot k).claim = none) :
    t.OwnersGood := by
  refine State.ownersGood_iff.2 fun n => .apart (fun w h => ?_) fun j q h => ?_
  · obtain hn | hn | ⟨c, hn⟩ := hw n <;> rw [hn] at h <;> cases h <;> rfl
  · rw [State.Names, hk] at h
    cases h

/-- The window of the controller a live slot names. -/
theorem State.OwnersGood.window (h : s.OwnersGood) {p : Phase} (hk : s.Names n k p) :
    (∃ w, s.window? n = some w ∧ (w.owner = some (p, k) ∨ p = .released ∧ ∃ c, w = .quarantined c))
      ∧ ∀ j q, s.Names n j q ↔ j = k ∧ q = p := by
  cases State.ownersGood_iff.1 h n with
  | owned hw ho hiff =>
    obtain ⟨rfl, rfl⟩ := (hiff _ _).1 hk
    exact ⟨⟨_, hw, .inl ho⟩, hiff⟩
  | left hw hiff =>
    obtain ⟨rfl, rfl⟩ := (hiff _ _).1 hk
    exact ⟨⟨_, hw, .inr ⟨rfl, _, rfl⟩⟩, hiff⟩
  | apart _ hno => exact absurd hk (hno _ _)

/-- A slot is set whose claim is no other controller's, before and after. -/
theorem State.names_setSlot {x : Slot} {m : Fin 32} (ht : ∀ j, (t.slot j).claim = ((s.setSlot k x).slot j).claim)
    (hs : ∀ p, ¬ s.Names m k p) (hx : ∀ p, x.claim ≠ some (p, m)) (j : Fin 8) (q : Phase) :
    t.Names m j q ↔ s.Names m j q := by
  rw [State.Names, ht, State.slot_setSlot]
  split
  · subst j
    exact ⟨fun h => absurd h (hx q), fun h => absurd h (hs q)⟩
  · rfl

theorem State.not_names_of_ne {p : Phase} {m : Fin 32} (hk : s.Names n k p) (hm : n ≠ m) (q : Phase) :
    ¬ s.Names m k q := fun h => hm (Prod.mk.inj (Option.some.inj (hk.symm.trans h))).2

end agree

/-! ## Slots that end -/

section ends
variable {s t : State} {n : Fin 32} {k : Fin 8} {x : Transfer}

theorem Slot.claim_of_abortable {y : Slot} (h : y.abortable = some x) :
    ∃ p, p ≠ .released ∧ y.claim = some (p, x.controller) := by
  cases y <;> simp_all [Slot.abortable, Slot.claim]

theorem State.claim_endSlot (s : State) (k j : Fin 8) :
    ((s.endSlot k).slot j).claim = ((s.setSlot k .free).slot j).claim := by
  have hslot : (s.endSlot k).slot j =
      if k = j then (if s.laneHolds k then .draining else .free) else s.slot j := State.slot_setSlot ..
  rw [hslot, State.slot_setSlot]
  split
  · split <;> rfl
  · rfl

/-- An abort ends its slot as far as claims go. -/
theorem State.claim_abort (hx : (s.slot k).abortable = some x) (b : Bool) (r : Option Reason) (v : Option Quad)
    (j : Fin 8) : ((s.abort k b r v).slot j).claim = ((s.setSlot k .free).slot j).claim := by
  have hslots : (s.abort k b r v).slots = (s.endSlot k).slots := by
    unfold State.abort
    rw [hx]
    dsimp only
    split <;> simp
  rw [State.slot_of_slots hslots]
  exact s.claim_endSlot k j

theorem State.abort_of_not_abortable (hx : (s.slot k).abortable = none) (b : Bool) (r : Option Reason)
    (v : Option Quad) : s.abort k b r v = s := by simp [State.abort, hx]

/-- A slot that can be aborted is owned by its controller's window, which closing and quarantine ask to abort. -/
theorem State.OwnersGood.window_of_abortable (h : s.OwnersGood) (hx : (s.slot k).abortable = some x) :
    ∃ w p, s.window? x.controller = some w ∧ w.owner = some (p, k) ∧ s.Names x.controller k p
      ∧ ∀ j q, s.Names x.controller j q ↔ j = k ∧ q = p := by
  obtain ⟨p, hp, hk⟩ := Slot.claim_of_abortable hx
  obtain ⟨⟨w, hw, ho | ⟨rfl, -⟩⟩, hiff⟩ := h.window hk
  · exact ⟨w, p, hw, ho, hk, hiff⟩
  · exact absurd rfl hp

theorem State.transferEnded_of_owner_none (b : Bool) (hw : ∀ w ∈ s.window? n, w.owner = none) :
    s.transferEnded n b = s := by
  unfold State.transferEnded
  split <;> rename_i h
  · cases hw _ h
  · cases hw _ h
  · cases hw _ h
  · rfl

theorem State.window_transferEnded {w : Window} {p : Phase} (b : Bool) (hw : s.window? n = some w)
    (ho : w.owner = some (p, k)) : (s.transferEnded n b).window? n = some .locked
      ∨ ∃ m d, (s.transferEnded n b).window? n = some (.opened m d) := by
  have hend : ∀ m d c, (s.endTransfer n m d c b).window? n = some .locked
      ∨ ∃ m' d', (s.endTransfer n m d c b).window? n = some (.opened m' d') := fun m d c =>
    (State.window_endTransfer hw m d c b).imp_right fun ⟨d', h⟩ => ⟨m, d', h⟩
  unfold State.transferEnded
  cases w with
  | transfer m d j => simpa only [hw] using hend m (some d) none
  | verify m d j c => simpa only [hw] using hend m d c
  | commitWait m d j c => simpa only [hw] using hend m d c
  | _ => cases ho

/-- The one slot that names a controller has ended, and its window has gone to a state that owns none. -/
theorem State.Agrees.of_ended {p : Phase} (hiff : ∀ j q, s.Names n j q ↔ j = k ∧ q = p)
    (ht : ∀ j, (t.slot j).claim = ((s.setSlot k .free).slot j).claim) (hw : ∀ w ∈ t.window? n, w.owner = none) :
    t.Agrees n := by
  refine .apart hw fun j q hj => ?_
  rw [State.Names, ht, State.slot_setSlot] at hj
  split at hj <;> rename_i hjk
  · cases hj
  · exact hjk ((hiff j q).1 hj).1.symm

/-- The slot of a transfer ends, and its window owns no slot any more. -/
theorem State.OwnersGood.ended (h : s.OwnersGood) {p : Phase} (hk : s.Names n k p)
    (ht : ∀ j, (t.slot j).claim = ((s.setSlot k .free).slot j).claim) (hw : ∀ w ∈ t.window? n, w.owner = none)
    (hne : ∀ m, n ≠ m → t.window? m = s.window? m) : t.OwnersGood :=
  h.change n hne (fun _ hm => State.names_setSlot ht (State.not_names_of_ne hk hm) (nofun))
    (.of_ended (h.window hk).2 ht hw)

theorem State.owner_transferEnded (s : State) (n : Fin 32) (b : Bool) :
    ∀ w ∈ (s.transferEnded n b).window? n, w.owner = none := by
  intro w hw
  cases hs : s.window? n with
  | none =>
    rw [State.transferEnded_of_owner_none b (by rw [hs]; nofun), hs] at hw
    cases hw
  | some w' =>
    cases ho : w'.owner with
    | none =>
      rw [State.transferEnded_of_owner_none b (by rw [hs]; rintro _ ⟨⟩; exact ho), hs] at hw
      obtain rfl := Option.some.inj hw
      exact ho
    | some q =>
      obtain h | ⟨m, d, h⟩ := State.window_transferEnded b hs ho <;> rw [h] at hw <;> cases hw <;> rfl

/-- The slot of a transfer ends, and its window is told so. -/
theorem State.OwnersGood.transferEnded (h : s.OwnersGood) {p : Phase} (hk : s.Names n k p)
    (ht : ∀ j, (t.slot j).claim = ((s.setSlot k .free).slot j).claim) (hw : ∀ m, t.window? m = s.window? m) (b : Bool) :
    (t.transferEnded n b).OwnersGood := by
  refine h.ended hk (fun j => ?_) (t.owner_transferEnded n b) fun m hm => ?_
  · rw [State.slot_of_slots (State.transferEnded_slots ..)]
    exact ht j
  · rw [State.window_transferEnded_of_ne b hm, hw]

theorem State.OwnersGood.setWindow_goes (h : s.OwnersGood) {w w' : Window} (r : Reason) (hw : s.window? n = some w)
    (hg : w.Goes w') : ((s.abortOwned w r).setWindow n w').OwnersGood := by
  have hown : w'.owner = none := by cases hg <;> rfl
  have hwindow : ∀ u : State, u.controllers = s.controllers → (u.setWindow n w').window? n = some w' ∧
      ∀ m, n ≠ m → (u.setWindow n w').window? m = s.window? m := fun u hu =>
    ⟨State.window_setWindow_same ((State.window_of_controllers hu n).trans hw), fun m hm =>
      (State.window_setWindow_of_ne hm).trans (State.window_of_controllers hu m)⟩
  have hkept : w.slotToAbort = none → (s.abortOwned w r).setWindow n w' = s.setWindow n w' := fun hnone => by
    simp [State.abortOwned, hnone]
  cases State.ownersGood_iff.1 h n with
  | @owned w p k hw' ho hiff =>
    obtain rfl := Option.some.inj (hw'.symm.trans hw)
    have hk : s.Names n k p := (hiff k p).2 ⟨rfl, rfl⟩
    by_cases hr : p = .released
    · /- COMMIT-WAIT goes to QUARANTINE and leaves its slot RELEASED -/
      subst hr
      obtain ⟨c, rfl⟩ : ∃ c, w' = .quarantined c := by
        cases hg with
        | quarantined c _ => exact ⟨c, rfl⟩
        | _ => cases ho
      rw [hkept ((Window.slotToAbort_of_owner ho).trans (if_pos rfl))]
      obtain ⟨hsame, hne⟩ := hwindow s rfl
      exact h.change n hne (fun m _ => s.names_setWindow n m _)
        (.left hsame fun j q => (s.names_setWindow n n _ j q).trans (hiff j q))
    · obtain ⟨x, hx, hxn⟩ : ∃ x, (s.slot k).abortable = some x ∧ x.controller = n := by
        unfold State.Names at hk
        cases hs : s.slot k <;> simp_all [Slot.claim, Slot.abortable]
      have habort : w.slotToAbort = some k := (Window.slotToAbort_of_owner ho).trans (if_neg hr)
      have hu : s.abortOwned w r = s.abort k true (some r) none := by simp [State.abortOwned, habort]
      obtain ⟨hsame, hne⟩ := hwindow (s.abortOwned w r) (by simp)
      refine h.ended hk (fun j => ?_) (by rw [hsame]; rintro _ ⟨⟩; exact hown) hne
      rw [State.slot_of_slots (State.setWindow_slots ..), hu]
      exact State.claim_abort hx ..
  | left hw' hiff =>
    obtain rfl := Option.some.inj (hw'.symm.trans hw)
    cases hg with
    | quarantined c hq => cases hq
  | apart hnone hno =>
    rw [hkept (Window.slotToAbort_of_owner_none (hnone w hw))]
    obtain ⟨hsame, hne⟩ := hwindow s rfl
    exact h.change n hne (fun m _ => s.names_setWindow n m _)
      (.apart (by rw [hsame]; rintro _ ⟨⟩; exact hown) fun j q hj => hno j q ((s.names_setWindow n n _ j q).1 hj))

end ends

/-! ## Completion -/

section complete
variable {s : State} {k : Fin 8} {x : Transfer} {z : Sums} {f : Frame}

/-- After a mismatch the window of the transfer that has ended owns no slot (R37, R115). -/
theorem State.OwnersGood.reportMismatch {t : State} (h : s.OwnersGood) {m : WindowMode} {d : Option Nat}
    {c : Option CloseCause} (hk : s.Names x.controller k .verifying) (hw : s.window? x.controller = some (.verify m d k c))
    (ht : ∀ j, (t.slot j).claim = ((s.setSlot k .free).slot j).claim) (hc : t.controllers = s.controllers) :
    (t.reportMismatch x.controller).OwnersGood := by
  have htw : ∀ m, t.window? m = s.window? m := State.window_of_controllers hc
  obtain ⟨y, hy, hyw⟩ : ∃ y, t.controller x.controller = some y ∧ y.window = .verify m d k c := by
    have hw' := (htw x.controller).trans hw
    rwa [State.window?, Option.map_eq_some_iff] at hw'
  have hslot : (t.slot k).abortable = none := by
    have hclaim := ht k
    rw [State.slot_setSlot, if_pos rfl] at hclaim
    cases hs : t.slot k <;> simp_all [Slot.claim, Slot.abortable]
  unfold State.reportMismatch
  rw [hy]
  dsimp only
  rw [hyw]
  dsimp only
  /- the counts are of no concern to windows and slots -/
  obtain ⟨u, hu, huw, hus⟩ : ∃ u : State, u = (t.countMismatch x.controller).updateController x.controller
      (fun c => { c with mismatches := saturateMismatch y.mismatches }) ∧ (∀ m, u.window? m = t.window? m)
        ∧ u.slots = t.slots := by
    refine ⟨_, rfl, fun m => ?_, by simp⟩
    exact Eq.trans (State.window_updateController fun _ => rfl) (State.window_of_controllers (by simp) m)
  rw [← hu]
  have hclaim : ∀ j, (u.slot j).claim = ((s.setSlot k .free).slot j).claim := fun j => by
    rw [State.slot_of_slots hus]
    exact ht j
  have hwindow : ∀ m, u.window? m = s.window? m := fun m => (huw m).trans (htw m)
  split
  · have hown : u.abortOwned (.verify m d k c) .quarantine = u := by
      rw [State.abortOwned, Window.slotToAbort]
      exact State.abort_of_not_abortable (by rw [State.slot_of_slots hus]; exact hslot) ..
    have hq : (u.setWindow x.controller (.quarantined .mismatchLimit)).OwnersGood := by
      refine h.ended hk (fun j => ?_) ?_ fun m hm => (State.window_setWindow_of_ne hm).trans (hwindow m)
      · rw [State.slot_of_slots (State.setWindow_slots ..)]
        exact hclaim j
      · rw [State.window_setWindow_same ((hwindow _).trans hw)]
        rintro _ ⟨⟩
        rfl
    unfold State.enterQuarantine
    rw [(hwindow _).trans hw]
    dsimp only
    rw [hown]
    exact hq.same (fun _ => by simp) fun _ => by simp
  · exact h.transferEnded hk hclaim hwindow false

/-- A slot in VERIFYING completes (R79 to R81). -/
theorem State.OwnersGood.completeVerifying (h : s.OwnersGood) (k : Fin 8) : (s.completeVerifying k).OwnersGood := by
  rcases hs : s.slot k with _ | _ | ⟨x, z, p, f⟩ | _ | _
  case verifying =>
    cases p with
    | succ p => rw [State.completeVerifying_of_pending hs (Nat.succ_ne_zero p)]; exact h
    | zero =>
      have hk : s.Names x.controller k .verifying := by simp [State.Names, hs, Slot.claim]
      obtain ⟨⟨w, hw, ho | ⟨hp, -⟩⟩, hiff⟩ := h.window hk
      swap
      · cases hp
      obtain ⟨m, d, c, rfl⟩ : ∃ m d c, w = .verify m d k c := by cases w <;> simp_all [Window.owner]
      rcases hd : s.decideImage x z.i (fingerprint z z.i) with ⟨u, o⟩
      have hu : u = (s.decideImage x z.i (fingerprint z z.i)).1 := by rw [hd]
      have huc : u.controllers = s.controllers := by rw [hu]; simp
      have hus : u.slots = s.slots := by rw [hu]; simp
      have hrefused : ∀ r, (∀ j, ((u.refuseHeld k x f r).slot j).claim = ((s.setSlot k .free).slot j).claim)
          ∧ (u.refuseHeld k x f r).controllers = s.controllers := fun r => by
        have hsame : (u.refuse (some x.controller) .commit f r).slots = s.slots := by simp [hus]
        refine ⟨fun j => ?_, by simp [State.refuseHeld, huc]⟩
        have hx : ((u.refuse (some x.controller) .commit f r).slot k).abortable = some x := by
          rw [State.slot_of_slots hsame, hs]; rfl
        rw [State.refuseHeld, State.claim_abort hx, State.slot_setSlot, State.slot_setSlot, State.slot_of_slots hsame]
      cases o with
      | release =>
        rw [State.completeVerifying_release hs hd]
        have hslots := u.releaseCommit_slots k x f (fingerprint z z.i)
        have hw' : (u.forward .line f).window? x.controller = some (.verify m d k c) := by
          rw [State.window_of_controllers (s := s) (by simp [huc]), hw]
        have hcw : ∀ m', (u.releaseCommit k x f (fingerprint z z.i)).window? m'
            = (s.setWindow x.controller (.commitWait m d k c)).window? m' := fun m' => by
          have hset : ((u.forward .line f).setSlot k (.released x u.responseDeadline)).window? x.controller
              = some (.verify m d k c) := hw'
          have hreleased : ((u.forward .line f).setSlot k (.released x u.responseDeadline)).commitReleased x.controller
              = ((u.forward .line f).setSlot k (.released x u.responseDeadline)).setWindow x.controller
                  (.commitWait m d k c) := by simp [State.commitReleased, hset]
          rw [State.releaseCommit]
          dsimp only
          rw [hreleased, State.window_post, State.window_of_controllers (State.countReleased_controllers ..),
            State.window_setWindow, State.window_setWindow]
          have hsame : ((u.forward .line f).setSlot k (.released x u.responseDeadline)).window? m' = s.window? m' :=
            State.window_of_controllers (by simp [huc]) m'
          rw [hsame]
        have hclaim : ∀ j, ((u.releaseCommit k x f (fingerprint z z.i)).slot j).claim
            = ((s.setSlot k (.released x u.responseDeadline)).slot j).claim := fun j => by
          rw [State.slot_of_slots hslots, State.slot_setSlot, State.slot_setSlot,
            State.slot_of_slots (s := s) (t := u.forward .line f) (by simp [hus])]
        refine h.change x.controller (fun m' hm => (hcw m').trans (State.window_setWindow_of_ne hm)) (fun m' hm =>
          State.names_setSlot hclaim (State.not_names_of_ne hk hm) fun p hp => ?_) ?_
        · exact hm (Prod.mk.inj (Option.some.inj hp)).2
        · refine .owned (p := .released) (k := k) ((hcw _).trans (State.window_setWindow_same hw)) rfl fun j q => ?_
          rw [State.Names, hclaim, State.slot_setSlot]
          split <;> rename_i hjk
          · subst j
            simp [Slot.claim, eq_comm]
          · refine ⟨fun hj => absurd ((hiff j q).1 hj).1.symm hjk, fun ⟨hj, _⟩ => absurd hj.symm hjk⟩
      | mismatch =>
        rw [State.completeVerifying_mismatch hs hd]
        exact h.reportMismatch hk hw (hrefused _).1 (hrefused _).2
      | imageFull =>
        rw [State.completeVerifying_imageFull hs hd]
        exact h.transferEnded hk (hrefused _).1 (State.window_of_controllers (hrefused _).2) false
  all_goals simpa [State.completeVerifying, hs] using h

end complete

/-! ## Every act -/

section act
variable {s t : State}

/-- A slot changes with its claim kept. -/
theorem State.OwnersGood.setSlot (h : s.OwnersGood) {k : Fin 8} {x : Slot} (hx : x.claim = (s.slot k).claim) :
    (s.setSlot k x).OwnersGood := by
  refine h.same (fun _ => rfl) fun j => ?_
  rw [State.slot_setSlot]
  split
  · subst k
    exact hx
  · rfl

/-- A COMMIT is held: the slot goes to VERIFYING and its window to VERIFY (R35, R78). -/
theorem State.OwnersGood.hold (h : s.OwnersGood) {k : Fin 8} {x : Transfer} {z : Sums} {p : Nat} {q : Intake} (f : Frame)
    (hs : s.slot k = .taking x z p q) : ((s.setSlot k (.verifying x z p f)).commitHeld x.controller).OwnersGood := by
  have hk : s.Names x.controller k .taking := by simp [State.Names, hs, Slot.claim]
  obtain ⟨⟨w, hw, ho | ⟨hp, -⟩⟩, hiff⟩ := h.window hk
  swap
  · cases hp
  obtain ⟨m, d, rfl⟩ : ∃ m d, w = .transfer m d k := by cases w <;> simp_all [Window.owner]
  have hset : (s.setSlot k (.verifying x z p f)).window? x.controller = some (.transfer m d k) := hw
  have hheld : (s.setSlot k (.verifying x z p f)).commitHeld x.controller
      = (s.setSlot k (.verifying x z p f)).setWindow x.controller (.verify m (some d) k none) := by
    simp [State.commitHeld, hset]
  rw [hheld]
  have hclaim : ∀ j, (((s.setSlot k (.verifying x z p f)).setWindow x.controller (.verify m (some d) k none)).slot j).claim
      = ((s.setSlot k (.verifying x z p f)).slot j).claim := fun j => by rw [State.slot_of_slots (State.setWindow_slots ..)]
  refine h.change x.controller (fun m' hm => State.window_setWindow_of_ne hm) (fun m' hm =>
    State.names_setSlot hclaim (State.not_names_of_ne hk hm) fun p hp => hm (Prod.mk.inj (Option.some.inj hp)).2) ?_
  refine .owned (p := .verifying) (k := k) (State.window_setWindow_same hset) rfl fun j q => ?_
  rw [State.Names, hclaim, State.slot_setSlot]
  split <;> rename_i hjk
  · subst j
    simp [Slot.claim, eq_comm]
  · exact ⟨fun hj => absurd ((hiff j q).1 hj).1.symm hjk, fun ⟨hj, _⟩ => absurd hj.symm hjk⟩

theorem State.claim_linkLossSlot (s : State) (k j : Fin 8) :
    ((s.linkLossSlot k).slot j).claim = if k = j then none else (s.slot j).claim := by
  have hend : ((s.endSlot k).slot j).claim = if k = j then none else (s.slot j).claim := by
    rw [State.claim_endSlot, State.slot_setSlot]
    split <;> rfl
  have hidle : (s.slot k).claim = none → (s.slot j).claim = if k = j then none else (s.slot j).claim := fun hk => by
    split
    · subst k; exact hk
    · rfl
  unfold State.linkLossSlot
  split <;> rename_i hs
  · exact hend
  · exact hend
  · simpa using hend
  · exact hidle (by rw [hs]; rfl)
  · exact hidle (by rw [hs]; rfl)

/-- After a Line link loss no slot is live (R91). -/
theorem State.claim_foldl_linkLossSlot (s : State) (k : Fin 8) :
    (((List.finRange 8).foldl State.linkLossSlot s).slot k).claim = none := by
  have hfold : ∀ (l : List (Fin 8)) (s : State), k ∈ l ∨ (s.slot k).claim = none →
      ((l.foldl State.linkLossSlot s).slot k).claim = none := by
    intro l
    induction l with
    | nil => exact fun s h => h.resolve_left (List.not_mem_nil)
    | cons a l ih =>
      refine fun s h => ih _ ?_
      rw [State.claim_linkLossSlot]
      by_cases ha : a = k
      · exact .inr (if_pos ha)
      · rw [if_neg ha]
        exact h.imp_left fun h => (List.mem_cons.1 h).resolve_left fun hk => ha hk.symm
  exact hfold _ s (.inl (List.mem_finRange k))

theorem State.window_linkLossWindow_of_ne {n m : Fin 32} (h : n ≠ m) : (s.linkLossWindow n).window? m = s.window? m := by
  unfold State.linkLossWindow
  repeat' split
  all_goals simp [State.postWindow, State.window_setWindow_of_ne h]

theorem State.window_linkLossWindow_isShut (s : State) (n : Fin 32) :
    Window.isShut ((s.linkLossWindow n).window? n) := by
  unfold State.linkLossWindow
  split <;> rename_i h
  · exact .inl h
  · exact .inr (.inl h)
  · exact .inr (.inr ⟨_, h⟩)
  · exact .inr (.inl (State.window_setWindow_same h))
  · exact .inr (.inl (State.window_setWindow_same h))
  · exact .inr (.inl (by simp [State.postWindow, State.window_setWindow_same h]))

/-- After a Line link loss no window is open (R41). -/
theorem State.window_foldl_linkLossWindow (s : State) (n : Fin 32) :
    Window.isShut (((List.finRange 32).foldl State.linkLossWindow s).window? n) := by
  have hfold : ∀ (l : List (Fin 32)) (s : State), n ∈ l ∨ Window.isShut (s.window? n) →
      Window.isShut ((l.foldl State.linkLossWindow s).window? n) := by
    intro l
    induction l with
    | nil => exact fun s h => h.resolve_left (List.not_mem_nil)
    | cons a l ih =>
      refine fun s h => ih _ ?_
      by_cases ha : a = n
      · exact .inr (ha ▸ s.window_linkLossWindow_isShut a)
      · rw [State.window_linkLossWindow_of_ne ha]
        exact h.imp_left fun h => (List.mem_cons.1 h).resolve_left fun hk => ha hk.symm
  exact hfold _ s (.inl (List.mem_finRange n))

theorem State.foldl_linkLossWindow_slots (s : State) (l : List (Fin 32)) :
    (l.foldl State.linkLossWindow s).slots = s.slots :=
  foldl_keeps (fun s => s.slots) State.linkLossWindow (by simp) l s

theorem State.OwnersGood.laneReports (h : s.OwnersGood) (w : LaneWork) : (s.laneReports w).OwnersGood := by
  unfold State.laneReports
  dsimp only
  split <;> rename_i hs
  · exact h.setSlot (by rw [hs]; rfl)
  · exact (h.setSlot (by rw [hs]; rfl)).completeVerifying _
  · exact h.setSlot (by rw [hs]; rfl)
  · exact h
  · exact h

/-- Every act keeps windows and slots in agreement. -/
theorem State.Act.ownersGood (h : s.Act t) (hs : s.OwnersGood) : t.OwnersGood := by
  cases h with
  | @ended k x b r v c hx =>
    obtain ⟨-, p, -, -, hk, -⟩ := hs.window_of_abortable hx
    exact hs.transferEnded hk (State.claim_abort hx b r v) (State.window_of_controllers (by simp)) c
  | went r hw hg => exact hs.setWindow_goes r hw hg
  | @moved n w w' hw hm =>
    have hsame : (s.setWindow n w').window? n = some w' := State.window_setWindow_same hw
    have hnames := fun m => s.names_setWindow n m w'
    have hown : w'.owner = w.owner := by cases hm <;> rfl
    refine hs.change n (fun m hm => State.window_setWindow_of_ne hm) (fun m _ => hnames m) ?_
    cases State.ownersGood_iff.1 hs n with
    | owned hw' ho hiff =>
      obtain rfl := Option.some.inj (hw'.symm.trans hw)
      exact .owned hsame (hown.trans ho) fun j q => (hnames n j q).trans (hiff j q)
    | left hw' _ =>
      obtain rfl := Option.some.inj (hw'.symm.trans hw)
      cases hm
    | apart hnone hno =>
      exact .apart (by rw [hsame]; rintro _ ⟨⟩; exact hown.trans (hnone w hw)) fun j q h => hno j q ((hnames n j q).1 h)
  | @released n c hw hnone =>
    have hsame : (s.setWindow n .locked).window? n = some .locked := State.window_setWindow_same hw
    have hnames := fun m => s.names_setWindow n m .locked
    refine hs.change n (fun m hm => State.window_setWindow_of_ne hm) (fun m _ => hnames m)
      (.apart (by rw [hsame]; rintro _ ⟨⟩; rfl) fun j q hj => ?_)
    have hj' := (hnames n j q).1 hj
    obtain ⟨⟨w, hw', ho | ⟨rfl, -⟩⟩, -⟩ := hs.window hj'
    · obtain rfl := Option.some.inj (hw'.symm.trans hw)
      cases ho
    · rw [State.releasedSlotNames, List.any_eq_false] at hnone
      have hslot := hnone (s.slot j) (by simp [State.slot])
      unfold State.Names at hj'
      cases hsj : s.slot j <;> simp_all [Slot.claim]
  | observed q _ =>
    exact hs.same (fun _ => State.window_updateController fun _ => rfl) fun j => by
      rw [State.slot_of_slots (State.setQuiet_slots ..)]
  | @settled n m l d p hw _ =>
    have hsame : ∃ d', (s.settle n m l).window? n = some (.opened m d') := by
      refine ⟨s.time + seconds l, ?_⟩
      simp only [State.settle, State.window_post]
      exact Eq.trans (State.window_updateController fun _ => rfl) (State.window_setWindow_same hw)
    have hne : ∀ m', n ≠ m' → (s.settle n m l).window? m' = s.window? m' := fun m' hm => by
      simp only [State.settle, State.window_post]
      exact Eq.trans (State.window_updateController fun _ => rfl) (State.window_setWindow_of_ne hm)
    have hnames : ∀ m' j q, (s.settle n m l).Names m' j q ↔ s.Names m' j q := fun m' j q => by
      rw [State.Names, State.slot_of_slots (State.settle_slots ..), State.Names]
    obtain ⟨d', hsame⟩ := hsame
    refine hs.change n hne (fun m' _ => hnames m') (.apart (by rw [hsame]; rintro _ ⟨⟩; rfl) fun j q hj => ?_)
    obtain ⟨⟨w, hw', ho | ⟨-, c, rfl⟩⟩, -⟩ := hs.window ((hnames n j q).1 hj)
    · obtain rfl := Option.some.inj (hw'.symm.trans hw)
      cases ho
    · cases hw'.symm.trans hw
  | @started n k m d f check hk hw =>
    obtain ⟨q, hslots⟩ : ∃ q, (s.startTransfer n k f check).slots
        = (s.setSlot k (.taking (transferOf n f check) Sums.zero 0 q)).slots :=
      ⟨⟨0, none, s.idleDeadline, some s.responseDeadline⟩, by simp [State.startTransfer]⟩
    have hwindow : ∀ m', (s.startTransfer n k f check).window? m' = (s.setWindow n (.transfer m d k)).window? m' := by
      intro m'
      have hset : ∀ x, (s.setSlot k x).window? n = some (.opened m d) := fun _ => hw
      rw [State.startTransfer, State.window_of_controllers (State.countAdmitted_controllers ..),
        State.window_of_controllers (State.forward_controllers ..), State.transferStarted, hset]
      dsimp only
      rw [State.window_setWindow, State.window_setWindow]
      rfl
    have hclaim : ∀ j, ((s.startTransfer n k f check).slot j).claim
        = ((s.setSlot k (.taking (transferOf n f check) Sums.zero 0 q)).slot j).claim := fun j => by
      rw [State.slot_of_slots hslots]
    have hno : ∀ j q, ¬ s.Names n j q := fun j q hj => by
      obtain ⟨⟨w, hw', ho | ⟨-, c, rfl⟩⟩, -⟩ := hs.window hj
      · obtain rfl := Option.some.inj (hw'.symm.trans hw)
        cases ho
      · cases hw'.symm.trans hw
    refine hs.change n (fun m' hm => (hwindow m').trans (State.window_setWindow_of_ne hm)) (fun m' hm =>
      State.names_setSlot hclaim (fun p hp => ?_) fun p hp => hm (Prod.mk.inj (Option.some.inj hp)).2) ?_
    · rw [State.Names, hk] at hp
      cases hp
    · refine .owned (p := .taking) (k := k) ((hwindow n).trans (State.window_setWindow_same hw)) rfl fun j q => ?_
      rw [State.Names, hclaim, State.slot_setSlot]
      split <;> rename_i hjk
      · subst j
        simp [Slot.claim, transferOf, eq_comm]
      · exact ⟨fun hj => absurd hj (hno j q), fun ⟨hj, _⟩ => absurd hj.symm hjk⟩
  | retaken q' hk => exact hs.setSlot (by rw [hk]; rfl)
  | @accepted k x x' z p q q' e hk hx _ _ =>
    have hset : (s.setSlot k (.taking x' z (p + 1) q')).OwnersGood := hs.setSlot (by rw [hk, Slot.claim, hx]; rfl)
    exact hset.same (State.window_of_controllers (by simp)) fun j => by
      rw [State.slot_of_slots (State.appendSegment_slots ..)]
  | held f hk _ => exact hs.hold f hk
  | completed f hk => exact (hs.hold f hk).completeVerifying _
  | @answered k x d notice hk =>
    have hn : s.Names x.controller k .released := by simp [State.Names, hk, Slot.claim]
    unfold State.endReleased
    rw [hk]
    dsimp only
    refine hs.transferEnded hn (fun j => ?_) (fun m => ?_) true
    · split <;> simp
    · split
      · rw [State.window_post]
        rfl
      · rfl
  | @finished l w hl =>
    have hfinish : s.finishLane l = ((s.setLane l none).laneReports w).giveNext l := by simp [State.finishLane, hl]
    have hidle : (s.setLane l none).OwnersGood := hs
    rw [hfinish]
    exact (hidle.laneReports w).same (State.window_of_controllers (by simp)) fun j => by
      rw [State.slot_of_slots (State.giveNext_slots ..)]
  | lost =>
    refine .of_apart (State.window_foldl_linkLossWindow _) fun k => ?_
    rw [State.slot_of_slots (State.foldl_linkLossWindow_slots ..)]
    exact s.claim_foldl_linkLossSlot k
  | cleared h => exact .of_apart h.windows fun k => by rw [h.slots]; rfl
  | reselected h => exact .of_apart h.windows fun k => by rw [State.slot_of_slots h.slots, h.free]; rfl

theorem State.ownersGood_of_downloads (h : t.downloads = s.downloads) (hs : s.OwnersGood) : t.OwnersGood :=
  hs.same (State.window_of_downloads h) fun j => by rw [State.slot_of_downloads h]

end act

end Sys2Proof.Machine

open Sys2Proof Sys2Proof.Machine

/-- Settles O7: the one act of a step changes the window of one controller and the slot that names it together, and what
comes before and after it reaches neither. -/
theorem stepsKeepOwnersGood : Obligations.StepsKeepOwnersGood := by
  intro s t hs h
  cases step_acts h with
  | still hd => exact State.ownersGood_of_downloads hd hs
  | act hb ha hd =>
    exact State.ownersGood_of_downloads hd (ha.ownersGood (State.ownersGood_of_downloads hb.downloads hs))
end

section
/-! PROOFS. A released commit (O10): the one act that releases a slot decides by the words of its transfer. -/

namespace Sys2Proof.Machine

/-! ## What ends slots releases none -/

/-- From `s` to `t` no slot is released that was not. -/
def State.ReleasesNone (s t : State) : Prop := ∀ k x d, t.slot k = .released x d → s.slot k = .released x d

namespace State.ReleasesNone
variable {s t u : State}

theorem refl (s : State) : s.ReleasesNone s := fun _ _ _ h => h

theorem trans (h : s.ReleasesNone t) (h' : t.ReleasesNone u) : s.ReleasesNone u := fun k x d hu => h k x d (h' k x d hu)

theorem same (h : s.ReleasesNone t) (hs : u.slots = t.slots) : s.ReleasesNone u := fun k x d hu =>
  h k x d (State.slot_of_slots hs k ▸ hu)

/-- A slot is set to a phase that is not RELEASED. -/
theorem setSlot (h : s.ReleasesNone t) {k : Fin 8} {x : Slot} (hx : ∀ y d, x ≠ .released y d) :
    s.ReleasesNone (t.setSlot k x) := fun j y d hj => by
  rw [State.slot_setSlot] at hj
  split at hj
  · exact absurd hj (hx y d)
  · exact h j y d hj

theorem endSlot (h : s.ReleasesNone t) (k : Fin 8) : s.ReleasesNone (t.endSlot k) := by
  have hend : s.ReleasesNone (t.setSlot k (if t.laneHolds k then .draining else .free)) :=
    h.setSlot fun _ _ => by split <;> nofun
  exact hend.same rfl

theorem abort (h : s.ReleasesNone t) (k : Fin 8) (b : Bool) (r : Option Reason) (v : Option Quad) :
    s.ReleasesNone (t.abort k b r v) := by
  unfold State.abort
  split
  · exact h
  · refine (h.endSlot k).same ?_
    dsimp only
    split <;> simp

theorem abortOwned (h : s.ReleasesNone t) (w : Window) (r : Reason) : s.ReleasesNone (t.abortOwned w r) := by
  unfold State.abortOwned
  split
  · exact h.abort _ _ _ _
  · exact h

theorem enterQuarantine (h : s.ReleasesNone t) (n : Fin 32) (c : QuarantineCause) :
    s.ReleasesNone (t.enterQuarantine n c) := by
  unfold State.enterQuarantine
  split
  · exact h
  · exact h
  · exact (h.abortOwned _ .quarantine).same ((State.post_slots ..).trans (State.setWindow_slots ..))

theorem reportMismatch (h : s.ReleasesNone t) (n : Fin 32) : s.ReleasesNone (t.reportMismatch n) := by
  unfold State.reportMismatch
  split
  · split
    · have hcount : ∀ f, s.ReleasesNone ((t.countMismatch n).updateController n f) := fun f => h.same (by simp)
      dsimp only
      split
      · exact (hcount _).enterQuarantine n _
      · exact (hcount _).same (State.transferEnded_slots ..)
    · exact h
  · exact h

end State.ReleasesNone

theorem State.ReleasesNone.of_claim {s t : State} (h : ∀ k, (t.slot k).claim = none) : s.ReleasesNone t := fun k x d hk => by
  have hnone := h k
  rw [hk] at hnone
  cases hnone

/-! ## The act that releases -/

section release
variable {s u : State} {x : Transfer} {n : Nat} {f : Quad}

/-- Under REQUIRED the decision releases only what matches an APPROVED record of the key (R97, R111, R112). -/
theorem State.approved_of_required_release (hx : x.check = .required) (hd : s.decideImage x n f = (u, .release)) :
    ∃ (i : Nat) (r : ImageRecord), s.active.images[i]? = some (some r) ∧ r.key = (x.controller, x.cls, x.idx)
      ∧ r.status = .approved ∧ n = r.length ∧ f = r.fingerprint := by
  unfold State.decideImage at hd
  rw [hx] at hd
  dsimp only at hd
  split at hd
  · rename_i r hr
    rw [State.approved_eq] at hr
    obtain ⟨hfound, i, hi⟩ := find_records_eq_some hr
    obtain ⟨hkey, hstatus⟩ := (ImageRecord.found_iff ..).1 hfound
    unfold State.compareImage at hd
    split at hd
    · obtain ⟨hlength, hprint⟩ := (pairMatches_iff ..).1 ‹_›
      exact ⟨i, r, hi, hkey, hstatus, hlength, hprint⟩
    · cases hd
  · cases hd

/-- A slot that is RELEASED after a completion was so before, or completes by the decision to release. -/
theorem State.released_of_completeVerifying {j k : Fin 8} {y : Transfer} {z : Sums} {p d : Nat} {g : Frame}
    (hs : s.slot k = .verifying y z p g) (hj : (s.completeVerifying k).slot j = .released x d) :
    s.slot j = .released x d
      ∨ j = k ∧ x = y ∧ (s.decideImage y z.i (fingerprint z z.i)).2 = .release := by
  cases p with
  | succ p => rw [State.completeVerifying_of_pending hs (Nat.succ_ne_zero p)] at hj; exact .inl hj
  | zero =>
    rcases hd : s.decideImage y z.i (fingerprint z z.i) with ⟨u, o⟩
    have hslots : u.slots = s.slots := by
      have hu : u = (s.decideImage y z.i (fingerprint z z.i)).1 := by rw [hd]
      rw [hu]
      exact State.decideImage_slots ..
    have hrefused : ∀ r, s.ReleasesNone (u.refuseHeld k y g r) := fun r =>
      ((State.ReleasesNone.refl s).same ((State.refuse_slots ..).trans hslots)).abort _ _ _ _
    cases o with
    | release =>
      rw [State.completeVerifying_release hs hd, State.slot_of_slots (State.releaseCommit_slots ..),
        State.slot_setSlot] at hj
      split at hj <;> rename_i hjk
      · exact .inr ⟨hjk.symm, (Slot.released.inj hj).1.symm, rfl⟩
      · rw [State.slot_of_slots (s := s) (by simp [hslots])] at hj
        exact .inl hj
    | mismatch =>
      rw [State.completeVerifying_mismatch hs hd] at hj
      exact .inl ((hrefused _).reportMismatch _ j x d hj)
    | imageFull =>
      rw [State.completeVerifying_imageFull hs hd] at hj
      exact .inl ((hrefused _).same (State.transferEnded_slots ..) j x d hj)

end release

/-- The words of a slot's transfer match an APPROVED record of its key in the active bank (R97, R110 to R112). -/
def State.WordsApproved (s : State) (k : Fin 8) (x : Transfer) : Prop :=
  ∃ (i : Nat) (r : ImageRecord) (sums : Sums), s.active.images[i]? = some (some r)
    ∧ r.key = (x.controller, x.cls, x.idx) ∧ r.status = .approved
    ∧ sums.i = r.length ∧ fingerprint sums sums.i = r.fingerprint
    ∧ ((∃ q, s.slot k = .taking x sums 0 q)
      ∨ ∃ (l : Fin 2) (w : LaneWork), s.lane l = some w ∧ w.entry.slot = k ∧ sums = w.sums.takeAll w.entry.words)

section act
variable {s t : State} {k : Fin 8} {x : Transfer} {d : Nat}

theorem State.WordsApproved.of_release {u : State} {z : Sums} (hx : x.check = .required) (hu : u.active = s.active)
    (hd : (u.decideImage x z.i (fingerprint z z.i)).2 = .release)
    (hz : (∃ q, s.slot k = .taking x z 0 q)
      ∨ ∃ (l : Fin 2) (w : LaneWork), s.lane l = some w ∧ w.entry.slot = k ∧ z = w.sums.takeAll w.entry.words) :
    s.WordsApproved k x := by
  obtain ⟨i, r, hi, hkey, hstatus, hlength, hprint⟩ := State.approved_of_required_release hx (Prod.ext rfl hd)
  exact ⟨i, r, z, hu ▸ hi, hkey, hstatus, hlength, hprint, hz⟩

/-- A lane's last segment releases its slot by the values the lane has finished (R79, R101). -/
theorem State.wordsApproved_of_laneReports {l : Fin 2} {w : LaneWork} (hl : s.lane l = some w)
    (ht : ((s.setLane l none).laneReports w).slot k = .released x d) (hs : s.slot k ≠ .released x d)
    (hx : x.check = .required) : s.WordsApproved k x := by
  have hset : ∀ y : Slot, (∀ y' d', y ≠ .released y' d') →
      ((s.setLane l none).setSlot w.entry.slot y).slot k ≠ .released x d := fun y hy hk =>
    hs ((State.ReleasesNone.refl s).setSlot hy k x d hk)
  unfold State.laneReports at ht
  dsimp only at ht
  split at ht
  · exact absurd ht (hset _ nofun)
  · rename_i y z p f hk
    have hself : ((s.setLane l none).setSlot w.entry.slot
        (.verifying y (w.sums.takeAll w.entry.words) (p - 1) f)).slot w.entry.slot
          = .verifying y (w.sums.takeAll w.entry.words) (p - 1) f := by rw [State.slot_setSlot, if_pos rfl]
    obtain h | ⟨rfl, rfl, h⟩ := State.released_of_completeVerifying hself ht
    · exact absurd h (hset _ nofun)
    · exact .of_release hx (by simp) h (.inr ⟨l, w, hl, rfl, rfl⟩)
  · exact absurd ht (hset _ nofun)
  · exact absurd ht hs
  · exact absurd ht hs

/-- An act releases a commit under REQUIRED only when its words match an APPROVED record. -/
theorem State.Act.wordsApproved (h : s.Act t) (ht : t.slot k = .released x d) (hs : s.slot k ≠ .released x d)
    (hx : x.check = .required) : s.WordsApproved k x := by
  have hrefl := State.ReleasesNone.refl s
  have hnone : s.ReleasesNone t → s.WordsApproved k x := fun hn => absurd (hn k x d ht) hs
  cases h with
  | ended b r v c _ => exact hnone ((hrefl.abort _ b r v).same (State.transferEnded_slots ..))
  | went r _ _ => exact hnone ((hrefl.abortOwned _ r).same (State.setWindow_slots ..))
  | moved _ _ => exact hnone (hrefl.same (State.setWindow_slots ..))
  | released _ _ => exact hnone (hrefl.same (State.setWindow_slots ..))
  | observed q _ => exact hnone (hrefl.same (State.setQuiet_slots ..))
  | settled _ _ => exact hnone (hrefl.same (State.settle_slots ..))
  | @started n j m d' f check _ _ =>
    have hset : s.ReleasesNone (s.setSlot j (.taking (transferOf n f check) Sums.zero 0
        ⟨0, none, s.idleDeadline, some s.responseDeadline⟩)) := hrefl.setSlot nofun
    exact hnone (hset.same (by simp [State.startTransfer]))
  | retaken q' _ =>
    refine hnone (hrefl.setSlot ?_)
    nofun
  | accepted _ _ _ _ =>
    refine hnone ((hrefl.setSlot ?_).same (State.appendSegment_slots ..))
    nofun
  | held f _ _ =>
    refine hnone ((hrefl.setSlot ?_).same (State.commitHeld_slots ..))
    nofun
  | @completed j y z q f hk =>
    have hheld : s.ReleasesNone ((s.setSlot j (.verifying y z 0 f)).commitHeld y.controller) :=
      (hrefl.setSlot (k := j) (x := .verifying y z 0 f) nofun).same (State.commitHeld_slots ..)
    have hself : ((s.setSlot j (.verifying y z 0 f)).commitHeld y.controller).slot j = .verifying y z 0 f := by
      rw [State.slot_of_slots (State.commitHeld_slots ..), State.slot_setSlot, if_pos rfl]
    obtain h | ⟨rfl, rfl, h⟩ := State.released_of_completeVerifying hself ht
    · exact absurd (hheld k x d h) hs
    · exact .of_release hx (by simp) h (.inl ⟨q, hk⟩)
  | @answered j y d' notice hk =>
    refine hnone ((hrefl.setSlot (k := j) (x := .free) nofun).same ?_)
    unfold State.endReleased
    rw [hk]
    dsimp only
    split <;> simp
  | @finished l w hl =>
    have hfinish : s.finishLane l = ((s.setLane l none).laneReports w).giveNext l := by simp [State.finishLane, hl]
    rw [hfinish, State.slot_of_slots (State.giveNext_slots ..)] at ht
    exact State.wordsApproved_of_laneReports hl ht hs hx
  | lost =>
    refine hnone (.of_claim fun j => ?_)
    rw [State.slot_of_slots (State.foldl_linkLossWindow_slots ..)]
    exact s.claim_foldl_linkLossSlot j
  | cleared h => exact hnone (.of_claim fun j => by rw [h.slots]; rfl)
  | reselected h => exact hnone (.of_claim fun j => by rw [State.slot_of_slots h.slots, h.free]; rfl)

end act

end Sys2Proof.Machine

open Sys2Proof Sys2Proof.Machine

/-- Settles O10: the act that releases a slot is the completion of a slot taking segments, or of one a lane finishes for,
and either decides by the values of the words. -/
theorem requiredCommitIsReleasedOnlyOnMatch : Obligations.RequiredCommitIsReleasedOnlyOnMatch := by
  intro s t k x d h ht hs hx
  cases step_acts h with
  | still hd => exact absurd ((State.slot_of_downloads hd k).symm.trans ht) (hs x d)
  | act hb ha hd =>
    obtain ⟨i, r, z, hi, hkey, hstatus, hlength, hprint, hz⟩ := ha.wordsApproved
      ((State.slot_of_downloads hd k).symm.trans ht)
      (fun hu => hs x d ((State.slot_of_downloads hb.downloads k).symm.trans hu)) hx
    refine ⟨i, r, z, hb.active ▸ hi, hkey, hstatus, hlength, hprint, hz.imp ?_ ?_⟩
    · exact fun ⟨q, hq⟩ => ⟨q, (State.slot_of_downloads hb.downloads k).symm.trans hq⟩
    · exact fun ⟨l, w, hl, hw⟩ => ⟨l, w, (State.lane_of_downloads hb.downloads l).symm.trans hl, hw⟩
end

section
/-! PROOFS. A window that opens (O11): the one act that takes a window from OPENING to OPEN is the settle evaluation. -/

namespace Sys2Proof.Machine

/-! ## What a transfer does to a window in OPENING -/

/-- From `s` to `t` every window in OPENING stays as it is. -/
def State.KeepsOpening (s t : State) : Prop :=
  ∀ n m l d, s.window? n = some (.opening m l d) → t.window? n = some (.opening m l d)

namespace State.KeepsOpening
variable {s t u : State}

theorem refl (s : State) : s.KeepsOpening s := fun _ _ _ _ h => h

theorem trans (h : s.KeepsOpening t) (h' : t.KeepsOpening u) : s.KeepsOpening u := fun n m l d hn =>
  h' n m l d (h n m l d hn)

theorem same (h : s.KeepsOpening t) (hc : u.controllers = t.controllers) : s.KeepsOpening u := fun n m l d hn =>
  (State.window_of_controllers hc n).trans (h n m l d hn)

/-- A window that owns a slot is changed. -/
theorem setWindow (h : s.KeepsOpening t) {n : Fin 32} {w w' : Window} (hw : t.window? n = some w)
    (ho : w.isOpening = false) : s.KeepsOpening (t.setWindow n w') := fun n' m l d hn => by
  have ht := h n' m l d hn
  refine (State.window_setWindow_of_ne ?_).trans ht
  rintro rfl
  rw [hw] at ht
  cases ht
  cases ho

theorem transferEnded (h : s.KeepsOpening t) (n : Fin 32) (b : Bool) : s.KeepsOpening (t.transferEnded n b) := by
  refine h.trans fun n' m l d hn => ?_
  by_cases hne : n = n'
  · subst n'
    rw [State.transferEnded_of_owner_none b (by rw [hn]; rintro _ ⟨⟩; rfl), hn]
  · rw [State.window_transferEnded_of_ne b hne, hn]

theorem commitHeld (h : s.KeepsOpening t) (n : Fin 32) : s.KeepsOpening (t.commitHeld n) := by
  unfold State.commitHeld
  split
  · exact h.setWindow ‹_› rfl
  · exact h

theorem commitReleased (h : s.KeepsOpening t) (n : Fin 32) : s.KeepsOpening (t.commitReleased n) := by
  unfold State.commitReleased
  split
  · exact h.setWindow ‹_› rfl
  · exact h

theorem reportMismatch (h : s.KeepsOpening t) (n : Fin 32) : s.KeepsOpening (t.reportMismatch n) := by
  unfold State.reportMismatch
  split
  · rename_i c hc
    split
    · rename_i m d k p hp
      have hw : t.window? n = some (.verify m d k p) := by rw [State.window_of_controller hc, hp]
      have hcount : ∀ n', ((t.countMismatch n).updateController n
          (fun c' => { c' with mismatches := saturateMismatch c.mismatches })).window? n' = t.window? n' := fun n' =>
        Eq.trans (State.window_updateController fun _ => rfl) (State.window_of_controllers (by simp) n')
      have hkept : s.KeepsOpening ((t.countMismatch n).updateController n
          (fun c' => { c' with mismatches := saturateMismatch c.mismatches })) := fun n' m' l d' hn =>
        (hcount n').trans (h n' m' l d' hn)
      dsimp only
      split
      · unfold State.enterQuarantine
        rw [(hcount n).trans hw]
        dsimp only
        refine (State.KeepsOpening.setWindow (w := .verify m d k p) (hkept.same (State.abortOwned_controllers ..))
          ?_ rfl).same (State.post_controllers ..)
        exact (State.window_of_controllers (State.abortOwned_controllers ..) n).trans ((hcount n).trans hw)
      · exact hkept.transferEnded n false
    · exact h
  · exact h

theorem completeVerifying (h : s.KeepsOpening t) (k : Fin 8) : s.KeepsOpening (t.completeVerifying k) := by
  rcases hs : t.slot k with _ | _ | ⟨x, z, p, f⟩ | _ | _
  case verifying =>
    cases p with
    | succ p => rw [State.completeVerifying_of_pending hs (Nat.succ_ne_zero p)]; exact h
    | zero =>
      rcases hd : t.decideImage x z.i (fingerprint z z.i) with ⟨u, o⟩
      have hu : s.KeepsOpening u := by
        have hsame : u = (t.decideImage x z.i (fingerprint z z.i)).1 := by rw [hd]
        rw [hsame]
        exact h.same (State.decideImage_controllers ..)
      have hrefused : ∀ r, s.KeepsOpening (u.refuseHeld k x f r) := fun r => hu.same (by simp [State.refuseHeld])
      cases o with
      | release =>
        rw [State.completeVerifying_release hs hd, State.releaseCommit]
        have hset : s.KeepsOpening ((u.forward .line f).setSlot k (.released x u.responseDeadline)) :=
          hu.same (by simp)
        exact (hset.commitReleased x.controller).same (by simp)
      | mismatch =>
        rw [State.completeVerifying_mismatch hs hd]
        exact (hrefused _).reportMismatch _
      | imageFull =>
        rw [State.completeVerifying_imageFull hs hd]
        exact (hrefused _).transferEnded _ _
  all_goals simpa [State.completeVerifying, hs] using h

theorem laneReports (h : s.KeepsOpening t) (w : LaneWork) : s.KeepsOpening (t.laneReports w) := by
  unfold State.laneReports
  dsimp only
  split
  · exact h
  · exact completeVerifying (t := t.setSlot _ _) h _
  · exact h
  · exact h
  · exact h

/-- A window in OPENING that stays so is not OPEN. -/
theorem not_opened (h : s.KeepsOpening t) {n : Fin 32} {m m' : WindowMode} {l d d' : Nat}
    (hs : s.window? n = some (.opening m l d)) : t.window? n ≠ some (.opened m' d') := by
  rw [h n m l d hs]
  nofun

end State.KeepsOpening

/-! ## The act that opens -/

section act
variable {s t : State} {n : Fin 32} {m m' : WindowMode} {l d d' : Nat}

/-- A window that is OPEN after a window was set is the one that was set, or was OPEN before. -/
theorem State.opened_of_setWindow {n' : Fin 32} {w : Window} (hw : ∀ m d, w ≠ .opened m d)
    (ht : (s.setWindow n' w).window? n = some (.opened m' d')) : s.window? n = some (.opened m' d') := by
  rw [State.window_setWindow] at ht
  split at ht
  · obtain ⟨_, -, h⟩ := Option.map_eq_some_iff.1 ht
    exact absurd h (hw m' d')
  · exact ht

/-- The window has settled after a quiet run of at least T_settle (R28). -/
def State.OpensAfterQuiet (s : State) (n : Fin 32) (m m' : WindowMode) (l d' : Nat) : Prop :=
  m' = m ∧ d' = s.time + l * 1000000
    ∧ ∃ q, s.quietRun n = some q ∧ s.timing.settle * 1000 ≤ s.time - q.since

/-- T_settle is not 0, so that a quiet run that begins now is not long enough. -/
theorem State.quietRun_of_enough {p : Nat} (hg : s.timing.Good)
    (hq : s.quietEnough ((s.quietRun n).getD { since := s.time, settle := p }) = true) :
    ∃ q, s.quietRun n = some q ∧ s.timing.settle * 1000 ≤ s.time - q.since := by
  obtain ⟨⟨hsettle, -⟩, -⟩ := hg
  cases hr : s.quietRun n with
  | none =>
    simp only [hr, Option.getD_none, State.quietEnough, milliseconds, Nat.sub_self, decide_eq_true_eq] at hq
    omega
  | some q =>
    refine ⟨q, rfl, ?_⟩
    simpa [hr, State.quietEnough, milliseconds] using hq

theorem State.window_settle (hw : s.window? n = some (.opening m l d)) :
    (s.settle n m l).window? n = some (.opened m (s.time + seconds l)) := by
  simp only [State.settle, State.window_post]
  exact Eq.trans (State.window_updateController fun _ => rfl) (State.window_setWindow_same hw)

theorem State.window_settle_of_ne {n' : Fin 32} (h : n' ≠ n) : (s.settle n' m l).window? n = s.window? n := by
  simp only [State.settle, State.window_post]
  exact Eq.trans (State.window_updateController fun _ => rfl) (State.window_setWindow_of_ne h)

/-- An act takes a window from OPENING to OPEN only by a settle evaluation that finds its quiet run long enough. -/
theorem State.Act.opensAfterQuiet (h : s.Act t) (hg : s.timing.Good) (hs : s.window? n = some (.opening m l d))
    (ht : t.window? n = some (.opened m' d')) : s.OpensAfterQuiet n m m' l d' := by
  have hkept : s.KeepsOpening t → s.OpensAfterQuiet n m m' l d' := fun hk => absurd ht (hk.not_opened hs)
  have hopen : s.window? n ≠ some (.opened m' d') := (State.KeepsOpening.refl s).not_opened hs
  have hrefl := State.KeepsOpening.refl s
  have hset : ∀ {u : State} {n' : Fin 32} {w : Window}, u.controllers = s.controllers → (∀ m d, w ≠ .opened m d) →
      (u.setWindow n' w).window? n ≠ some (.opened m' d') := fun hu hw h =>
    hopen ((State.window_of_controllers hu n).symm.trans (State.opened_of_setWindow hw h))
  have hshut : ¬ Window.isShut (some (.opened m' d')) := by simp [Window.isShut]
  cases h with
  | ended b r v c _ => exact hkept ((hrefl.same (State.abort_controllers ..)).transferEnded _ c)
  | went r _ hgoes => exact absurd ht (hset (State.abortOwned_controllers ..) fun _ _ => by cases hgoes <;> nofun)
  | moved _ hmoves => exact absurd ht (hset rfl fun _ _ => by cases hmoves <;> nofun)
  | released _ _ => exact absurd ht (hset rfl nofun)
  | observed q _ =>
    have hsame : ∀ n', (s.setQuiet n' q).window? n = s.window? n := fun n' =>
      State.window_updateController fun _ => rfl
    exact absurd ((hsame _).symm.trans ht) hopen
  | @settled n' m₀ l₀ d₀ p hw henough =>
    by_cases hn : n' = n
    · subst n'
      cases hs.symm.trans hw
      cases (State.window_settle hw).symm.trans ht
      exact ⟨rfl, rfl, State.quietRun_of_enough hg henough⟩
    · exact absurd ((State.window_settle_of_ne hn).symm.trans ht) hopen
  | @started n' k m₀ d₀ f check hk hw =>
    refine hkept ?_
    have hslot : ∀ x, s.KeepsOpening ((s.setSlot k x).setWindow n' (.transfer m₀ d₀ k)) := fun x =>
      State.KeepsOpening.setWindow (t := s.setSlot k x) hrefl hw rfl
    have hset : ∀ x, (s.setSlot k x).window? n' = some (.opened m₀ d₀) := fun _ => hw
    rw [State.startTransfer, State.transferStarted, hset]
    exact (hslot (.taking (transferOf n' f check) Sums.zero 0
      ⟨0, none, s.idleDeadline, some s.responseDeadline⟩)).same (by simp)
  | retaken _ _ => exact hkept hrefl
  | accepted _ _ _ _ => exact hkept (hrefl.same (by simp))
  | held f _ _ => exact hkept (State.KeepsOpening.commitHeld (t := s.setSlot _ _) hrefl _)
  | completed f _ => exact hkept ((State.KeepsOpening.commitHeld (t := s.setSlot _ _) hrefl _).completeVerifying _)
  | @answered k x d notice hk =>
    refine hkept ?_
    unfold State.endReleased
    rw [hk]
    dsimp only
    refine State.KeepsOpening.transferEnded (hrefl.same ?_) _ true
    split <;> simp
  | @finished j w hl =>
    have hfinish : s.finishLane j = ((s.setLane j none).laneReports w).giveNext j := by simp [State.finishLane, hl]
    rw [hfinish] at ht
    exact absurd ht (((State.KeepsOpening.laneReports (t := s.setLane j none) hrefl w).same (by simp)).not_opened hs)
  | lost => exact absurd (ht ▸ State.window_foldl_linkLossWindow _ n) hshut
  | cleared h => exact absurd (ht ▸ h.windows n) hshut
  | reselected h => exact absurd (ht ▸ h.windows n) hshut

end act

end Sys2Proof.Machine

open Sys2Proof Sys2Proof.Machine

/-- Settles O11: the one act of a step opens a window only by its settle evaluation. -/
theorem windowOpensOnlyAfterQuietRun : Obligations.WindowOpensOnlyAfterQuietRun := by
  intro s t n m m' l d d' hg h hs ht
  cases step_acts h with
  | still hd => cases hs.symm.trans ((State.window_of_downloads hd n).symm.trans ht)
  | @act u v hb ha hd =>
    obtain ⟨hm, hd', q, hq, henough⟩ := ha.opensAfterQuiet (hb.timing ▸ hg)
      ((State.window_of_downloads hb.downloads n).trans hs) ((State.window_of_downloads hd n).symm.trans ht)
    rw [hb.time] at hd' henough
    rw [hb.timing] at henough
    exact ⟨hm, hd', q, (State.quietRun_of_downloads hb.downloads n).symm.trans hq, henough⟩
end

section
/-! PROOFS. Counts and the Opening History (O8): what each effect of a command keeps in range. -/

namespace Sys2Proof.Machine

/-! ## Counts -/

theorem saturate32_fits {n : Nat} (h : fits32 n) : fits32 (saturate32 n) := by
  unfold saturate32
  split <;> omega

theorem saturate32By_fits {n : Nat} (h : fits32 n) (k : Nat) : fits32 (saturate32By k n) := by
  unfold saturate32By
  split <;> omega

theorem saturateMismatch_le {n : Nat} (h : n ≤ Config.mismatchLimit) : saturateMismatch n ≤ Config.mismatchLimit := by
  unfold saturateMismatch
  split <;> omega

theorem saturatePostponed_le {n : Nat} (h : n ≤ Config.maxPostponed) : saturatePostponed n ≤ Config.maxPostponed := by
  unfold saturatePostponed
  split <;> omega

theorem nextGeneration_fits (g : Nat) : fits32 (nextGeneration g) := Nat.mod_lt _ (by decide)

theorem nextNumber_lt (n : Nat) : nextNumber n < 65536 := Nat.mod_lt _ (by decide)

theorem Timing.delivery_good : Timing.delivery.Good := by decide

/-- A parameter set to a value brought into its range is in its range (R168). -/
theorem Timing.set_good {t : Timing} (h : t.Good) (p : Parameter) (v : Nat) : (t.set p (p.clamp v)).Good := by
  cases p <;> simp only [Timing.Good, Timing.set, Parameter.clamp, Parameter.lowest, Parameter.highest] at h ⊢ <;> omega

/-! ## A state with every count in range -/

/-- Every count is in its range, and the Opening History in order. -/
structure State.Ranged (s : State) : Prop where
  fields : s.FieldsGood
  history : s.HistoryGood

/-- All that being in range speaks of. -/
def State.ranges (s : State) : Vector ControllerCounters 32 × DeviceCounters × Timing × Nat × Nat
    × Vector (Option Controller) 32 × Option StoredImage × Option StoredImage × List Nat × Nat :=
  (s.counters, s.device, s.timing, s.generation, s.tagCounter, s.controllers, s.stored, s.writing, s.history, s.time)

/-- A window state that is not OPENING records no length. -/
theorem Window.lengthGood_of_not_opening {w : Window} (h : w.isOpening = false) : w.LengthGood := by
  cases w with
  | opening => cases h
  | _ => rintro _ ⟨⟩

namespace State.Ranged
variable {s t u : State}

theorem same (h : t.Ranged) (hu : u.ranges = t.ranges) : u.Ranged := by
  simp only [State.ranges, Prod.mk.injEq] at hu
  obtain ⟨hcounters, hdevice, htiming, hgeneration, htag, hcontrollers, hstored, hwriting, hhistory, htime⟩ := hu
  refine ⟨?_, ?_⟩
  · simp only [State.FieldsGood, State.count, State.controller, hcounters, hdevice, htiming, hgeneration, htag,
      hcontrollers, hstored, hwriting]
    exact h.fields
  · simp only [State.HistoryGood, hhistory, htime]
    exact h.history

theorem ite {c : Prop} [Decidable c] (ht : c → t.Ranged) (h : s.Ranged) : (if c then t else s).Ranged := by
  split
  · exact ht ‹_›
  · exact h

theorem foldl {α : Type} {f : State → α → State} (hf : ∀ (t : State) a, t.Ranged → (f t a).Ranged) (l : List α)
    (h : t.Ranged) : (l.foldl f t).Ranged := by
  induction l generalizing t with
  | nil => exact h
  | cons a l ih => exact ih (hf t a h)

/-! ### The primitive changes -/

theorem timingGood (h : t.Ranged) : t.timing.Good := by
  obtain ⟨⟨-, -, htiming, -⟩, -⟩ := h
  exact htiming

theorem controllerGood (h : t.Ranged) {n : Fin 32} {c : Controller} (hc : t.controller n = some c) : c.Good := by
  obtain ⟨⟨-, -, -, -, -, hcontrollers, -⟩, -⟩ := h
  exact hcontrollers n c hc

theorem setDevice (h : t.Ranged) {d : DeviceCounters} (hd : t.device.Good → d.Good) :
    State.Ranged { t with device := d } := by
  obtain ⟨⟨hcounters, hdevice, hrest⟩, hhistory⟩ := h
  exact ⟨⟨hcounters, hd hdevice, hrest⟩, hhistory⟩

theorem setCount (h : t.Ranged) (n : Fin 32) {c : ControllerCounters} (hc : (t.count n).Good → c.Good) :
    (t.setCount n c).Ranged := by
  obtain ⟨⟨hcounters, hrest⟩, hhistory⟩ := h
  refine ⟨⟨fun m => ?_, hrest⟩, hhistory⟩
  by_cases hm : m = n
  · subst m
    have hset : (t.setCount n c).count n = c := by simp [State.count, State.setCount]
    rw [hset]
    exact hc (hcounters n)
  · rw [State.count_setCount_of_ne _ _ hm]
    exact hcounters m

/-- Every defined controller is good. -/
theorem setControllers (h : t.Ranged) {v : Vector (Option Controller) 32} (hv : ∀ n : Fin 32, ∀ c ∈ v[n], c.Good) :
    State.Ranged { t with controllers := v } := by
  obtain ⟨⟨hcounters, hdevice, htiming, hgeneration, htag, -, hstore⟩, hhistory⟩ := h
  exact ⟨⟨hcounters, hdevice, htiming, hgeneration, htag, hv, hstore⟩, hhistory⟩

theorem updateController (h : t.Ranged) (n : Fin 32) {f : Controller → Controller}
    (hf : ∀ c, t.controller n = some c → c.Good → (f c).Good) : (t.updateController n f).Ranged := by
  have hshape : t.updateController n f = { t with controllers := (t.updateController n f).controllers } := by
    unfold State.updateController
    split <;> rfl
  rw [hshape]
  refine h.setControllers fun m c hc => ?_
  have hm := (t.controller_updateController n m f).symm.trans hc
  split at hm
  · subst m
    obtain ⟨c', hc', rfl⟩ := Option.map_eq_some_iff.1 hm
    exact hf c' hc' (h.controllerGood hc')
  · exact h.controllerGood hm

theorem setHistory (h : t.Ranged) {v : List Nat} (hv : v.length ≤ Config.historyPlaces ∧ v.Pairwise (· ≤ ·)
    ∧ ∀ e ∈ v, e ≤ t.time) : State.Ranged { t with history := v } := ⟨h.fields, hv⟩

/-- The last image written, and the one in flight. -/
theorem setStore (h : t.Ranged) {a b : Option StoredImage} (ha : ∀ i ∈ a, i.timing.Good ∧ fits32 i.generation)
    (hb : ∀ i ∈ b, i.timing.Good ∧ fits32 i.generation) : State.Ranged { t with stored := a, writing := b } := by
  obtain ⟨⟨hcounters, hdevice, htiming, hgeneration, htag, hcontrollers, -⟩, hhistory⟩ := h
  exact ⟨⟨hcounters, hdevice, htiming, hgeneration, htag, hcontrollers, ha, hb⟩, hhistory⟩

/-! ### Counters -/

theorem countAdmitted (h : t.Ranged) (n : Fin 32) : (t.countAdmitted n).Ranged :=
  h.setCount n fun ⟨ha, hr⟩ => ⟨saturate32_fits ha, hr⟩

theorem countRefusal (h : t.Ranged) (n : Fin 32) : (t.countRefusal n).Ranged :=
  h.setCount n fun ⟨ha, hr, hs⟩ => ⟨ha, saturate32_fits hr, hs⟩

theorem countReleased (h : t.Ranged) (n : Fin 32) : (t.countReleased n).Ranged :=
  h.setCount n fun ⟨ha, hr, hc, hm⟩ => ⟨ha, hr, saturate32_fits hc, hm⟩

theorem countMismatch (h : t.Ranged) (n : Fin 32) : (t.countMismatch n).Ranged :=
  h.setCount n fun ⟨ha, hr, hc, hm⟩ => ⟨ha, hr, hc, saturate32_fits hm⟩

theorem countDiscarded (h : t.Ranged) : t.countDiscarded.Ranged :=
  h.setDevice fun ⟨hr, hd⟩ => ⟨saturate32_fits hr, hd⟩

theorem countMalformed (h : t.Ranged) : t.countMalformed.Ranged :=
  h.setDevice fun ⟨hr, hm, hd⟩ => ⟨hr, saturate32_fits hm, hd⟩

theorem countSegmentDrop (h : t.Ranged) : t.countSegmentDrop.Ranged :=
  h.setDevice fun ⟨hr, hm, hs, hd⟩ => ⟨hr, hm, saturate32_fits hs, hd⟩

theorem countNotSent (h : t.Ranged) (k : Nat) : (t.countNotSent k).Ranged :=
  h.setDevice fun ⟨hr, hm, hs, hn, hd⟩ => ⟨hr, hm, hs, saturate32By_fits hn k, hd⟩

theorem countLinkDiscarded (h : t.Ranged) (k : Nat) : (t.countLinkDiscarded k).Ranged :=
  h.setDevice fun ⟨hr, hm, hs, hn, hl, ho⟩ => ⟨hr, hm, hs, hn, saturate32By_fits hl k, ho⟩

theorem countOverflow (h : t.Ranged) : t.countOverflow.Ranged :=
  h.setDevice fun ⟨hr, hm, hs, hn, hl, ho⟩ => ⟨hr, hm, hs, hn, hl, saturate32_fits ho⟩

/-! ### Ports and notices -/

theorem setPort (h : t.Ranged) (p : Port) (x : PortState) : (t.setPort p x).Ranged :=
  h.same (by cases p <;> rfl)

theorem offerPlaces (h : t.Ranged) (p : Port) : (t.offerPlaces p).Ranged :=
  h.same (by cases p <;> simp [State.ranges, State.offerPlaces])

theorem post (h : t.Ranged) (n : Notice) : (t.post n).Ranged := h.same (by simp [State.ranges])

theorem forward (h : t.Ranged) (p : Port) (f : Frame) : (t.forward p f).Ranged := by
  unfold State.forward
  dsimp only
  split
  · exact h.countLinkDiscarded 1
  · split
    · exact h.setPort p _
    · exact h.countOverflow

theorem originate (h : t.Ranged) (p : Port) (o : OrigFrame) : (t.originate p o).Ranged := by
  unfold State.originate
  dsimp only
  split
  · exact h.setPort p _
  · exact h.countNotSent 1

theorem refuse (h : t.Ranged) (n : Option (Fin 32)) (o : Operation) (f : Frame) (r : Reason) :
    (t.refuse n o f r).Ranged := by
  cases n with
  | none => exact (h.originate .plant _).post _
  | some n => exact ((h.originate .plant _).countRefusal n).post _

theorem offer (h : t.Ranged) (n : Fin 32) (o : Operation) (f : Frame) (e : Ending) : (t.offer n o f e).Ranged := by
  refine foldl (fun t w ht => ?_) _ h
  unfold State.offerTo
  dsimp only
  split
  · exact ht
  · refine .ite (fun _ => .post (ht.same ?_) _) ht
    split <;> rfl

/-! ### Windows -/

/-- A window that goes to a state other than OPENING ends its quiet run (R25). -/
theorem setWindow (h : t.Ranged) (n : Fin 32) {w : Window} (hw : w.isOpening = false) : (t.setWindow n w).Ranged :=
  h.updateController n fun c _ ⟨hm, hp, _, _⟩ =>
    ⟨hm, hp, w.lengthGood_of_not_opening hw, by simp [hw]⟩

theorem setWindow_post (h : t.Ranged) (n : Fin 32) {w : Window} (hw : w.isOpening = false) (x : Notice) :
    ((t.setWindow n w).post x).Ranged := (h.setWindow n hw).post x

/-- A quiet run begins in OPENING, and ends anywhere (R25). -/
theorem setQuiet (h : t.Ranged) (n : Fin 32) {q : Option QuietRun}
    (hq : q.isSome = true → ∀ w ∈ t.window? n, w.isOpening = true) : (t.setQuiet n q).Ranged :=
  h.updateController n fun c hc ⟨hm, hp, hl, _⟩ =>
    ⟨hm, hp, hl, fun hsome => hq hsome c.window (State.window_of_controller hc)⟩

theorem updateSchedule (h : t.Ranged) (n : Fin 32) {f : Schedule → Schedule}
    (hf : ∀ c, t.controller n = some c → c.schedule.postponed ≤ Config.maxPostponed →
      (f c.schedule).postponed ≤ Config.maxPostponed) : (t.updateSchedule n f).Ranged :=
  h.updateController n fun c hc ⟨hm, hp, hl, hq⟩ => ⟨hm, hf c hc hp, hl, hq⟩

theorem abort (h : t.Ranged) (k : Fin 8) (b : Bool) (r : Option Reason) (v : Option Quad) : (t.abort k b r v).Ranged := by
  unfold State.abort
  split
  · exact h
  · have hend : (t.endSlot k).Ranged := h.same rfl
    refine .post ?_ _
    split
    · exact hend.originate .line _
    · exact hend

theorem abortOwned (h : t.Ranged) (w : Window) (r : Reason) : (t.abortOwned w r).Ranged := by
  unfold State.abortOwned
  split
  · exact h.abort _ _ _ _
  · exact h

theorem closeNow (h : t.Ranged) (n : Fin 32) (w : Window) (c : WindowCause) : (t.closeNow n w c).Ranged :=
  (h.abortOwned w .locked).setWindow_post n rfl _

theorem settle (h : t.Ranged) (n : Fin 32) (m : WindowMode) (l : Nat) : (t.settle n m l).Ranged :=
  ((h.setWindow n rfl).updateController n (f := fun c => { c with mismatches := 0 })
    fun _ _ ⟨_, hp, hl, hq⟩ => ⟨Nat.zero_le _, hp, hl, hq⟩).post _

theorem runAfterCommit (h : t.Ranged) (n : Fin 32) (m : WindowMode) (d : Option Nat) (k : Fin 8)
    (c : Option CloseCause) : (t.runAfterCommit n m d k c).Ranged := by
  unfold State.runAfterCommit
  split
  · exact h
  · exact h.setWindow_post n rfl _

theorem observe (h : t.Ranged) (n : Fin 32) (o : Observation) : (t.observe n o).Ranged := by
  unfold State.observe
  split
  · exact h
  · rename_i w hw
    split
    · unfold State.observeQuiet
      dsimp only
      split
      · exact h.settle n _ _
      · exact h.setQuiet n fun _ w' hw' => by rw [hw] at hw'; cases hw'; rfl
    · exact h
    · exact h.setQuiet n nofun
    · exact h.closeNow n _ _
    · exact h.closeNow n _ _
    · exact h.closeNow n _ _
    · exact h.runAfterCommit n _ _ _ _
    · exact h
    · exact h

theorem monitorObserves (h : t.Ranged) (n : Fin 32) (o : Observation) (b : Bool) : (t.monitorObserves n o b).Ranged := by
  refine observe (h.updateController n ?_) n o
  exact fun _ _ hc => hc

theorem settleExpiry (h : t.Ranged) (n : Fin 32) : (t.settleExpiry n).Ranged := by
  unfold State.settleExpiry
  split
  · rename_i hw _
    split
    · exact h.settle n _ _
    · exact h.setQuiet n fun _ w' hw' => by rw [hw] at hw'; cases hw'; rfl
  · exact h

theorem endTransfer (h : t.Ranged) (n : Fin 32) (m : WindowMode) (d : Option Nat) (c : Option CloseCause) (b : Bool) :
    (t.endTransfer n m d c b).Ranged := by
  unfold State.endTransfer
  split
  · exact h.setWindow n rfl
  · exact h.setWindow_post n rfl _
  · split
    · exact h.setWindow_post n rfl _
    · exact h.setWindow n rfl
  · exact h.setWindow_post n rfl _

theorem transferEnded (h : t.Ranged) (n : Fin 32) (b : Bool) : (t.transferEnded n b).Ranged := by
  unfold State.transferEnded
  split
  · exact h.endTransfer n _ _ _ b
  · exact h.endTransfer n _ _ _ b
  · exact h.endTransfer n _ _ _ b
  · exact h

theorem transferStarted (h : t.Ranged) (n : Fin 32) (k : Fin 8) : (t.transferStarted n k).Ranged := by
  unfold State.transferStarted
  split
  · exact h.setWindow n rfl
  · exact h

theorem commitHeld (h : t.Ranged) (n : Fin 32) : (t.commitHeld n).Ranged := by
  unfold State.commitHeld
  split
  · exact h.setWindow n rfl
  · exact h

theorem commitReleased (h : t.Ranged) (n : Fin 32) : (t.commitReleased n).Ranged := by
  unfold State.commitReleased
  split
  · exact h.setWindow n rfl
  · exact h

theorem enterQuarantine (h : t.Ranged) (n : Fin 32) (c : QuarantineCause) : (t.enterQuarantine n c).Ranged := by
  unfold State.enterQuarantine
  split
  · exact h
  · exact h
  · exact (h.abortOwned _ .quarantine).setWindow_post n rfl _

theorem reportMismatch (h : t.Ranged) (n : Fin 32) : (t.reportMismatch n).Ranged := by
  unfold State.reportMismatch
  split
  · rename_i c hc
    split
    · have hcount : ((t.countMismatch n).updateController n
          (fun c' => { c' with mismatches := saturateMismatch c.mismatches })).Ranged := by
        obtain ⟨hle, -⟩ := h.controllerGood hc
        exact (h.countMismatch n).updateController n fun _ _ ⟨_, hp, hl, hq⟩ => ⟨saturateMismatch_le hle, hp, hl, hq⟩
      dsimp only
      split
      · exact hcount.enterQuarantine n _
      · exact hcount.transferEnded n false
    · exact h
  · exact h

theorem linkLossWindow (h : t.Ranged) (n : Fin 32) : (t.linkLossWindow n).Ranged := by
  unfold State.linkLossWindow
  split
  · exact h
  · exact h
  · exact h
  · exact h.setWindow n rfl
  · exact h.setWindow n rfl
  · exact h.setWindow_post n rfl _

theorem closeOrPend (h : t.Ranged) (n : Fin 32) (w : Window) (c : CloseCause) (g : Option Nat → Option Nat) :
    (t.closeOrPend n w c g).Ranged := by
  unfold State.closeOrPend
  split
  · exact h
  · exact h
  · exact h.setWindow n rfl
  · exact h.setWindow n rfl
  · exact h.closeNow n _ _
  · exact h.closeNow n _ _
  · exact h.closeNow n _ _

/-! ### Transfers -/

theorem setSlot (h : t.Ranged) (k : Fin 8) (x : Slot) : (t.setSlot k x).Ranged := h.same rfl

theorem setImage (h : t.Ranged) (i : Nat) (r : Option ImageRecord) : (t.setImage i r).Ranged := h.same rfl

theorem appendSegment (h : t.Ranged) (e : SegmentEntry) : (t.appendSegment e).Ranged :=
  h.same (by simp [State.ranges])

theorem compareImage (h : t.Ranged) (x : Transfer) (r : ImageRecord) (n : Nat) (f : Quad) :
    (t.compareImage x r n f).1.Ranged := by
  unfold State.compareImage
  split
  · exact h
  · exact h.post _

theorem decideImage (h : t.Ranged) (x : Transfer) (n : Nat) (f : Quad) : (t.decideImage x n f).1.Ranged := by
  unfold State.decideImage
  split
  · exact h
  · split
    · exact h.compareImage x _ n f
    · exact h
  · split
    · exact h.compareImage x _ n f
    · unfold State.learnImage
      split
      · exact (h.setImage _ _).post _
      · exact h

theorem startTransfer (h : t.Ranged) (n : Fin 32) (k : Fin 8) (f : Frame) (c : ImageCheck) :
    (t.startTransfer n k f c).Ranged := (((h.setSlot k _).transferStarted n k).forward .line f).countAdmitted n

theorem releaseCommit (h : t.Ranged) (k : Fin 8) (x : Transfer) (held : Frame) (f : Quad) :
    (t.releaseCommit k x held f).Ranged :=
  ((((h.forward .line held).setSlot k _).commitReleased x.controller).countReleased x.controller).post _

theorem refuseHeld (h : t.Ranged) (k : Fin 8) (x : Transfer) (held : Frame) (r : Reason) :
    (t.refuseHeld k x held r).Ranged := (h.refuse _ _ _ _).abort _ _ _ _

theorem completeVerifying (h : t.Ranged) (k : Fin 8) : (t.completeVerifying k).Ranged := by
  unfold State.completeVerifying
  split
  · rename_i x sums held _
    have hd := h.decideImage x sums.i (fingerprint sums sums.i)
    dsimp only
    split <;> rename_i hdecided <;> rw [hdecided] at hd
    · exact hd.releaseCommit k x held _
    · exact (hd.refuseHeld k x held _).reportMismatch _
    · exact (hd.refuseHeld k x held _).transferEnded _ _
  · exact h

theorem finishLane (h : t.Ranged) (l : Fin 2) : (t.finishLane l).Ranged := by
  unfold State.finishLane
  split
  · rename_i w _
    have hidle : (t.setLane l none).Ranged := h.same rfl
    refine same (t := (t.setLane l none).laneReports w) ?_ (by simp [State.ranges])
    unfold State.laneReports
    dsimp only
    split
    · exact hidle.setSlot _ _
    · exact (hidle.setSlot _ _).completeVerifying _
    · exact hidle.setSlot _ _
    · exact hidle
    · exact hidle
  · exact h

theorem refuseAndAbort (h : t.Ranged) (n : Fin 32) (k : Fin 8) (o : Operation) (f : Frame) (r : Reason) :
    (t.refuseAndAbort n k o f r).Ranged := ((h.refuse _ o f r).abort k _ _ _).transferEnded n false

theorem newSegment (h : t.Ranged) (n : Fin 32) (k : Fin 8) (x : Transfer) (z : Sums) (p : Nat) (q : Intake)
    (f : Frame) : (t.newSegment n k x z p q f).1.Ranged := by
  unfold State.newSegment
  dsimp only
  split
  · exact h.refuseAndAbort n k _ f _
  · split
    · exact h.countSegmentDrop
    · exact ((h.forward .line f).setSlot k _).appendSegment _

theorem segmentAt (h : t.Ranged) (n : Fin 32) (k : Fin 8) (f : Frame) : (t.segmentAt n k f).1.Ranged := by
  unfold State.segmentAt
  split
  · unfold State.sequenceSegment
    dsimp only
    split
    · exact h.newSegment n k _ _ _ _ f
    · split
      · exact (h.forward .line f).setSlot k _
      · exact h.refuseAndAbort n k _ f _
  · exact h.refuse (some n) .segment f .sequence

theorem commitAt (h : t.Ranged) (n : Fin 32) (k : Fin 8) (f : Frame) : (t.commitAt n k f).1.Ranged := by
  unfold State.commitAt
  split
  · split
    · dsimp only
      split
      · exact ((h.setSlot k _).commitHeld n).completeVerifying k
      · exact (h.setSlot k _).commitHeld n
    · exact h.refuseAndAbort n k _ f _
  · exact h
  · exact h.forward .line f

theorem abandonAt (h : t.Ranged) (n : Fin 32) (k : Fin 8) (f : Frame) : (t.abandonAt n k f).1.Ranged := by
  unfold State.abandonAt
  split
  · exact ((h.forward .line f).abort k _ _ _).transferEnded n false
  · exact h.forward .line f

theorem takeBeginResponse (h : t.Ranged) (n : Fin 32) (k : Fin 8) (v : Nat) : (t.takeBeginResponse n k v).Ranged := by
  unfold State.takeBeginResponse
  split
  · split
    · exact h.setSlot k _
    · exact h
  · exact (h.abort k _ _ _).transferEnded n false

theorem endReleased (h : t.Ranged) (k : Fin 8) (x : Option (NoticeKind × Option Quad)) : (t.endReleased k x).Ranged := by
  unfold State.endReleased
  split
  · refine transferEnded ?_ _ true
    split
    · exact (h.setSlot k .free).post _
    · exact h.setSlot k .free
  · exact h

theorem takeCommitResponse (h : t.Ranged) (k : Fin 8) (v : Nat) : (t.takeCommitResponse k v).Ranged := by
  unfold State.takeCommitResponse
  split
  · exact h.endReleased k none
  · exact h.endReleased k _

theorem timeoutSlot (h : t.Ranged) (k : Fin 8) : (t.timeoutSlot k).Ranged := by
  unfold State.timeoutSlot
  split
  · exact (h.abort k _ _ _).transferEnded _ false
  · exact h

theorem linkLossSlot (h : t.Ranged) (k : Fin 8) : (t.linkLossSlot k).Ranged := by
  have hend : (t.endSlot k).Ranged := h.same rfl
  unfold State.linkLossSlot
  split
  · exact hend
  · exact hend
  · exact hend.post _
  · exact h
  · exact h

/-! ### The Drift Scanner -/

theorem postponeScan (h : t.Ranged) (n : Fin 32) : (t.postponeScan n).Ranged := by
  unfold State.postponeScan
  split
  · exact h
  · rename_i c hc
    obtain ⟨-, hp, -⟩ := h.controllerGood hc
    have hmoved : ∀ d o, (t.updateSchedule n fun _ =>
        { nextDue := d, postponed := saturatePostponed c.schedule.postponed, overdue := o }).Ranged := fun d o =>
      h.updateSchedule n fun _ _ _ => saturatePostponed_le hp
    dsimp only
    split
    · exact (hmoved _ _).post _
    · exact hmoved _ _

theorem removeSummary (h : t.Ranged) : t.removeSummary.Ranged := h.same rfl

theorem setTag (h : t.Ranged) {v : Nat} (hv : v < 65536) (r : Option Round) :
    State.Ranged { t with tagCounter := v, round := r } := by
  obtain ⟨⟨hcounters, hdevice, htiming, hgeneration, -, hrest⟩, hhistory⟩ := h
  exact ⟨⟨hcounters, hdevice, htiming, hgeneration, hv, hrest⟩, hhistory⟩

theorem sendSummary (h : t.Ranged) (n : Fin 32) (v p a : Nat) (r : ImageRecord) : (t.sendSummary n v p a r).Ranged :=
  (h.removeSummary.originate .line _).setTag (nextNumber_lt _) _

theorem endRound (h : t.Ranged) (n : Fin 32) (v : Nat) (b : Bool) : (t.endRound n v b).Ranged := by
  have hidle : State.Ranged { t with round := none } := h.same rfl
  unfold State.endRound
  dsimp only
  refine hidle.updateSchedule n fun c _ hp => ?_
  split
  · exact Nat.zero_le _
  · exact hp

theorem continueRound (h : t.Ranged) (n : Fin 32) (v l : Nat) : (t.continueRound n v l).Ranged := by
  unfold State.continueRound
  split
  · exact h.sendSummary n v _ 1 _
  · exact h.endRound n v true

theorem scheduleCheck (h : t.Ranged) : t.scheduleCheck.Ranged := by
  refine foldl (fun t n ht => ?_) _ h
  unfold State.checkController
  split
  · exact ht
  · split
    · exact ht.continueRound n _ _
    · exact ht.postponeScan n

theorem cancelRound (h : t.Ranged) : t.cancelRound.Ranged := by
  unfold State.cancelRound
  split
  · have hidle : State.Ranged { t.removeSummary with round := none } := h.same rfl
    exact hidle.postponeScan _
  · exact h

theorem cancelRoundOf (h : t.Ranged) (n : Fin 32) : (t.cancelRoundOf n).Ranged := by
  unfold State.cancelRoundOf
  split
  · exact h.cancelRound.scheduleCheck
  · exact h

theorem drift (h : t.Ranged) (r : Round) (i : ImageRecord) (x : Option Reason) (a b : Quad) :
    (t.drift r i x a b).Ranged := (((h.post _).endRound _ _ false).enterQuarantine _ .drift).scheduleCheck

theorem miss (h : t.Ranged) (r : Round) (i : ImageRecord) (v : Option Nat) : (t.miss r i v).Ranged := by
  unfold State.miss
  split
  · exact h.sendSummary _ _ _ 2 i
  · exact ((h.post _).endRound _ _ false).scheduleCheck

theorem judgeSummary (h : t.Ranged) (r : Round) (i : ImageRecord) (f : Frame) : (t.judgeSummary r i f).Ranged := by
  unfold State.judgeSummary
  dsimp only
  split
  · split
    · have hnext := h.continueRound r.controller r.start (r.position + 1)
      split
      · exact hnext.scheduleCheck
      · exact hnext
    · split
      · exact h.drift r i _ _ _
      · exact h.drift r i _ _ _
  · split
    · exact h.drift r i _ _ _
    · exact h.miss r i _

theorem takeSummaryResponse (h : t.Ranged) (f : Frame) : (t.takeSummaryResponse f).Ranged := by
  unfold State.takeSummaryResponse
  split
  · exact h
  · split
    · split
      · exact h.judgeSummary _ _ f
      · exact h
    · exact h

theorem scanTimeout (h : t.Ranged) : t.scanTimeout.Ranged := by
  unfold State.scanTimeout
  split
  · exact h
  · split
    · exact h.miss _ _ none
    · exact (h.endRound _ _ true).scheduleCheck

/-! ### Requests -/

theorem refuseAndOffer (h : t.Ranged) (n : Fin 32) (o : Operation) (f : Frame) (r : Reason) :
    (t.refuseAndOffer n o f r).Ranged := (h.refuse (some n) o f r).offer n o f _

theorem passRead (h : t.Ranged) (n : Fin 32) (o : Operation) (f : Frame) : (t.passRead n o f).Ranged :=
  (h.forward .line f).offer n o f .pass

theorem admitSingle (h : t.Ranged) (n : Fin 32) (o : Operation) (f : Frame) : (t.admitSingle n o f).Ranged := by
  unfold State.admitSingle
  split
  · exact ((h.forward .line f).countAdmitted n).offer n o f .pass
  · exact h.refuseAndOffer n o f _
  · exact h

theorem admitBegin (h : t.Ranged) (n : Fin 32) (f : Frame) : (t.admitBegin n f).Ranged := by
  unfold State.admitBegin
  dsimp only
  split
  · exact h.refuseAndOffer n .begins f _
  · exact h
  · split
    · exact h.refuseAndOffer n .begins f _
    · exact (h.startTransfer n _ f _).offer n .begins f .start

theorem handToTracker (h : t.Ranged) (n : Fin 32) (o : Operation) (f : Frame)
    {tracker : State → Fin 8 → State × Ending} (ht : ∀ k, (tracker t k).1.Ranged) :
    (t.handToTracker n o f tracker).Ranged := by
  unfold State.handToTracker
  split
  · exact h.refuseAndOffer n o f _
  · exact (ht _).offer n o f _

theorem requestEffect (h : t.Ranged) (o : Operation) (n : Fin 32) (f : Frame) : (t.requestEffect o n f).Ranged := by
  cases o with
  | read => exact h.passRead n .read f
  | summary => exact h.passRead n .summary f
  | setParam => exact h.admitSingle n .setParam f
  | mode => exact h.admitSingle n .mode f
  | force => exact h.admitSingle n .force f
  | begins => exact h.admitBegin n f
  | segment => exact h.handToTracker n .segment f (tracker := fun t k => t.segmentAt n k f) fun k => h.segmentAt n k f
  | commit => exact h.handToTracker n .commit f (tracker := fun t k => t.commitAt n k f) fun k => h.commitAt n k f
  | abandon => exact h.handToTracker n .abandon f (tracker := fun t k => t.abandonAt n k f) fun k => h.abandonAt n k f

theorem takeRequest (h : s.Ranged) (o : Operation) (f : Frame) :
    (s.takeRequest o f fun s n => s.requestEffect o n f).Ranged := by
  refine .ite (fun _ => ?_) h
  split
  · exact h.countMalformed.post _
  · split
    · unfold State.closedRequest
      split
      · exact h.refuse none o f .closed
      · exact h.forward .line f
    · split
      · exact h.requestEffect o _ f
      · exact h

/-! ### Links, restarts, the store and power -/

theorem dropPort (h : t.Ranged) (p : Port) : (t.dropPort p).Ranged := by
  have hlost := (h.setPort p PortState.reset).countLinkDiscarded
    ((t.port p).forwarded ++ sendingForwarded (t.port p).sending).length
  cases p with
  | plant => exact (hlost.countNotSent _).same rfl
  | line => exact hlost.countLinkDiscarded _

theorem lineLinkLoss (h : t.Ranged) : t.lineLinkLoss.Ranged := by
  have hslots := foldl (fun t k (ht : t.Ranged) => ht.linkLossSlot k) (List.finRange 8) h
  have hwindows := foldl (fun t n (ht : t.Ranged) => ht.linkLossWindow n) (List.finRange 32) hslots
  unfold State.lineLinkLoss
  dsimp only
  split
  · exact hwindows.cancelRound.scheduleCheck
  · exact hwindows

theorem warmRestart (h : t.Ranged) : t.warmRestart.Ranged := by
  have hblocks : t.restartBlocks.Ranged := by
    refine (h.setControllers (v := t.controllers.map (Option.map (Controller.restart t.freshMonitor))) ?_).same rfl
    intro n c hc
    have hmap : (t.controller n).map (Controller.restart t.freshMonitor) = some c := by
      simpa [State.controller] using hc
    obtain ⟨c', hc', rfl⟩ := Option.map_eq_some_iff.1 hmap
    obtain ⟨hm, hp, -⟩ := h.controllerGood hc'
    have hshut : c'.window.restart.isOpening = false := by cases c'.window <;> rfl
    exact ⟨hm, hp, Window.lengthGood_of_not_opening hshut, nofun⟩
  unfold State.warmRestart
  split
  · exact hblocks.scheduleCheck
  · exact hblocks

theorem warmRestarts (h : t.Ranged) (k : Nat) : (t.warmRestarts k).Ranged := by
  induction k generalizing t with
  | zero => exact h
  | succ k ih => exact ih h.warmRestart

theorem takeDueRestart (h : t.Ranged) : t.takeDueRestart.Ranged := .ite (fun _ => h.warmRestarts _) h

theorem endWrite (h : t.Ranged) (success : Bool) : (t.endWrite success).Ranged := by
  obtain ⟨⟨-, -, -, -, -, -, -, hwriting⟩, -⟩ := h.fields, h.history
  obtain hw | ⟨i, hi, hw⟩ | ⟨n, hw⟩ := t.endWrite_cases success <;> rw [hw]
  · exact h
  · exact h.setStore (fun j hj => by cases hj; exact hwriting i hi) nofun
  · exact (h.setStore (a := none) (b := none) nofun nofun).post n

theorem reset : State.reset.Ranged := by
  refine ⟨⟨fun n => ?_, by decide, Timing.delivery_good, by decide, by decide, fun n c hc => ?_, nofun, nofun⟩,
    Nat.zero_le _, .nil, nofun⟩
  · simp only [State.count, State.reset, Fin.getElem_fin, Vector.getElem_replicate]
    decide
  · simp [State.controller, State.reset] at hc

theorem losePower (h : t.Ranged) : t.losePower.Ranged := by
  obtain ⟨⟨-, -, -, -, -, -, hstored, -⟩, -⟩ := h.fields, h.history
  refine (reset.setStore (a := if t.storeBusy then none else t.stored) (b := none) ?_ nofun).same rfl
  split
  · nofun
  · exact hstored

theorem powerOn (h : t.Ranged) : t.powerOn.Ranged := by
  obtain ⟨⟨hcounters, hdevice, -, -, htag, -, hstored, hwriting⟩, hhistory⟩ := h.losePower
  unfold State.powerOn
  dsimp only
  split
  · exact h.losePower.same rfl
  · rename_i image hi
    obtain ⟨htiming, hgeneration⟩ := hstored image hi
    refine ⟨⟨hcounters, hdevice, htiming, hgeneration, htag, fun n c hc => ?_, hstored, hwriting⟩, hhistory⟩
    simp only [State.controller, Fin.getElem_fin, Vector.getElem_map] at hc
    obtain ⟨_, -, rfl⟩ := Option.map_eq_some_iff.1 hc
    exact ⟨Nat.zero_le _, Nat.zero_le _, Window.lengthGood_of_not_opening rfl, nofun⟩

/-! ### Management commands -/

theorem reply (h : t.Ranged) (f : Frame) (k : OrigKind) (r : Reply) : (t.reply f k r).Ranged := h.originate .plant _

theorem forController (h : s.Ranged) {args : List Byte} {body : Fin 32 → Controller → State × Reply}
    (hb : ∀ n c, (body n c).1.Ranged) : (s.forController args body).1.Ranged := by
  unfold State.forController
  split
  · exact h
  · split
    · exact h
    · exact hb _ _

theorem beginWrite (h : t.Ranged) : t.beginWrite.Ranged := by
  obtain ⟨⟨-, -, htiming, hgeneration, -, -, hstored, -⟩, -⟩ := h.fields, h.history
  exact h.setStore (a := t.stored) (b := some t.image) hstored (by rintro _ ⟨⟩; exact ⟨htiming, hgeneration⟩)

theorem beginWriteOutside (h : t.Ranged) : t.beginWriteOutside.Ranged := by
  unfold State.beginWriteOutside
  split
  · exact h
  · exact h.beginWrite

theorem doReadCounters (h : s.Ranged) (args : List Byte) : (s.doReadCounters args).1.Ranged := by
  unfold State.doReadCounters
  split
  · exact h
  · split
    · exact .ite (fun _ => h.setDevice fun _ => by decide) h
    · split
      · exact h
      · exact .ite (fun _ => h.setCount _ fun _ => by decide) h

theorem doLoadRecord (h : s.Ranged) (args : List Byte) : (s.doLoadRecord args).1.Ranged := by
  unfold State.doLoadRecord
  split
  · split
    · split
      · exact h.same rfl
      · exact h
    · exact h
  · exact h

theorem cancelForSelection (h : s.Ranged) (b : Bank) : (s.cancelForSelection b).Ranged := by
  unfold State.cancelForSelection
  split
  · exact h
  · have hidle : State.Ranged { s.removeSummary with round := none } := h.same rfl
    dsimp only
    split
    · exact hidle.postponeScan _
    · exact hidle

theorem selectController (h : s.Ranged) (n : Fin 32) (d : Option ControllerDef) :
    ∀ c ∈ s.selectController s.controllers[n] d, c.Good := by
  intro c hc
  unfold State.selectController at hc
  split at hc
  · cases hc
  · rename_i c' hn
    obtain ⟨hm, hp, hl, -⟩ := h.controllerGood (n := n) hn
    cases hc
    exact ⟨hm, hp, hl, nofun⟩
  · cases hc
    exact ⟨Nat.zero_le _, Nat.zero_le _, Window.lengthGood_of_not_opening rfl, nofun⟩

/-- The exchange of the banks raises the generation and gives every number the state its definition calls for. -/
theorem exchange (h : t.Ranged) : State.Ranged { t with
    active := t.shadow, shadow := t.active, generation := nextGeneration t.generation
    controllers := Vector.ofFn fun n => t.selectController t.controllers[n] t.shadow.definitions[n] } := by
  have hcontrollers := h.setControllers
    (v := Vector.ofFn fun n : Fin 32 => t.selectController t.controllers[n] t.shadow.definitions[n]) fun n => by
      rw [Fin.getElem_fin, Vector.getElem_ofFn]
      exact h.selectController n _
  obtain ⟨⟨hcounters, hdevice, htiming, -, hrest⟩, hhistory⟩ := hcontrollers
  exact ⟨⟨hcounters, hdevice, htiming, nextGeneration_fits _, hrest⟩, hhistory⟩

theorem setFallback (h : t.Ranged) (b : Bool) : State.Ranged { t with fallback := b } := h.same rfl

theorem makeSelection (h : s.Ranged) : s.makeSelection.Ranged :=
  (((h.cancelForSelection s.shadow).exchange.post _).setFallback false).beginWrite

theorem doSelectBank (h : s.Ranged) (src : Addr) (args : List Byte) : (s.doSelectBank src args).1.Ranged := by
  unfold State.doSelectBank
  dsimp only
  split
  · exact h
  · split
    · exact h
    · split
      · exact h
      · split
        · exact h
        · split
          · exact h
          · exact h.makeSelection

/-- The Opening History drops its oldest of four entries, and takes now as its newest (R27). -/
theorem recordOpening (h : s.Ranged) : s.recordOpening.Ranged := by
  obtain ⟨hlength, hordered, hnow⟩ := h.history
  have hkept : ∀ l : List Nat, l.length < Config.historyPlaces → l.Sublist s.history →
      State.Ranged { s with history := l ++ [s.time] } := fun l hl hsub => by
    refine h.setHistory ⟨by simpa using hl, ?_, ?_⟩
    · exact List.pairwise_append.2 ⟨hordered.sublist hsub, List.pairwise_singleton _ _, fun a ha b hb => by
        rw [List.mem_singleton.1 hb]
        exact hnow a (hsub.mem ha)⟩
    · intro e he
      obtain he | he := List.mem_append.1 he
      · exact hnow e (hsub.mem he)
      · rw [List.mem_singleton.1 he]
  unfold State.recordOpening
  split
  · refine hkept _ ?_ (List.drop_sublist 1 _)
    have hpos : 0 < Config.historyPlaces := by decide
    rw [List.length_drop]
    omega
  · exact hkept _ (by omega) (List.Sublist.refl _)

theorem windowLength_good (h : s.Ranged) (a : Nat) : 60 ≤ s.windowLength a ∧ s.windowLength a ≤ 14400 := by
  obtain ⟨-, -, -, hwin, -⟩ := h.timingGood
  unfold State.windowLength
  split
  · exact hwin
  · omega

theorem acceptOpening (h : s.Ranged) (n : Fin 32) (m : WindowMode) (a : Nat) : (s.acceptOpening n m a).Ranged := by
  refine h.recordOpening.updateController n fun c _ ⟨hm, hp, _, _⟩ => ⟨hm, hp, ?_, fun _ => rfl⟩
  rintro _ ⟨⟩
  exact h.windowLength_good a

theorem doOpenWindow (h : s.Ranged) (args : List Byte) : (s.doOpenWindow args).1.Ranged := by
  unfold State.doOpenWindow
  split
  · split
    · exact h
    · split
      · exact h
      · split
        · exact h.post _
        · exact (h.acceptOpening _ _ _).cancelRoundOf _
      · exact h
  · exact h

theorem doQuarantine (h : s.Ranged) (args : List Byte) : (s.doQuarantine args).1.Ranged := by
  refine h.forController fun n c => ?_
  split
  · exact h
  · exact (h.enterQuarantine n .manual).cancelRoundOf n

theorem doRelease (h : s.Ranged) (args : List Byte) : (s.doRelease args).1.Ranged := by
  refine h.forController fun n c => ?_
  split
  · split
    · exact h
    · exact h.setWindow_post n rfl _
  · exact h

theorem doApproveCandidate (h : s.Ranged) (args : List Byte) : (s.doApproveCandidate args).1.Ranged := by
  unfold State.doApproveCandidate
  dsimp only
  split
  · split
    · split
      · exact h
      · exact h.setImage _ _
    · exact h
  · exact h

theorem doDiscardCandidate (h : s.Ranged) (args : List Byte) : (s.doDiscardCandidate args).1.Ranged := by
  unfold State.doDiscardCandidate
  dsimp only
  split
  · exact h
  · split
    · split
      · dsimp only
        split <;> exact h.same rfl
      · exact h
    · exact h

theorem doArmWatch (h : s.Ranged) (args : List Byte) : (s.doArmWatch args).1.Ranged := by
  unfold State.doArmWatch
  split
  · exact h.same rfl
  · exact h

theorem doDisarmWatch (h : s.Ranged) (args : List Byte) : (s.doDisarmWatch args).1.Ranged := by
  unfold State.doDisarmWatch
  split
  · exact h.same rfl
  · exact h

theorem doSetTiming (h : s.Ranged) (args : List Byte) : (s.doSetTiming args).1.Ranged := by
  unfold State.doSetTiming
  split
  · exact h
  · rename_i p _
    split
    · exact h
    · obtain ⟨⟨hcounters, hdevice, htiming, hrest⟩, hhistory⟩ := h
      have hset : State.Ranged { s with timing := s.timing.set p (p.clamp (fieldAt args 1 4)) } :=
        ⟨⟨hcounters, hdevice, Timing.set_good htiming p _, hrest⟩, hhistory⟩
      exact hset.beginWriteOutside

theorem doSetNoticeDestination (h : s.Ranged) (args : List Byte) : (s.doSetNoticeDestination args).1.Ranged := by
  unfold State.doSetNoticeDestination
  dsimp only
  split
  · exact h
  · split
    · exact h
    · refine beginWriteOutside (h.same ?_)
      unfold State.setDestination
      split <;> rfl

theorem doRestart (h : s.Ranged) (f : Frame) : (s.doRestart f).Ranged := by
  unfold State.doRestart
  split
  · exact h.reply f _ _
  · have hpending : State.Ranged { s with restartPending := true } := h.same rfl
    exact (hpending.reply f _ _).takeDueRestart

/-- The body of a management command keeps the counts in range. -/
theorem commandBody (h : s.Ranged) (c : Command) (f : Frame) : (s.commandBody c f).1.Ranged := by
  cases c with
  | identify => exact h
  | readTime => exact h
  | readController => rw [State.commandBody, State.doReadController_same]; exact h
  | readRecord => rw [State.commandBody, State.doReadRecord_same]; exact h
  | loadRecord => exact h.doLoadRecord _
  | clearShadow => exact h.same rfl
  | selectBank => exact h.doSelectBank _ _
  | openWindow => exact h.doOpenWindow _
  | closeWindow => exact h.forController fun n c => h.closeOrPend n c.window .command id
  | quarantine => exact h.doQuarantine _
  | release => exact h.doRelease _
  | approveCandidate => exact h.doApproveCandidate _
  | discardCandidate => exact h.doDiscardCandidate _
  | armWatch => exact h.doArmWatch _
  | disarmWatch => exact h.doDisarmWatch _
  | probe => rw [State.commandBody, State.doProbe_same]; exact h
  | readCounters => exact h.doReadCounters _
  | setTiming => exact h.doSetTiming _
  | setNoticeDestination => exact h.doSetNoticeDestination _
  | restart => exact h

end State.Ranged

/-! ## Every command -/

theorem exec_request_ranged {s : State} (h : s.Ranged) (o : Operation) (f : Frame) :
    ∃ t, exec (requestInstr o f) s = .next t ∧ t.Ranged := ⟨_, exec_requestInstr o f s, h.takeRequest o f⟩

theorem exec_management_ranged {s : State} (h : s.Ranged) (c : Command) (p : Port) (f : Frame) :
    ∃ t, exec (managementInstr c p f) s = .next t ∧ t.Ranged := by
  by_cases hc : c = .restart
  · subst hc
    refine ⟨_, rfl, .ite (fun _ => ?_) h⟩
    dsimp only
    split
    · split
      · exact h.reply f _ _
      · exact h.doRestart f
    · exact h.post _
  · by_cases ht : s.takesCommand c p f
    · exact ⟨_, exec_managementInstr_taken ht hc, (h.commandBody c f).reply f _ _⟩
    · have hbody : ∀ body, (s.takeCommand c p f body).Ranged := fun body => by
        refine .ite (fun hr => ?_) h
        unfold State.manage
        split
        · rename_i ha
          split
          · exact h.reply f _ _
          · rename_i hk
            exact absurd ⟨hr, ha, hk⟩ ht
        · exact h.post _
      cases c <;> first | exact absurd rfl hc | exact ⟨_, rfl, hbody _⟩

/-- Every command answers a next state and keeps the counts in range. -/
theorem exec_ranged (i : Instr) {s : State} (h : s.Ranged) : ∃ t, exec i s = .next t ∧ t.Ranged := by
  cases i with
  | frameCheckDiscard p bytes =>
    refine ⟨_, rfl, ?_⟩
    split
    · exact .ite (fun _ => h.countDiscarded) h
    · exact .ite (fun _ => h.countDiscarded) h
  | forwardFrame p f => exact ⟨_, rfl, .ite (fun _ => h.forward _ f) h⟩
  | filterAddressedDiscard p f => exact ⟨_, rfl, .ite (fun _ => h.countDiscarded) h⟩
  | oxRead f => exact exec_request_ranged h .read f
  | oxSummary f => exact exec_request_ranged h .summary f
  | oxSetParam f => exact exec_request_ranged h .setParam f
  | oxMode f => exact exec_request_ranged h .mode f
  | oxForce f => exact exec_request_ranged h .force f
  | oxBegin f => exact exec_request_ranged h .begins f
  | oxSegment f => exact exec_request_ranged h .segment f
  | oxCommit f => exact exec_request_ranged h .commit f
  | oxAbandon f => exact exec_request_ranged h .abandon f
  | cyclicStatusFrame f =>
    refine ⟨_, rfl, .ite (fun _ => .forward ?_ .plant f) h⟩
    split
    · split
      · exact h.monitorObserves _ _ true
      · exact h
    · exact h
  | beginResponse f =>
    refine ⟨_, rfl, .ite (fun _ => .forward ?_ .plant f) h⟩
    split
    · split
      · exact h.takeBeginResponse _ _ _
      · exact h
    · exact h
  | commitResponse f =>
    refine ⟨_, rfl, .ite (fun _ => .forward ?_ .plant f) h⟩
    split
    · split
      · exact h.takeCommitResponse _ _
      · exact h
    · exact h
  | summaryResponse f => exact ⟨_, rfl, .ite (fun _ => h.takeSummaryResponse f) h⟩
  | abandonResponse f => exact ⟨_, rfl, h⟩
  | staleDeadline n => exact ⟨_, rfl, .ite (fun _ => h.monitorObserves n .stale false) h⟩
  | settleDeadline n => exact ⟨_, rfl, .ite (fun _ => h.settleExpiry n) h⟩
  | openingDeadline n => exact ⟨_, rfl, .ite (fun _ => h.setWindow_post n rfl _) h⟩
  | windowDeadline n =>
    refine ⟨_, rfl, .ite (fun _ => ?_) h⟩
    split
    · exact h.closeOrPend n _ _ _
    · exact h
  | idleDeadline k => exact ⟨_, rfl, .ite (fun _ => h.timeoutSlot k) h⟩
  | beginResponseDeadline k => exact ⟨_, rfl, .ite (fun _ => h.timeoutSlot k) h⟩
  | commitResponseDeadline k => exact ⟨_, rfl, .ite (fun _ => h.endReleased k _) h⟩
  | laneFinish l => exact ⟨_, rfl, .ite (fun _ => h.finishLane l) h⟩
  | nextDueExpiry n => exact ⟨_, rfl, .ite (fun _ => h.scheduleCheck) h⟩
  | scanResponseDeadline => exact ⟨_, rfl, .ite (fun _ => h.scanTimeout) h⟩
  | identify p f => exact exec_management_ranged h .identify p f
  | readTime p f => exact exec_management_ranged h .readTime p f
  | readController p f => exact exec_management_ranged h .readController p f
  | readRecord p f => exact exec_management_ranged h .readRecord p f
  | loadRecord p f => exact exec_management_ranged h .loadRecord p f
  | clearShadow p f => exact exec_management_ranged h .clearShadow p f
  | selectBank p f => exact exec_management_ranged h .selectBank p f
  | openWindow p f => exact exec_management_ranged h .openWindow p f
  | closeWindow p f => exact exec_management_ranged h .closeWindow p f
  | quarantine p f => exact exec_management_ranged h .quarantine p f
  | release p f => exact exec_management_ranged h .release p f
  | approveCandidate p f => exact exec_management_ranged h .approveCandidate p f
  | discardCandidate p f => exact exec_management_ranged h .discardCandidate p f
  | armWatch p f => exact exec_management_ranged h .armWatch p f
  | disarmWatch p f => exact exec_management_ranged h .disarmWatch p f
  | probe p f => exact exec_management_ranged h .probe p f
  | readCounters p f => exact exec_management_ranged h .readCounters p f
  | setTiming p f => exact exec_management_ranged h .setTiming p f
  | setNoticeDestination p f => exact exec_management_ranged h .setNoticeDestination p f
  | restart p f => exact exec_management_ranged h .restart p f
  | warmRestart => exact ⟨_, rfl, .ite (fun _ => h.takeDueRestart) h⟩
  | restartInputClosed =>
    have hclosed : State.Ranged { s with lineClosed := true } := h.same rfl
    refine ⟨_, rfl, ?_⟩
    split
    · exact h
    · dsimp only
      split
      · exact hclosed
      · split
        · exact h.same rfl
        · exact hclosed.warmRestart
  | storeWriteEnd success => exact ⟨_, rfl, .ite (fun _ => (h.endWrite success).takeDueRestart) h⟩
  | powerOnReset => exact ⟨_, rfl, h.powerOn⟩
  | linkDown p =>
    refine ⟨_, rfl, .ite (fun _ => ?_) h⟩
    cases p with
    | plant => exact (h.dropPort .plant).offerPlaces .plant
    | line => exact (h.dropPort .line).lineLinkLoss
  | linkUp p => exact ⟨_, rfl, .ite (fun _ => (h.setPort p _).offerPlaces p) h⟩
  | egressChoice p => exact ⟨_, rfl, .ite (fun _ => (h.setPort p _).offerPlaces p) h⟩
  | frameSent p => exact ⟨_, rfl, .ite (fun _ => (h.setPort p _).offerPlaces p) h⟩
  | noticeLeavesQueue =>
    refine ⟨_, rfl, .ite (fun _ => h.same ?_) h⟩
    obtain ⟨q, d, x, hmoved⟩ := s.moveNotice_shape
    rw [hmoved]
    rfl
  | restartInputOpened => exact ⟨_, rfl, h.same rfl⟩
  | powerLoss => exact ⟨_, rfl, h.losePower⟩

/-- While no command waits time counts, which leaves no entry of the Opening History later than now. -/
theorem State.Ranged.idle {s : State} (h : s.Ranged) : s.idle.Ranged := by
  unfold State.idle
  split
  · refine .ite (fun _ => ?_) h
    obtain ⟨hlength, hordered, hnow⟩ := h.history
    exact ⟨h.fields, hlength, hordered, fun e he => Nat.le_succ_of_le (hnow e he)⟩
  · exact h.same rfl

/-- Every step keeps the counts in range. -/
theorem step_ranged {s t : State} (h : s.Ranged) (hstep : step s = .next t) : t.Ranged := by
  unfold step at hstep
  split at hstep
  · rename_i i rest _
    have htaken : State.Ranged { s with pending := rest } := h.same rfl
    obtain ⟨u, hu, hkept⟩ := exec_ranged i htaken
    obtain rfl : u = t := Host.Outcome.next.inj (hu.symm.trans hstep)
    exact hkept
  · cases hstep
    exact h.idle

end Sys2Proof.Machine

open Sys2Proof Sys2Proof.Machine

/-- Settles O8: every effect of a command keeps every count in its range and the Opening History in order. -/
theorem stepsKeepFieldsGood : Obligations.StepsKeepFieldsGood := by
  intro s t hf hh hstep
  have ht := step_ranged ⟨hf, hh⟩ hstep
  exact ⟨ht.fields, ht.history⟩
end

section
/-! PROOFS. The idle step, the state after a power-on reset, and the rate check (O2, O4, O13). -/

namespace Sys2Proof.Machine

/-! ## The rate check (R27) -/

section rate
variable {s : State}

theorem State.openPeriod_eq (s : State) : s.openPeriod = s.timing.openRate * 1000000 := rfl

/-- The rate check refuses when the history is full and its oldest entry still counts (R27). -/
theorem State.rateRefusal_eq_some_iff {retry : Nat} : s.rateRefusal = some retry ↔
    ∃ oldest rest, s.history = oldest :: rest ∧ Config.historyPlaces ≤ s.history.length
      ∧ s.time - oldest < s.openPeriod ∧ oldest + s.openPeriod = retry := by
  unfold State.rateRefusal
  cases hh : s.history with
  | nil => simp
  | cons oldest rest => simp [and_assoc]

theorem State.rateRefusal_eq_none {oldest : Nat} {rest : List Nat} (hh : s.history = oldest :: rest)
    (h : s.rateRefusal = none) (hfull : Config.historyPlaces ≤ s.history.length) : s.openPeriod ≤ s.time - oldest := by
  by_contra hlt
  have hsome := State.rateRefusal_eq_some_iff.2 ⟨oldest, rest, hh, hfull, by omega, rfl⟩
  rw [h] at hsome
  cases hsome

/-- No entry of the history is older than the first (R27). -/
theorem State.HistoryGood.oldest_le {oldest : Nat} {rest : List Nat} (h : s.HistoryGood)
    (hh : s.history = oldest :: rest) : ∀ e ∈ s.history, oldest ≤ e := by
  obtain ⟨-, hordered, -⟩ := h
  rw [hh] at hordered ⊢
  intro e he
  obtain rfl | he := List.mem_cons.1 he
  · exact Nat.le_refl _
  · exact List.rel_of_pairwise_cons hordered he

end rate

/-! ## The reset state -/

theorem State.reset_portsGood : State.reset.PortsGood := by decide

theorem State.reset_noticesGood : State.reset.NoticesGood := by decide

theorem State.reset_ownersGood : State.reset.OwnersGood :=
  .of_apart State.reset_cleared.windows fun k => by rw [State.reset_cleared.slots]; rfl

theorem Bank.empty_grantsChecked : Bank.empty.GrantsChecked := by
  obtain ⟨-, hchecked, -⟩ := Bank.empty_good
  exact hchecked

theorem State.reset_banksGood : State.reset.BanksGood := ⟨Bank.empty_good, Bank.empty_grantsChecked, nofun, nofun⟩

theorem State.watch_reset (w : Fin 8) : State.reset.watch w = none := by simp [State.reset, State.watch]

theorem State.count_reset (n : Fin 32) : State.reset.count n = ControllerCounters.zero := by
  simp [State.reset, State.count]

theorem State.reset_definedGood : State.reset.DefinedGood := by
  refine ⟨fun n => ?_, fun _ => ⟨rfl, rfl, State.reset_cleared.slots, State.watch_reset⟩⟩
  simp [State.reset, State.controller, State.definition, Bank.empty]

theorem State.reset_good : State.reset.Good where
  ports := State.reset_portsGood
  notices := State.reset_noticesGood
  segments := State.reset_cleared.segmentsGood
  owners := State.reset_ownersGood
  fields := State.Ranged.reset.fields
  history := State.Ranged.reset.history
  banks := State.reset_banksGood
  defined := State.reset_definedGood

end Sys2Proof.Machine

open Sys2Proof Sys2Proof.Machine

/-- Settles O2: the step of an empty queue is the idle step, and its choice is one of the owed events. -/
theorem idleStepRaisesOwedEventOrCounts : Obligations.IdleStepRaisesOwedEventOrCounts := by
  intro s hpending
  have hstep : step s = .next s.idle := by
    unfold step
    rw [hpending]
  rw [hstep]
  refine ⟨fun howed hpowered => ?_, fun howed hpowered => ?_, fun howed => ?_⟩
  · simp [State.idle, howed, hpowered]
  · simp [State.idle, howed, hpowered]
  · obtain ⟨e, es, he⟩ := List.exists_cons_of_ne_nil howed
    have hlt : Config.eventChoice s.choices % (e :: es).length < (e :: es).length := Nat.mod_lt _ (Nat.succ_pos _)
    refine ⟨(e :: es).getD (Config.eventChoice s.choices % (e :: es).length) e, ?_, ?_⟩
    · rw [he, List.getD_eq_getElem _ _ hlt]
      exact List.getElem_mem _
    · unfold State.idle
      rw [he]

/-- Settles O4: each part of the reset state is good, and its fields are read off. -/
theorem resetIsGood : Obligations.ResetIsGood :=
  ⟨State.reset_good, rfl, rfl, rfl, rfl, rfl, State.reset_cleared.slots, State.reset_cleared.lanes, rfl, rfl, rfl, rfl,
    State.watch_reset, rfl, rfl, State.count_reset, rfl, fun p => by cases p <;> rfl, rfl, rfl⟩

/-- Settles O13: the oldest of four entries decides, since no other is older. -/
theorem openingsAreRateLimited : Obligations.OpeningsAreRateLimited := by
  intro s hs
  obtain ⟨hlength, -, hnow⟩ := id hs
  refine ⟨fun retry h => ?_, fun h => ?_, fun h => ?_, fun oldest rest hh h => ?_⟩
  · obtain ⟨oldest, rest, hh, hfull, hlt, rfl⟩ := State.rateRefusal_eq_some_iff.1 h
    refine ⟨Nat.le_antisymm hlength hfull, fun e he => ?_, oldest, rest, hh, rfl⟩
    have hle := hs.oldest_le hh e he
    rw [State.openPeriod_eq] at hlt
    omega
  · by_cases hfull : Config.historyPlaces ≤ s.history.length
    · cases hh : s.history with
      | nil => simp
      | cons oldest rest =>
        /- the oldest does not count, and three others are left -/
        have hold := State.rateRefusal_eq_none hh h hfull
        rw [State.openPeriod_eq] at hold
        have hrest : rest.length ≤ 3 := by
          rw [hh, List.length_cons] at hlength
          exact Nat.le_of_succ_le_succ hlength
        rw [List.countP_cons_of_neg (by simpa using hold)]
        exact List.countP_le_length.trans hrest
    · have hfew : s.history.length < 4 := Nat.lt_of_not_le hfull
      exact List.countP_le_length.trans (Nat.le_of_lt_succ hfew)
  · have hnot : ¬ Config.historyPlaces ≤ s.history.length := Nat.not_le_of_lt h
    simp only [State.recordOpening, if_neg hnot]
  · have hfull : Config.historyPlaces ≤ s.history.length := Nat.le_of_eq h.symm
    rw [State.recordOpening, if_pos hfull, hh, List.drop_one, List.tail_cons]
end

section
/-! PROOFS. The operations that commands share, in plain data (O25, O29, O32, O36): frames forwarded, window states set,
slots aborted, transfers that end at the window, and the completion of a slot. -/

namespace Sys2Proof.Machine

section shared
variable {s : State} {n : Fin 32} {c : Controller} {w : Window}

/-! ## Windows of a defined controller -/

theorem State.setWindow_of_defined (h : s.controller n = some c) (w : Window) :
    s.setWindow n w = s.setController n (some
      { c with window := w, monitor := if w.isOpening then c.monitor else { c.monitor with quiet := none } }) :=
  State.updateController_of_defined h _

theorem State.setQuiet_of_defined (h : s.controller n = some c) (q : Option QuietRun) :
    s.setQuiet n q = s.setController n (some { c with monitor := { c.monitor with quiet := q } }) :=
  State.updateController_of_defined h _

/-- A controller that is set to what it is leaves the state as it is. -/
theorem State.setController_self (h : s.controller n = some c) : s.setController n (some c) = s := by
  have hsame : s.controllers.set n (some c) = s.controllers := by
    refine Vector.ext fun i hi => ?_
    rw [Vector.getElem_set]
    split
    · subst i
      exact h.symm
    · rfl
  rw [State.setController, hsame]

/-- A controller set twice is as it was set last. -/
theorem State.setController_setController (s : State) (n : Fin 32) (a b : Option Controller) :
    (s.setController n a).setController n b = s.setController n b := by
  have hset : (s.controllers.set n a).set n b = s.controllers.set n b := by
    refine Vector.ext fun i hi => ?_
    rw [Vector.getElem_set, Vector.getElem_set, Vector.getElem_set]
    split <;> rfl
  simp only [State.setController, hset]

/-- A window's notice, in plain data (section 2.9). -/
theorem State.postWindow_setWindow (s : State) (k : NoticeKind) (n : Fin 32) (w : Window) (r : WindowCause) :
    (s.setWindow n w).postWindow k n r = (s.setWindow n w).post
      { kind := k, time := s.time, controller := some n, reason := some (.window r) } := by
  simp [State.postWindow, State.notice]

/-! ## Closing and quarantine (R30, R38) -/

/-- A window that owns no slot to abort closes at once (R30, R32, R33). -/
theorem State.closeNow_unowned (hw : w.slotToAbort = none) (r : WindowCause) : s.closeNow n w r =
    (s.setWindow n .locked).post
      { kind := .windowClosed, time := s.time, controller := some n, reason := some (.window r) } := by
  rw [State.closeNow, State.abortOwned, hw]
  exact State.postWindow_setWindow ..

theorem State.closeNow_owned {k : Fin 8} (hw : w.slotToAbort = some k) (r : WindowCause) : s.closeNow n w r =
    ((s.abort k true (some .locked) none).setWindow n .locked).post
      { kind := .windowClosed, time := s.time, controller := some n, reason := some (.window r) } := by
  rw [State.closeNow, State.abortOwned, hw]
  simp only [State.postWindow_setWindow, State.abort_time]

theorem State.enterQuarantine_of_quarantined {q : QuarantineCause} (h : s.window? n = some (.quarantined q))
    (cause : QuarantineCause) : s.enterQuarantine n cause = s := by
  rw [State.enterQuarantine, h]

theorem State.enterQuarantine_unowned (h : s.window? n = some w) (hw : w.slotToAbort = none)
    (hq : w.isQuarantined = false) (cause : QuarantineCause) : s.enterQuarantine n cause =
      (s.setWindow n (.quarantined cause)).post
        { kind := .quarantined, time := s.time, controller := some n, reason := some (.quarantine cause) } := by
  unfold State.enterQuarantine
  cases w with
  | quarantined q => cases hq
  | _ => simp only [h, State.abortOwned, hw, State.notice, State.setWindow_time]

theorem State.enterQuarantine_owned {k : Fin 8} (h : s.window? n = some w) (hw : w.slotToAbort = some k)
    (cause : QuarantineCause) : s.enterQuarantine n cause =
      ((s.abort k true (some .quarantine) none).setWindow n (.quarantined cause)).post
        { kind := .quarantined, time := s.time, controller := some n, reason := some (.quarantine cause) } := by
  unfold State.enterQuarantine
  cases w with
  | quarantined q => cases hw
  | _ => simp only [h, State.abortOwned, hw, State.notice, State.setWindow_time, State.abort_time]

/-! ## Transfers as seen by the window (R34 to R37) -/

section ended
variable {m : WindowMode} {d : Option Nat} {k : Fin 8} {p : Option CloseCause}

theorem State.endTransfer_closing (e : CloseCause) (he : e ≠ .runAfterCommit) (b : Bool) :
    s.endTransfer n m d (some e) b = (s.setWindow n .locked).post
      { kind := .windowClosed, time := s.time, controller := some n, reason := some (.window e.window) } := by
  cases e <;> first | exact absurd rfl he | simp only [State.endTransfer, State.postWindow_setWindow]

theorem State.endTransfer_open (e : Nat) (b : Bool) : s.endTransfer n m (some e) none b =
    if b = true ∧ m = .single then (s.setWindow n .locked).post
      { kind := .windowClosed, time := s.time, controller := some n, reason := some (.window .singleDone) }
    else s.setWindow n (.opened m e) := by
  simp only [State.endTransfer, State.postWindow_setWindow]

theorem State.transferEnded_transfer {e : Nat} (h : s.window? n = some (.transfer m e k)) (b : Bool) :
    s.transferEnded n b = s.endTransfer n m (some e) none b := by rw [State.transferEnded, h]

theorem State.transferEnded_committed
    (h : s.window? n = some (.verify m d k p) ∨ s.window? n = some (.commitWait m d k p)) (b : Bool) :
    s.transferEnded n b = s.endTransfer n m d p b := by
  obtain h | h := h <;> rw [State.transferEnded, h]

end ended

/-- The third mismatch of a window, whose slot has ended, quarantines its controller; one before it is a non-commit
ending (R37, R115). -/
theorem State.reportMismatch_of_verify {m : WindowMode} {d : Option Nat} {k : Fin 8} {p : Option CloseCause}
    (hc : s.controller n = some c) (hw : c.window = .verify m d k p) : s.reportMismatch n =
      if saturateMismatch c.mismatches = Config.mismatchLimit then
        ((s.countMismatch n).setController n
          (some { c with mismatches := saturateMismatch c.mismatches })).enterQuarantine n .mismatchLimit
      else ((s.countMismatch n).setController n
        (some { c with mismatches := saturateMismatch c.mismatches })).transferEnded n false := by
  unfold State.reportMismatch
  rw [hc]
  dsimp only
  rw [hw]
  dsimp only
  rw [State.updateController_of_defined (s := s.countMismatch n) hc, hw]

end shared

/-! ## An abort (R87, R92, R148) -/

section abort
variable {s : State} {k : Fin 8} {x : Transfer}

/-- A frame originated at the Line port is placed while its queue holds fewer than 9, or else is counted (R147). -/
theorem State.originate_line_eq (s : State) (o : OrigFrame) :
    s.originate .line o = { s with
      line := if s.line.originate.length < 9 then s.line.placeOriginated o s.time else s.line
      device := { s.device with
        notSent := if 9 ≤ s.line.originate.length then saturate32By 1 s.device.notSent else s.device.notSent } } := by
  by_cases h : s.line.originate.length < 9
  · have hnot : ¬ 9 ≤ s.line.originate.length := Nat.not_le_of_lt h
    simp [State.originate, portPlaces, Config.linePlaces, h, hnot, State.setPort]
  · have hfull : 9 ≤ s.line.originate.length := Nat.le_of_not_lt h
    simp [State.originate, portPlaces, Config.linePlaces, h, hfull, State.countNotSent]

theorem State.endSlot_eq (s : State) (k : Fin 8) : s.endSlot k = { s with
    waiting := s.waiting.filter (fun e => e.slot != k)
    slots := s.slots.set k (if s.laneHolds k then .draining else .free) } := rfl

theorem State.abort_of_abortable (hx : (s.slot k).abortable = some x) (b : Bool) (r : Option Reason)
    (v : Option Quad) : s.abort k b r v = State.post
      (if b then (s.endSlot k).originate .line
          { kind := .abandon, frame := abandonFrame s.identity.station (s.addrOf x.controller) x }
        else s.endSlot k)
      { kind := .transferAborted, time := s.time, controller := some x.controller, station := some x.requester
        object := some (x.cls, x.idx), tid := some x.tid, reason := r.map .reason, first := v } := by
  unfold State.abort
  rw [hx]
  cases b
  · rfl
  · simp only [State.slotNotice, State.notice, if_true, State.originate_time]
    rfl

end abort

end Sys2Proof.Machine

open Sys2Proof Sys2Proof.Machine

/-- Settles O25: each operation at a defined controller, by the branch of its definition. -/
theorem sharedOperationsHaveTheirEffects : Obligations.SharedOperationsHaveTheirEffects := by
  intro s n c hc
  have hwindow : s.window? n = some c.window := State.window_of_controller hc
  refine ⟨fun f => ?_, fun f => ?_, State.setWindow_of_defined hc, rfl, rfl, fun m d k hw => ?_, fun m d k x hw => ?_,
    fun cause => ⟨fun q hw => ?_, fun k hw => ?_, fun hw => ?_⟩⟩
  · cases hup : s.line.up <;> simp [State.forward, State.port, hup] <;> rfl
  · cases hup : s.plant.up <;> simp [State.forward, State.port, hup] <;> rfl
  · rw [State.commitHeld, hwindow, hw]
  · rw [State.commitReleased, hwindow, hw]
  · exact State.enterQuarantine_of_quarantined (hwindow.trans (congrArg some hw)) cause
  · obtain ⟨m, d, hw⟩ | ⟨m, d, x, hw⟩ := hw
    · exact State.enterQuarantine_owned hwindow (by rw [hw]; rfl) cause
    · exact State.enterQuarantine_owned hwindow (by rw [hw]; rfl) cause
  · obtain hw | ⟨m, l, d, hw⟩ | ⟨m, d, hw⟩ | ⟨m, d, k, x, hw⟩ := hw
    all_goals exact State.enterQuarantine_unowned hwindow (by rw [hw]; rfl) (by rw [hw]; rfl) cause

/-- Settles O29: an abort ends its slot, sends ABANDON when asked to, and posts its notice. -/
theorem abortHasItsEffects : Obligations.AbortHasItsEffects := by
  intro s k b r v
  refine ⟨fun hx => State.abort_of_not_abortable hx b r v, fun x hx => ?_⟩
  rw [State.abort_of_abortable hx b r v]
  cases b with
  | false => simp [State.endSlot_eq]
  | true =>
    rw [if_pos rfl, State.originate_line_eq, State.endSlot_eq]
    simp

/-- Settles O32: how a window goes on is told by its close-pending, and how a mismatch ends by the window's count. -/
theorem transfersEndAtTheWindow : Obligations.TransfersEndAtTheWindow := by
  refine ⟨fun s n b => ⟨fun m d k hw => ?_, fun m d k p hw => ⟨?_, ?_, ?_, ?_⟩, fun hw => ?_⟩,
    fun s n c m d k p hc hw hk => ⟨fun htwo => ?_, fun hlt => ?_⟩⟩
  · rw [State.transferEnded_transfer hw, State.endTransfer_open]
  · rintro rfl
    rw [State.transferEnded_committed hw, State.endTransfer]
  · rintro rfl
    rw [State.transferEnded_committed hw, State.endTransfer_closing .command nofun]
    rfl
  · rintro rfl
    rw [State.transferEnded_committed hw, State.endTransfer_closing .expired nofun]
    rfl
  · rintro e rfl rfl
    rw [State.transferEnded_committed hw, State.endTransfer_open]
  · refine State.transferEnded_of_owner_none b fun w hn => ?_
    obtain h | h | ⟨c, h⟩ | ⟨m, l, d, h⟩ | ⟨m, d, h⟩ := hw <;> rw [h] at hn <;> cases hn <;> rfl
  · have hcount : saturateMismatch c.mismatches = 3 := by rw [htwo]; rfl
    rw [State.reportMismatch_of_verify hc hw, hcount, if_pos (by rfl)]
    have hdefined : ((s.countMismatch n).setController n (some { c with mismatches := 3 })).controller n
        = some { c with mismatches := 3 } := by simp
    have hslot : (((s.countMismatch n).setController n (some { c with mismatches := 3 })).slot k).abortable = none := hk
    /- the slot has ended already, so that quarantine entry asks for no abort -/
    rw [State.enterQuarantine_owned (State.window_of_controller hdefined) (k := k) (by rw [hw]; rfl),
      State.abort_of_not_abortable hslot, State.setWindow_of_defined hdefined, State.setController_setController]
    rfl
  · have hcount : saturateMismatch c.mismatches = c.mismatches + 1 :=
      if_pos (Nat.lt_trans hlt (by decide))
    have hnot : ¬ c.mismatches + 1 = Config.mismatchLimit := by
      have hlimit : Config.mismatchLimit = 3 := rfl
      omega
    rw [State.reportMismatch_of_verify hc hw, hcount, if_neg hnot]
    rfl

/-- Settles O36: the equation of a completion for each decision. -/
theorem completionFollowsTheImageDecision : Obligations.CompletionFollowsTheImageDecision := by
  intro s s' k x z f hs
  refine ⟨fun hd => ?_, State.completeVerifying_mismatch hs, State.completeVerifying_imageFull hs⟩
  have hs' : s' = (s.decideImage x z.i (fingerprint z z.i)).1 := by rw [hd]
  have htime : s'.time = s.time := by rw [hs']; exact State.decideImage_time ..
  have htiming : s'.timing = s.timing := by rw [hs']; exact State.decideImage_timing ..
  rw [State.completeVerifying_release hs hd, State.releaseCommit]
  simp [State.responseDeadline, milliseconds, State.slotNotice, State.notice, htime, htiming]
end

section
/-! PROOFS. Observations and the deadlines of a window (O40, O41). -/

namespace Sys2Proof.Machine

section windows
variable {s : State} {n : Fin 32} {c : Controller} {m : WindowMode} {l d : Nat}

theorem State.quietRun_of_controller (h : s.controller n = some c) : s.quietRun n = c.monitor.quiet := by
  rw [State.quietRun, h, Option.bind_some]

theorem State.quietEnough_iff (s : State) (q : QuietRun) :
    s.quietEnough q = true ↔ s.timing.settle * 1000 ≤ s.time - q.since := by
  rw [State.quietEnough, decide_eq_true_iff, milliseconds]

/-- A window of a defined controller settles, in plain data (R28). -/
theorem State.settle_of_defined (h : s.controller n = some c) (m : WindowMode) (l : Nat) : s.settle n m l =
    (s.setController n (some
      { c with window := .opened m (s.time + l * 1000000), mismatches := 0
               monitor := { c.monitor with quiet := none } })).post
      { kind := .windowOpened, time := s.time, controller := some n, reason := some (.mode m)
        first := some (upperHalf (s.time + l * 1000000)), second := some (lowerHalf (s.time + l * 1000000)) } := by
  have hset : ∀ c', (s.setController n (some c')).controller n = some c' := fun c' => by simp
  unfold State.settle
  dsimp only
  rw [State.setWindow_of_defined h, State.updateController_of_defined (hset _), State.setController_setController]
  rfl

/-! ## Observations (R25, R28, R30, R31) -/

/-- An observation that gives no cause to close changes nothing but in OPENING (R25). -/
theorem State.observe_idle {w : Window} (h : s.window? n = some w) (hw : w.isOpening = false) {o : Observation}
    (ho : o.cause = none) : s.observe n o = s := by
  unfold State.observe
  rw [h]
  dsimp only
  rw [ho]
  cases w with
  | opening => cases hw
  | _ => rfl

/-- An observation changes nothing in LOCKED and QUARANTINE. -/
theorem State.observe_shut (h : s.window? n = some .locked ∨ ∃ q, s.window? n = some (.quarantined q))
    (o : Observation) : s.observe n o = s := by
  unfold State.observe
  obtain h | ⟨q, h⟩ := h <;> rw [h] <;> cases o <;> rfl

theorem State.observe_quiet_opening (h : s.window? n = some (.opening m l d)) :
    s.observe n .quiet = s.observeQuiet n m l := by
  unfold State.observe
  rw [h]
  rfl

section closing
variable {o : Observation} {cause : WindowCause} (ho : o.cause = some cause)
include ho

/-- A RUNNING or STALE observation ends the quiet run of a window in OPENING (R25). -/
theorem State.observe_opening (h : s.window? n = some (.opening m l d)) : s.observe n o = s.setQuiet n none := by
  unfold State.observe
  rw [h]
  dsimp only
  rw [ho]

theorem State.observe_opened (h : s.window? n = some (.opened m d)) :
    s.observe n o = s.closeNow n (.opened m d) cause := by
  unfold State.observe
  rw [h]
  dsimp only
  rw [ho]

theorem State.observe_transfer {k : Fin 8} (h : s.window? n = some (.transfer m d k)) :
    s.observe n o = s.closeNow n (.transfer m d k) cause := by
  unfold State.observe
  rw [h]
  dsimp only
  rw [ho]

theorem State.observe_verify {e : Option Nat} {k : Fin 8} {p : Option CloseCause}
    (h : s.window? n = some (.verify m e k p)) : s.observe n o = s.closeNow n (.verify m e k p) cause := by
  unfold State.observe
  rw [h]
  dsimp only
  rw [ho]

theorem State.observe_commitWait {e : Option Nat} {k : Fin 8} {p : Option CloseCause}
    (h : s.window? n = some (.commitWait m e k p)) : s.observe n o = s.runAfterCommit n m e k p := by
  unfold State.observe
  rw [h]
  dsimp only
  rw [ho]

end closing

/-! ## Deadlines (R28, R29, R33) -/

theorem closingWith_eq (c : CloseCause) (p : Option CloseCause) :
    closingWith c p = if p = none then some c else p := by cases p <;> rfl

theorem State.reached?_some (s : State) (d : Nat) : s.reached? (some d) = true ↔ d ≤ s.time := by
  simp [State.reached?, State.reached]

/-- The settle deadline, once reached, is the settle evaluation of a quiet run (R28). -/
theorem exec_settleDeadline_of_reached {q : QuietRun} (hp : s.powered = true) (hw : s.window? n = some (.opening m l d))
    (hq : s.quietRun n = some q) (hd : q.settle ≤ s.time) : exec (.settleDeadline n) s =
      .next (if s.quietEnough q then s.settle n m l
        else s.setQuiet n (some { q with settle := q.since + milliseconds s.timing.settle })) := by
  have hdue : s.settleDue n = true := by
    simp [State.settleDue, hp, hw, hq, Window.isOpening, State.reached?_some, hd]
  have hexpiry : s.settleExpiry n = if s.quietEnough q then s.settle n m l
      else s.setQuiet n (some { q with settle := q.since + milliseconds s.timing.settle }) := by
    rw [State.settleExpiry, hw, hq]
  rw [← hexpiry]
  exact congrArg Host.Outcome.next (if_pos hdue)

theorem exec_openingDeadline_of_reached (hp : s.powered = true) (hw : s.window? n = some (.opening m l d))
    (hd : d ≤ s.time) : exec (.openingDeadline n) s = .next ((s.setWindow n .locked).post
      { kind := .windowFailed, time := s.time, controller := some n, reason := some (.window .notQuiet) }) := by
  have hdue : s.openingDue n = true := by
    simp [State.openingDue, hp, hw, Window.openingDeadline?, State.reached?_some, hd]
  rw [← State.postWindow_setWindow]
  exact congrArg Host.Outcome.next (if_pos hdue)

/-- The window deadline, once reached, closes the window or sets it to close, and becomes absent (R33). -/
theorem exec_windowDeadline_of_reached {w : Window} (hp : s.powered = true) (hw : s.window? n = some w)
    (hw' : w.deadline? = some d) (hd : d ≤ s.time) :
    exec (.windowDeadline n) s = .next (s.closeOrPend n w .expired fun _ => none) := by
  have hdue : s.windowDue n = true := by
    simp [State.windowDue, hp, hw, hw', State.reached?_some, hd]
  refine congrArg Host.Outcome.next ((if_pos hdue).trans ?_)
  rw [hw]

end windows

end Sys2Proof.Machine

open Sys2Proof Sys2Proof.Machine

/-- Settles O40: the rule of each observation in each window state, at a defined controller. -/
theorem observationsMoveTheWindow : Obligations.ObservationsMoveTheWindow := by
  intro s n c hc hsettle
  have hwindow : s.window? n = some c.window := State.window_of_controller hc
  have hrun := State.quietRun_of_controller hc
  refine ⟨fun hw => State.observe_shut ?_, fun m l d hw => ?_, fun o cause ho => ?_⟩
  · exact hw.imp (fun h => hwindow.trans (congrArg some h)) fun ⟨q, h⟩ => ⟨q, hwindow.trans (congrArg some h)⟩
  · have hopening : s.window? n = some (.opening m l d) := hwindow.trans (congrArg some hw)
    rw [State.observe_quiet_opening hopening, State.observeQuiet, hrun]
    refine ⟨fun hq => ?_, fun q hq hlt => ?_, fun q hq hle => ?_, fun o ho => ?_⟩
    · have hnot : ¬ s.quietEnough { since := s.time, settle := s.time + milliseconds s.timing.settle } = true := by
        rw [State.quietEnough_iff]
        dsimp only
        omega
      rw [hq]
      exact (if_neg hnot).trans (State.setQuiet_of_defined hc _)
    · have hnot : ¬ s.quietEnough q = true := by
        rw [State.quietEnough_iff]
        omega
      have hself : { c with monitor := { c.monitor with quiet := some q } } = c := by rw [← hq]
      rw [hq]
      refine (if_neg hnot).trans ((State.setQuiet_of_defined hc _).trans ?_)
      rw [Option.getD_some, hself]
      exact State.setController_self hc
    · rw [hq]
      exact (if_pos ((s.quietEnough_iff q).2 hle)).trans (State.settle_of_defined hc m l)
    · obtain rfl | rfl := ho
      · rw [State.observe_opening (cause := .running) rfl hopening, State.setQuiet_of_defined hc]
      · rw [State.observe_opening (cause := .stale) rfl hopening, State.setQuiet_of_defined hc]
  · have hcause : o.cause = some cause := by obtain ⟨rfl, rfl⟩ | ⟨rfl, rfl⟩ := ho <;> rfl
    refine ⟨fun m d hw => ?_, fun m k hw => ?_, fun m d k p hw => ?_⟩
    · rw [hw] at hwindow
      rw [State.observe_idle hwindow rfl rfl, State.observe_opened hcause hwindow]
      exact ⟨rfl, State.closeNow_unowned rfl cause⟩
    · obtain ⟨d, hw⟩ | ⟨d, p, hw⟩ := hw <;> rw [hw] at hwindow
      · rw [State.observe_idle hwindow rfl rfl, State.observe_transfer hcause hwindow]
        exact ⟨rfl, State.closeNow_owned rfl cause⟩
      · rw [State.observe_idle hwindow rfl rfl, State.observe_verify hcause hwindow]
        exact ⟨rfl, State.closeNow_owned rfl cause⟩
    · rw [hw] at hwindow
      rw [State.observe_idle hwindow rfl rfl, State.observe_commitWait hcause hwindow, State.runAfterCommit]
      exact ⟨rfl, fun hp => if_pos hp, fun hp => (if_neg hp).trans (State.postWindow_setWindow ..)⟩

/-- Settles O41: what each deadline does once it is reached, in the window state that has it. -/
theorem windowDeadlinesTakeEffect : Obligations.WindowDeadlinesTakeEffect := by
  intro s n c hp hc
  have hwindow : s.window? n = some c.window := State.window_of_controller hc
  have hrun := State.quietRun_of_controller hc
  refine ⟨fun m l d hw => ⟨fun q hq hreached => ⟨fun hle => ?_, fun hlt => ?_⟩, fun hd => ?_⟩, fun m d hw hd => ?_,
    fun m d k hw hd => ?_, fun m d k p hw hd => ?_, fun m d k p hw hd => ?_⟩ <;> rw [hw] at hwindow
  · rw [exec_settleDeadline_of_reached hp hwindow (hrun.trans hq) hreached, if_pos ((s.quietEnough_iff q).2 hle),
      State.settle_of_defined hc]
  · have hnot : ¬ s.quietEnough q = true := by
      rw [State.quietEnough_iff]
      omega
    rw [exec_settleDeadline_of_reached hp hwindow (hrun.trans hq) hreached, if_neg hnot, State.setQuiet_of_defined hc]
    rfl
  · rw [exec_openingDeadline_of_reached hp hwindow hd, State.setWindow_of_defined hc]
    rfl
  · rw [exec_windowDeadline_of_reached hp hwindow rfl hd, State.closeOrPend, State.closeNow_unowned rfl]
    rfl
  · rw [exec_windowDeadline_of_reached hp hwindow rfl hd, State.closeOrPend, State.closeNow_owned rfl]
    rfl
  · rw [exec_windowDeadline_of_reached hp hwindow rfl hd, State.closeOrPend, closingWith_eq]
  · rw [exec_windowDeadline_of_reached hp hwindow rfl hd, State.closeOrPend, closingWith_eq]
end

section
/-! PROOFS. Download requests at their slot, the answers of controllers, and the deadlines of a slot (O27, O28, O30, O31). -/

namespace Sys2Proof.Machine

section requests
variable {s : State} {f : Frame} {n : Fin 32} {k : Fin 8} {x : Transfer} {z : Sums} {p : Nat} {q : Intake}

/-! ## A request handed to its slot (R68) -/

/-- A download request that steps 2 and 3 hand to a slot is offered with what the Tracker makes of it (R46, R69). -/
theorem State.handToTracker_of_ok (hk : s.stepThree n f = .ok k) (o : Operation)
    (tracker : State → Fin 8 → State × Ending) :
    s.handToTracker n o f tracker = (tracker s k).1.offer n o f (tracker s k).2 := by
  rw [State.handToTracker, hk]

theorem exec_oxSegment_of_slot {t : State} {e : Ending} (h : s.takesRequest .segment f n) (hk : s.stepThree n f = .ok k)
    (ht : s.segmentAt n k f = (t, e)) : exec (.oxSegment f) s = .next (t.offer n .segment f e) := by
  refine (exec_requestInstr_taken h).trans ?_
  rw [State.requestEffect, State.handToTracker_of_ok hk, ht]

theorem exec_oxCommit_of_slot {t : State} {e : Ending} (h : s.takesRequest .commit f n) (hk : s.stepThree n f = .ok k)
    (ht : s.commitAt n k f = (t, e)) : exec (.oxCommit f) s = .next (t.offer n .commit f e) := by
  refine (exec_requestInstr_taken h).trans ?_
  rw [State.requestEffect, State.handToTracker_of_ok hk, ht]

theorem exec_oxAbandon_of_slot {t : State} {e : Ending} (h : s.takesRequest .abandon f n) (hk : s.stepThree n f = .ok k)
    (ht : s.abandonAt n k f = (t, e)) : exec (.oxAbandon f) s = .next (t.offer n .abandon f e) := by
  refine (exec_requestInstr_taken h).trans ?_
  rw [State.requestEffect, State.handToTracker_of_ok hk, ht]

/-! ## SEGMENT (R73 to R76) -/

theorem State.segmentAt_taking (hs : s.slot k = .taking x z p q) :
    s.segmentAt n k f = s.sequenceSegment n k x z p q f := by
  rw [State.segmentAt, hs]

theorem State.sequenceSegment_expected (h : (oxHeader f.payload).number = q.expected) :
    s.sequenceSegment n k x z p q f = s.newSegment n k x z p q f := if_pos h

theorem State.sequenceSegment_repeated (h : (oxHeader f.payload).number ≠ q.expected)
    (hl : q.last = some (oxHeader f.payload).number) : s.sequenceSegment n k x z p q f =
      ((s.forward .line f).setSlot k (.taking x z p { q with idle := s.idleDeadline }), .pass) :=
  (if_neg h).trans (if_pos hl)

theorem State.sequenceSegment_outOfSequence (h : (oxHeader f.payload).number ≠ q.expected)
    (hl : q.last ≠ some (oxHeader f.payload).number) :
    s.sequenceSegment n k x z p q f = (s.refuseAndAbort n k .segment f .sequence, .refused .sequence) :=
  (if_neg h).trans (if_neg hl)

theorem State.newSegment_tooLong (h : x.declared < x.words + (oxHeader f.payload).words) :
    s.newSegment n k x z p q f = (s.refuseAndAbort n k .segment f .length, .refused .length) := if_pos h

theorem State.newSegment_dropped (h : x.words + (oxHeader f.payload).words ≤ x.declared) (hfull : 16 ≤ s.segmentsHeld) :
    s.newSegment n k x z p q f = (s.countSegmentDrop, .dropped) :=
  (if_neg (Nat.not_lt_of_le h)).trans (if_pos (decide_eq_true hfull))

theorem State.newSegment_accepted (h : x.words + (oxHeader f.payload).words ≤ x.declared) (hroom : s.segmentsHeld < 16) :
    s.newSegment n k x z p q f = (((s.forward .line f).setSlot k
      (.taking { x with words := x.words + (oxHeader f.payload).words } z (p + 1)
        { q with
          expected := nextNumber (oxHeader f.payload).number, last := some (oxHeader f.payload).number
          idle := s.idleDeadline })).appendSegment
      { slot := k, number := (oxHeader f.payload).number, words := oxWords f.payload }, .pass) := by
  have hnot : ¬ s.segmentQueueFull = true := by
    rw [State.segmentQueueFull, decide_eq_true_iff]
    exact Nat.not_le_of_lt hroom
  exact (if_neg (Nat.not_lt_of_le h)).trans (if_neg hnot)

/-- In VERIFYING and RELEASED a SEGMENT is refused SEQUENCE and its slot is unchanged (R82, R85). -/
theorem State.segmentAt_notTaking (h : ∀ x z p q, s.slot k ≠ .taking x z p q) :
    s.segmentAt n k f = (s.refuse (some n) .segment f .sequence, .refused .sequence) := by
  unfold State.segmentAt
  split
  · exact absurd ‹_› (h _ _ _ _)
  · rfl

/-! ## COMMIT and ABANDON (R78, R82, R85, R86) -/

theorem State.commitAt_held (hs : s.slot k = .taking x z p q) (hw : x.words = x.declared)
    (hd : (oxHeader f.payload).declared = x.declared) : s.commitAt n k f =
      (if p = 0 then ((s.setSlot k (.verifying x z p f)).commitHeld n).completeVerifying k
        else (s.setSlot k (.verifying x z p f)).commitHeld n, .held) := by
  rw [State.commitAt, hs]
  exact if_pos ⟨hw, hd⟩

theorem State.commitAt_length (hs : s.slot k = .taking x z p q)
    (h : x.words ≠ x.declared ∨ (oxHeader f.payload).declared ≠ x.declared) :
    s.commitAt n k f = (s.refuseAndAbort n k .commit f .length, .refused .length) := by
  rw [State.commitAt, hs]
  exact if_neg fun ⟨hw, hd⟩ => h.elim (· hw) (· hd)

theorem State.commitAt_verifying {g : Frame} (hs : s.slot k = .verifying x z p g) :
    s.commitAt n k f = (s, .dropped) := by rw [State.commitAt, hs]

theorem State.commitAt_released {d : Nat} (hs : s.slot k = .released x d) :
    s.commitAt n k f = (s.forward .line f, .pass) := by rw [State.commitAt, hs]

theorem State.abandonAt_abortable (hx : (s.slot k).abortable = some x) :
    s.abandonAt n k f = (((s.forward .line f).abort k false none none).transferEnded n false, .pass) := by
  rw [State.abandonAt, hx]

theorem State.abandonAt_released {d : Nat} (hs : s.slot k = .released x d) :
    s.abandonAt n k f = (s.forward .line f, .pass) := by
  rw [State.abandonAt, hs]
  rfl

end requests

/-! ## The slot of an answer (R70) -/

section answers
variable {s : State} {f : Frame} {n : Fin 32} {k : Fin 8}

theorem Slot.awaitsBegin_iff (x : Slot) : x.awaitsBegin n f = true ↔ ∃ y z p q, x = .taking y z p q ∧ q.answer ≠ none
    ∧ y.controller = n ∧ y.requester = f.dst ∧ y.tid = (oxHeader f.payload).tid := by
  cases x with
  | taking y z p q => simp [Slot.awaitsBegin, Option.isSome_iff_ne_none, and_assoc]
  | _ => simp [Slot.awaitsBegin]

theorem Slot.awaitsCommit_iff (x : Slot) : x.awaitsCommit n f = true ↔ ∃ y d, x = .released y d
    ∧ y.controller = n ∧ y.requester = f.dst ∧ y.tid = (oxHeader f.payload).tid := by
  cases x with
  | released y d => simp [Slot.awaitsCommit, and_assoc]
  | _ => simp [Slot.awaitsCommit]

theorem State.released_of_commitSlot (h : s.commitSlot n f = some k) : ∃ x d, s.slot k = .released x d
    ∧ x.controller = n ∧ x.requester = f.dst ∧ x.tid = (oxHeader f.payload).tid :=
  (Slot.awaitsCommit_iff _).1 (List.find?_some (p := fun k => (s.slot k).awaitsCommit n f) h)

theorem State.not_awaitsBegin (h : s.beginSlot n f = none) (k : Fin 8) : ¬ (s.slot k).awaitsBegin n f = true :=
  List.find?_eq_none.1 h k (List.mem_finRange k)

theorem State.not_awaitsCommit (h : s.commitSlot n f = none) (k : Fin 8) : ¬ (s.slot k).awaitsCommit n f = true :=
  List.find?_eq_none.1 h k (List.mem_finRange k)

/-- Where no two live slots name one controller, a slot that awaits the answer is the one it matches. -/
theorem State.beginSlot_of_awaits (hs : s.OwnersGood) (h : (s.slot k).awaitsBegin n f = true) :
    s.beginSlot n f = some k := by
  obtain ⟨x, z, p, q, hk, -, hx, -⟩ := (Slot.awaitsBegin_iff _).1 h
  obtain ⟨-, -, hone⟩ := hs
  cases hj : s.beginSlot n f with
  | none => exact absurd h (State.not_awaitsBegin hj k)
  | some j =>
    obtain ⟨y, z', p', q', hj', -, hy, -⟩ := State.taking_of_beginSlot hj
    rw [hone j k y (by rw [hj']; rfl) x (by rw [hk]; rfl) (hy.trans hx.symm)]

theorem State.commitSlot_of_awaits (hs : s.OwnersGood) (h : (s.slot k).awaitsCommit n f = true) :
    s.commitSlot n f = some k := by
  obtain ⟨x, d, hk, hx, -⟩ := (Slot.awaitsCommit_iff _).1 h
  obtain ⟨-, -, hone⟩ := hs
  cases hj : s.commitSlot n f with
  | none => exact absurd h (State.not_awaitsCommit hj k)
  | some j =>
    obtain ⟨y, d', hj', hy, -⟩ := State.released_of_commitSlot hj
    rw [hone j k y (by rw [hj']; rfl) x (by rw [hk]; rfl) (hy.trans hx.symm)]

/-! ## What an answer does (R71, R84) -/

theorem exec_beginResponse_of_slot (hn : s.protectedBy f.src = some n) (hr : s.rowOf .line f = .beginResponse)
    (hk : s.beginSlot n f = some k) : exec (.beginResponse f) s =
      .next ((s.takeBeginResponse n k (oxHeader f.payload).status).forward .plant f) := by
  refine congrArg Host.Outcome.next ((if_pos hr).trans ?_)
  dsimp only
  rw [hn]
  dsimp only
  rw [hk]

theorem exec_commitResponse_of_slot (hn : s.protectedBy f.src = some n) (hr : s.rowOf .line f = .commitResponse)
    (hk : s.commitSlot n f = some k) : exec (.commitResponse f) s =
      .next ((s.takeCommitResponse k (oxHeader f.payload).status).forward .plant f) := by
  refine congrArg Host.Outcome.next ((if_pos hr).trans ?_)
  dsimp only
  rw [hn]
  dsimp only
  rw [hk]

theorem State.takeBeginResponse_ok {x : Transfer} {z : Sums} {p : Nat} {q : Intake} (hs : s.slot k = .taking x z p q)
    {v : Nat} (hv : v = 0) : s.takeBeginResponse n k v = s.setSlot k (.taking x z p { q with answer := none }) := by
  refine (if_pos hv).trans ?_
  rw [hs]

theorem State.takeBeginResponse_refused {v : Nat} (hv : v ≠ 0) :
    s.takeBeginResponse n k v = (s.abort k false none (some (BitVec.ofNat 32 v))).transferEnded n false := if_neg hv

theorem State.takeCommitResponse_ok {v : Nat} (hv : v = 0) : s.takeCommitResponse k v = s.endReleased k none := if_pos hv

theorem State.takeCommitResponse_failed {v : Nat} (hv : v ≠ 0) : s.takeCommitResponse k v =
    s.endReleased k (some (.commitFailed, some (BitVec.ofNat 32 v))) := if_neg hv

theorem State.endReleased_silent {x : Transfer} {d : Nat} (hs : s.slot k = .released x d) :
    s.endReleased k none = (s.setSlot k .free).transferEnded x.controller true := by
  rw [State.endReleased, hs]

theorem State.endReleased_notice {x : Transfer} {d : Nat} (hs : s.slot k = .released x d) (kind : NoticeKind)
    (v : Option Quad) : s.endReleased k (some (kind, v)) = ((s.setSlot k .free).post
      { kind := kind, time := s.time, controller := some x.controller, station := some x.requester
        object := some (x.cls, x.idx), tid := some x.tid, first := v }).transferEnded x.controller true := by
  rw [State.endReleased, hs]
  rfl

end answers

/-! ## The deadlines of a slot (R72, R77, R84) -/

section deadlines
variable {s : State} {k : Fin 8} {x : Transfer}

theorem State.timeoutSlot_of_abortable (hx : (s.slot k).abortable = some x) :
    s.timeoutSlot k = (s.abort k true (some .timeout) none).transferEnded x.controller false := by
  rw [State.timeoutSlot, hx]

theorem exec_idleDeadline_of_due (h : s.idleDue k = true) : exec (.idleDeadline k) s = .next (s.timeoutSlot k) :=
  congrArg Host.Outcome.next (if_pos h)

theorem exec_beginResponseDeadline_of_due (h : s.beginResponseDue k = true) :
    exec (.beginResponseDeadline k) s = .next (s.timeoutSlot k) := congrArg Host.Outcome.next (if_pos h)

theorem exec_commitResponseDeadline_of_due (h : s.commitResponseDue k = true) : exec (.commitResponseDeadline k) s =
    .next (s.endReleased k (some (.commitUnconfirmed, none))) := congrArg Host.Outcome.next (if_pos h)

end deadlines

end Sys2Proof.Machine

open Sys2Proof Sys2Proof.Machine

/-- Settles O27: the branch a SEGMENT takes by its number, its length and the room in the queue. -/
theorem segmentsAreSequenced : Obligations.SegmentsAreSequenced := by
  intro s f n k h hk
  refine ⟨fun x z p q hs => ⟨fun hnumber => ⟨fun hlong => ?_, fun hfits => ⟨fun hfull => ?_, fun hroom => ?_⟩⟩,
    fun hnumber => ⟨fun hlast => ?_, fun hlast => ?_⟩⟩, fun hs => ?_⟩
  · exact exec_oxSegment_of_slot h hk ((State.segmentAt_taking hs).trans
      ((State.sequenceSegment_expected hnumber).trans (State.newSegment_tooLong hlong)))
  · exact exec_oxSegment_of_slot h hk ((State.segmentAt_taking hs).trans
      ((State.sequenceSegment_expected hnumber).trans (State.newSegment_dropped hfits hfull)))
  · exact exec_oxSegment_of_slot h hk ((State.segmentAt_taking hs).trans
      ((State.sequenceSegment_expected hnumber).trans (State.newSegment_accepted hfits hroom)))
  · exact exec_oxSegment_of_slot h hk ((State.segmentAt_taking hs).trans (State.sequenceSegment_repeated hnumber hlast))
  · exact exec_oxSegment_of_slot h hk
      ((State.segmentAt_taking hs).trans (State.sequenceSegment_outOfSequence hnumber hlast))
  · exact exec_oxSegment_of_slot h hk (State.segmentAt_notTaking hs)

/-- Settles O28: the branch a COMMIT or an ABANDON takes by the phase of its slot. -/
theorem commitsAndAbandonsReachTheirSlot : Obligations.CommitsAndAbandonsReachTheirSlot := by
  refine ⟨fun s f n k h hk => ⟨fun x z p q hs => ⟨fun hw hd => ⟨fun hp => ?_, fun hp => ?_⟩, fun hlength => ?_⟩,
    fun x z p g hs => ?_, fun x d hs => ?_⟩, fun s f n k h hk => ⟨fun x hx => ?_, fun x d hs => ?_⟩⟩
  · exact exec_oxCommit_of_slot h hk ((State.commitAt_held hs hw hd).trans (by rw [if_neg hp]))
  · subst hp
    exact exec_oxCommit_of_slot h hk ((State.commitAt_held hs hw hd).trans (by rw [if_pos rfl]))
  · exact exec_oxCommit_of_slot h hk (State.commitAt_length hs hlength)
  · exact exec_oxCommit_of_slot h hk (State.commitAt_verifying hs)
  · exact exec_oxCommit_of_slot h hk (State.commitAt_released hs)
  · exact exec_oxAbandon_of_slot h hk (State.abandonAt_abortable hx)
  · exact exec_oxAbandon_of_slot h hk (State.abandonAt_released hs)

/-- Settles O30: the slots that await an answer, and what each status does to the one it matches. -/
theorem controllerResponsesReachTheirSlot : Obligations.ControllerResponsesReachTheirSlot := by
  refine ⟨fun s n f => ⟨fun k => State.taking_of_beginSlot, fun hnone k x z p q hs ha hc hr ht => ?_,
    fun k => State.released_of_commitSlot, fun hnone k x d hs hc hr ht => ?_, fun hs => ⟨fun k x z p q hk ha hc hr ht => ?_,
      fun k x d hk hc hr ht => ?_⟩⟩, fun s f n k hn => ⟨fun x z p q hrow hk hs => ⟨fun hok => ?_, fun hbad => ?_⟩,
        fun x d hrow hk hs => ⟨fun hok => ?_, fun hbad => ?_⟩⟩⟩
  · exact State.not_awaitsBegin hnone k ((Slot.awaitsBegin_iff _).2 ⟨x, z, p, q, hs, ha, hc, hr, ht⟩)
  · exact State.not_awaitsCommit hnone k ((Slot.awaitsCommit_iff _).2 ⟨x, d, hs, hc, hr, ht⟩)
  · exact State.beginSlot_of_awaits hs ((Slot.awaitsBegin_iff _).2 ⟨x, z, p, q, hk, ha, hc, hr, ht⟩)
  · exact State.commitSlot_of_awaits hs ((Slot.awaitsCommit_iff _).2 ⟨x, d, hk, hc, hr, ht⟩)
  · rw [exec_beginResponse_of_slot hn hrow hk, State.takeBeginResponse_ok hs hok]
  · rw [exec_beginResponse_of_slot hn hrow hk, State.takeBeginResponse_refused hbad]
  · rw [exec_commitResponse_of_slot hn hrow hk, State.takeCommitResponse_ok hok, State.endReleased_silent hs]
  · rw [exec_commitResponse_of_slot hn hrow hk, State.takeCommitResponse_failed hbad, State.endReleased_notice hs]

/-- Settles O31: each deadline, once reached, ends the slot that has it. -/
theorem slotDeadlinesEndTheirTransfer : Obligations.SlotDeadlinesEndTheirTransfer := by
  intro s k hp
  refine ⟨fun x z p q hs => ⟨fun hidle => ?_, fun d ha hd => ?_⟩, fun x d hs hd => ?_⟩
  · have hdue : s.idleDue k = true := by simp [State.idleDue, hp, hs, Slot.idleDeadline?, State.reached?_some, hidle]
    rw [exec_idleDeadline_of_due hdue, State.timeoutSlot_of_abortable (by rw [hs]; rfl)]
  · have hdue : s.beginResponseDue k = true := by
      simp [State.beginResponseDue, hp, hs, Slot.abortable, Slot.responseDeadline?, ha, State.reached?_some, hd]
    rw [exec_beginResponseDeadline_of_due hdue, State.timeoutSlot_of_abortable (by rw [hs]; rfl)]
  · have hdue : s.commitResponseDue k = true := by
      simp [State.commitResponseDue, hp, hs, Slot.abortable, Slot.responseDeadline?, State.reached?_some, hd]
    rw [exec_commitResponseDeadline_of_due hdue, State.endReleased_notice hs]
end

section
/-! PROOFS. The commands on windows (O56, O57). -/

namespace Sys2Proof.Machine

section commands
variable {s : State} {n : Fin 32} {c : Controller} {args : List Byte}

/-! ## A command that names a controller -/

theorem State.forController_outOfRange (h : 31 < fieldAt args 0 1) (body : Fin 32 → Controller → State × Reply) :
    s.forController args body = (s, { status := .outOfRange }) := by
  rw [State.forController, controllerOf_of_lt h]
  rfl

theorem State.forController_notFound (hn : fieldAt args 0 1 = n) (hc : s.controller n = none)
    (body : Fin 32 → Controller → State × Reply) : s.forController args body = (s, { status := .notFound }) := by
  rw [State.forController, hn, controllerOf_val]
  dsimp only
  rw [hc]
  rfl

theorem State.forController_of_defined (hn : fieldAt args 0 1 = n) (hc : s.controller n = some c)
    (body : Fin 32 → Controller → State × Reply) : s.forController args body = body n c := by
  rw [State.forController, hn, controllerOf_val]
  dsimp only
  rw [hc]

/-- A controller is defined when it has a window state. -/
theorem State.controller_of_window {w : Window} (h : s.window? n = some w) :
    ∃ c, s.controller n = some c ∧ c.window = w := by
  rwa [State.window?, Option.map_eq_some_iff] at h

theorem State.controller_eq_none_of_window (h : s.window? n = none) : s.controller n = none := by
  rwa [State.window?, Option.map_eq_none_iff] at h

/-! ## CLOSE-WINDOW, QUARANTINE and RELEASE (R32, R38 to R40) -/

theorem State.doCloseWindow_of_defined (hn : fieldAt args 0 1 = n) (hc : s.controller n = some c) :
    s.doCloseWindow args = (s.closeOrPend n c.window .command id, { status := .ok }) :=
  State.forController_of_defined hn hc _

theorem State.doQuarantine_already (hn : fieldAt args 0 1 = n) (hc : s.controller n = some c)
    (hq : c.window.isQuarantined = true) : s.doQuarantine args = (s, { status := .already }) :=
  (State.forController_of_defined hn hc _).trans (if_pos hq)

theorem State.doQuarantine_enters (hn : fieldAt args 0 1 = n) (hc : s.controller n = some c)
    (hq : c.window.isQuarantined = false) :
    s.doQuarantine args = ((s.enterQuarantine n .manual).cancelRoundOf n, { status := .ok }) :=
  (State.forController_of_defined hn hc _).trans (if_neg (by rw [hq]; exact Bool.false_ne_true))

theorem State.doRelease_of_quarantined {q : QuarantineCause} (hn : fieldAt args 0 1 = n) (hc : s.controller n = some c)
    (hq : c.window = .quarantined q) : s.doRelease args =
      if s.releasedSlotNames n then (s, { status := .busy })
      else ((s.setWindow n .locked).post
        { kind := .released, time := s.time, controller := some n, reason := some (.quarantine q) }, { status := .ok }) := by
  refine (State.forController_of_defined hn hc _).trans ?_
  dsimp only
  rw [hq]
  rfl

theorem State.doRelease_state (hn : fieldAt args 0 1 = n) (hc : s.controller n = some c)
    (hq : ∀ q, c.window ≠ .quarantined q) : s.doRelease args = (s, { status := .state }) := by
  refine (State.forController_of_defined hn hc _).trans ?_
  dsimp only
  split
  · exact absurd ‹_› (hq _)
  · rfl

/-- A RELEASED slot names the controller (R38, R40). -/
theorem State.releasedSlotNames_iff (s : State) (n : Fin 32) :
    s.releasedSlotNames n = true ↔ ∃ k x d, s.slot k = .released x d ∧ x.controller = n := by
  rw [State.releasedSlotNames, List.any_eq_true]
  constructor
  · rintro ⟨y, hy, hn⟩
    obtain ⟨i, hi, rfl⟩ := List.getElem_of_mem hy
    split at hn
    · rename_i x d hs
      exact ⟨⟨i, by simpa using hi⟩, x, d, by simpa [State.slot] using hs, by simpa using hn⟩
    · cases hn
  · rintro ⟨k, x, d, hk, hn⟩
    refine ⟨s.slot k, by simp [State.slot], ?_⟩
    rw [hk]
    simpa using hn

/-! ## OPEN-WINDOW (R26, R27) -/

section opening
variable {m : WindowMode}

theorem State.doOpenWindow_outOfRange (h : 31 < fieldAt args 0 1 ∨ WindowMode.ofCode (fieldAt args 3 1) = none) :
    s.doOpenWindow args = (s, { status := .outOfRange }) := by
  unfold State.doOpenWindow
  obtain h | h := h
  · rw [controllerOf_of_lt h]
    rfl
  · rw [h]
    split
    · cases ‹none = some _›
    · rfl

theorem State.doOpenWindow_of_undefined (hn : fieldAt args 0 1 = n) (hm : WindowMode.ofCode (fieldAt args 3 1) = some m)
    (hc : s.controller n = none) : s.doOpenWindow args = (s, { status := .notFound }) := by
  rw [State.doOpenWindow, hn, controllerOf_val, hm]
  dsimp only
  rw [hc]
  rfl

variable (hn : fieldAt args 0 1 = n) (hm : WindowMode.ofCode (fieldAt args 3 1) = some m)
  (hc : s.controller n = some c)
include hn hm hc

theorem State.doOpenWindow_already (hw : c.window ≠ .locked) (hq : ∀ q, c.window ≠ .quarantined q) :
    s.doOpenWindow args = (s, { status := .already }) := by
  rw [State.doOpenWindow, hn, controllerOf_val, hm]
  dsimp only
  rw [hc]
  dsimp only
  cases h : c.window with
  | locked => exact absurd h hw
  | quarantined q => exact absurd h (hq q)
  | _ => rfl

theorem State.doOpenWindow_quarantined {q : QuarantineCause} (hq : c.window = .quarantined q) :
    s.doOpenWindow args = (s, { status := .state }) := by
  rw [State.doOpenWindow, hn, controllerOf_val, hm]
  dsimp only
  rw [hc]
  dsimp only
  rw [hq]
  rfl

theorem State.doOpenWindow_limited {retry : Nat} (hw : c.window = .locked) (hr : s.rateRefusal = some retry) :
    s.doOpenWindow args = (s.post
      { kind := .rateLimited, time := s.time, controller := some n, first := some (upperHalf retry)
        second := some (lowerHalf retry) }, { status := .rate, results := bytesOf 8 retry }) := by
  rw [State.doOpenWindow, hn, controllerOf_val, hm]
  dsimp only
  rw [hc]
  dsimp only
  rw [hw]
  dsimp only
  rw [hr]
  rfl

theorem State.doOpenWindow_accepted (hw : c.window = .locked) (hr : s.rateRefusal = none) : s.doOpenWindow args =
    ((s.acceptOpening n m (fieldAt args 1 2)).cancelRoundOf n,
      if fieldAt args 1 2 ≠ 0 ∧ s.windowLength (fieldAt args 1 2) ≠ fieldAt args 1 2 then
        { status := .clamped, results := bytesOf 2 (s.windowLength (fieldAt args 1 2)) }
      else { status := .ok }) := by
  rw [State.doOpenWindow, hn, controllerOf_val, hm]
  dsimp only
  rw [hc]
  dsimp only
  rw [hw]
  dsimp only
  rw [hr]

end opening

/-- An accepted opening of a defined controller, in plain data (R26). -/
theorem State.acceptOpening_of_defined (hc : s.controller n = some c) (m : WindowMode) (a : Nat) :
    s.acceptOpening n m a = s.recordOpening.setController n (some
      { c with window := .opening m (s.windowLength a) (s.time + s.timing.opening * 1000000) }) :=
  State.setWindow_of_defined (s := s.recordOpening) hc _

end commands

end Sys2Proof.Machine

open Sys2Proof Sys2Proof.Machine

/-- Settles O56: the cases of OPEN-WINDOW in their order. -/
theorem openWindowDecidesInOrder : Obligations.OpenWindowDecidesInOrder := by
  intro s p f h
  have hbody : ∀ {t r}, s.doOpenWindow (argumentBytes f.payload) = (t, r) →
      exec (.openWindow p f) s = .next (t.reply f .reply r) := fun hb => exec_managementInstr_body h nofun hb
  refine ⟨fun hout => hbody (State.doOpenWindow_outOfRange hout), fun n m hn hm => ⟨fun hc => ?_, fun w hw hl hq => ?_,
    fun q hw => ?_, fun c hc hl => ⟨fun retry hr => ?_, fun hr length hlength => ?_⟩⟩⟩
  · exact hbody (State.doOpenWindow_of_undefined hn hm hc)
  · obtain ⟨c, hc, rfl⟩ := State.controller_of_window hw
    exact hbody (State.doOpenWindow_already hn hm hc hl hq)
  · obtain ⟨c, hc, hw⟩ := State.controller_of_window hw
    exact hbody (State.doOpenWindow_quarantined hn hm hc hw)
  · exact hbody (State.doOpenWindow_limited hn hm hc hl hr)
  · have hlen : s.windowLength (fieldAt (argumentBytes f.payload) 1 2) = length := hlength.symm
    rw [hbody (State.doOpenWindow_accepted hn hm hc hl hr), State.acceptOpening_of_defined hc, hlen]
    rfl

/-- Settles O57: the three commands by the number they name, then by its window state. -/
theorem windowsCloseAndQuarantine : Obligations.WindowsCloseAndQuarantine := by
  intro s p f c hc h
  have hne : c ≠ .restart := by obtain rfl | rfl | rfl := hc <;> nofun
  have hbody : ∀ {t r}, s.commandBody c f = (t, r) → exec (managementInstr c p f) s = .next (t.reply f .reply r) :=
    fun hb => exec_managementInstr_body h hne hb
  refine ⟨fun hout => hbody ?_, fun n hn => ⟨fun hw => hbody ?_, fun w hw => ?_⟩⟩
  · obtain rfl | rfl | rfl := hc <;> exact State.forController_outOfRange hout _
  · obtain rfl | rfl | rfl := hc <;> exact State.forController_notFound hn (State.controller_eq_none_of_window hw) _
  obtain ⟨a, ha, rfl⟩ := State.controller_of_window hw
  refine ⟨?_, ?_, ?_⟩
  · rintro rfl
    rw [hbody (State.doCloseWindow_of_defined hn ha)]
    cases a.window with
    | locked => rfl
    | quarantined q => rfl
    | opening m l d => rw [State.closeOrPend, State.closeNow_unowned rfl]; rfl
    | opened m d => rw [State.closeOrPend, State.closeNow_unowned rfl]; rfl
    | transfer m d k => rw [State.closeOrPend, State.closeNow_owned rfl]; rfl
    | verify m d k x => rw [State.closeOrPend, closingWith_eq]; rfl
    | commitWait m d k x => rw [State.closeOrPend, closingWith_eq]; rfl
  · rintro rfl
    refine ⟨fun q hq => hbody (State.doQuarantine_already hn ha (by rw [hq]; rfl)), fun hq => ?_⟩
    have hnot : a.window.isQuarantined = false := by
      cases hw : a.window with
      | quarantined q => exact absurd hw (hq q)
      | _ => rfl
    rw [hbody (State.doQuarantine_enters hn ha hnot)]
    cases hw' : a.window with
    | transfer m d k => rw [State.enterQuarantine_owned hw (k := k) (by rw [hw']; rfl)]
    | verify m d k x => rw [State.enterQuarantine_owned hw (k := k) (by rw [hw']; rfl)]
    | _ => rw [State.enterQuarantine_unowned hw (by rw [hw']; rfl) hnot]
  · rintro rfl
    refine ⟨fun hq => hbody (State.doRelease_state hn ha hq), fun q hq => ⟨fun hex => hbody ?_, fun hno => hbody ?_⟩⟩
    · exact (State.doRelease_of_quarantined hn ha hq).trans (if_pos ((s.releasedSlotNames_iff n).2 hex))
    · refine (State.doRelease_of_quarantined hn ha hq).trans (if_neg fun hnames => ?_)
      obtain ⟨k, x, d, hk, hx⟩ := (s.releasedSlotNames_iff n).1 hnames
      exact hno k x d hk hx
end

section
/-! PROOFS. The record a round goes on to, and the answers to the filter's own requests (O44). -/

namespace Sys2Proof.Machine

/-! ## The first entry of a numbered list (R123) -/

/-- The first entry of a list that a condition on the entry and its place holds for. -/
theorem find_zipIdx_eq_some_iff {α : Type} (q : α × Nat → Bool) (l : List α) (a : α) (i : Nat) :
    l.zipIdx.find? q = some (a, i) ↔
      l[i]? = some a ∧ q (a, i) = true ∧ ∀ j < i, ∀ b, l[j]? = some b → q (b, j) = false := by
  rw [List.find?_eq_some_iff_getElem]
  constructor
  · rintro ⟨hq, k, hk, hget, hbelow⟩
    rw [List.length_zipIdx] at hk
    obtain ⟨rfl, rfl⟩ : l[k] = a ∧ k = i := by simpa using hget
    refine ⟨List.getElem?_eq_getElem hk, hq, fun j hj b hb => ?_⟩
    obtain ⟨hlt, rfl⟩ := List.getElem?_eq_some_iff.1 hb
    simpa using hbelow j hj
  · rintro ⟨ha, hq, hbelow⟩
    obtain ⟨hi, rfl⟩ := List.getElem?_eq_some_iff.1 ha
    refine ⟨hq, i, by simpa using hi, by simp, fun j hj => ?_⟩
    have hj' : j < l.length := Nat.lt_trans hj hi
    simpa using hbelow j hj _ (List.getElem?_eq_getElem hj')

section approved
variable {s : State} {n : Fin 32} {lowest i : Nat} {r : ImageRecord}

/-- The record at a position counts for a round that goes on at a place (R123). -/
def countsFrom (n : Fin 32) (lowest : Nat) (x : Option ImageRecord × Nat) : Bool :=
  decide (lowest ≤ x.2) && x.1.any (fun r => r.controller == n && r.isApproved)

theorem countsFrom_some : countsFrom n lowest (some r, i) = true ↔
    lowest ≤ i ∧ r.controller = n ∧ r.status = .approved := by
  simp [countsFrom, ImageRecord.isApproved]

theorem State.approvedFrom_eq_some_iff_find : s.approvedFrom n lowest = some (i, r) ↔
    s.active.images.toList.zipIdx.find? (countsFrom n lowest) = some (some r, i) := by
  have hdef : s.approvedFrom n lowest = match s.active.images.toList.zipIdx.find? (countsFrom n lowest) with
      | some (some r, i) => some (i, r)
      | _ => none := rfl
  rw [hdef]
  split <;> rename_i h
  · rw [h]
    simp [and_comm]
  · refine ⟨nofun, fun hsome => absurd hsome (h r i)⟩

/-- The lowest position that counts is the one a round goes on to (R123). -/
theorem State.approvedFrom_eq_some_iff : s.approvedFrom n lowest = some (i, r) ↔
    lowest ≤ i ∧ s.active.images[i]? = some (some r) ∧ r.controller = n ∧ r.status = .approved
      ∧ ∀ j, lowest ≤ j → j < i → ∀ x, s.active.images[j]? = some (some x) → x.controller = n → x.status ≠ .approved := by
  rw [State.approvedFrom_eq_some_iff_find, find_zipIdx_eq_some_iff, countsFrom_some, Vector.getElem?_toList]
  constructor
  · rintro ⟨hi, ⟨hle, hn, ha⟩, hbelow⟩
    refine ⟨hle, hi, hn, ha, fun j hlj hji x hx hxn hxa => ?_⟩
    have hnot := hbelow j hji (some x) (by rw [Vector.getElem?_toList]; exact hx)
    rw [countsFrom_some.2 ⟨hlj, hxn, hxa⟩] at hnot
    cases hnot
  · rintro ⟨hle, hi, hn, ha, hbelow⟩
    refine ⟨hi, ⟨hle, hn, ha⟩, fun j hj b hb => ?_⟩
    rw [Vector.getElem?_toList] at hb
    cases b with
    | none => simp [countsFrom]
    | some x =>
      rw [Bool.eq_false_iff]
      intro hcounts
      obtain ⟨hlj, hxn, hxa⟩ := countsFrom_some.1 hcounts
      exact hbelow j hlj hj x hb hxn hxa

theorem State.approvedFrom_eq_none_iff : s.approvedFrom n lowest = none ↔
    ∀ (j : Nat) (x : ImageRecord), lowest ≤ j → s.active.images[j]? = some (some x) → x.controller = n →
      x.status ≠ .approved := by
  have hfind : s.approvedFrom n lowest = none ↔
      s.active.images.toList.zipIdx.find? (countsFrom n lowest) = none := by
    cases hf : s.active.images.toList.zipIdx.find? (countsFrom n lowest) with
    | none =>
      refine iff_of_true ?_ rfl
      cases ha : s.approvedFrom n lowest with
      | none => rfl
      | some y => cases hf.symm.trans ((State.approvedFrom_eq_some_iff_find (i := y.1) (r := y.2)).1 ha)
    | some y =>
      obtain ⟨o, j⟩ := y
      obtain ⟨x, rfl⟩ : ∃ x, o = some x := by
        have hcounts := List.find?_some hf
        cases o with
        | none => simp [countsFrom] at hcounts
        | some x => exact ⟨x, rfl⟩
      rw [State.approvedFrom_eq_some_iff_find.2 hf]
      simp
  rw [hfind, List.find?_eq_none]
  constructor
  · intro h j x hlj hx hxn hxa
    refine h (some x, j) ?_ (countsFrom_some.2 ⟨hlj, hxn, hxa⟩)
    rw [List.mem_zipIdx_iff_getElem?, Vector.getElem?_toList]
    exact hx
  · rintro h ⟨o, j⟩ hmem hcounts
    rw [List.mem_zipIdx_iff_getElem?, Vector.getElem?_toList] at hmem
    cases o with
    | none => simp [countsFrom] at hcounts
    | some x =>
      obtain ⟨hlj, hxn, hxa⟩ := countsFrom_some.1 hcounts
      exact h j x hlj hmem hxn hxa

end approved

/-! ## Answers and misses (R125 to R128) -/

section answers
variable {s : State} {f : Frame} {r : Round} {i : ImageRecord}

theorem State.roundRecord_of (hi : s.active.images[r.position]? = some (some i)) : s.roundRecord r = some i := by
  rw [State.roundRecord, hi]
  rfl

theorem State.answersRound_iff (hi : s.active.images[r.position]? = some (some i)) :
    s.answersRound (s.protectedBy f.src) f r = true ↔ s.protectedBy f.src = some r.controller
      ∧ (oxHeader f.payload).tag = r.tag ∧ (oxHeader f.payload).cls = i.cls ∧ (oxHeader f.payload).idx = i.idx := by
  simp only [State.answersRound, State.roundRecord_of hi, Option.any_some, Bool.and_eq_true, beq_iff_eq, and_assoc,
    eq_comm (a := i.cls), eq_comm (a := i.idx)]

theorem State.miss_first (h : r.attempt = 1) (v : Option Nat) :
    s.miss r i v = s.sendSummary r.controller r.start r.position 2 i := if_pos h

theorem State.miss_timeout (h : r.attempt ≠ 1) : s.miss r i none =
    ((s.post { kind := .scanNoResponse, time := s.time, controller := some r.controller, object := some (i.cls, i.idx)
               reason := some (.reason .timeout) }).endRound r.controller r.start false).scheduleCheck := if_neg h

theorem State.miss_status (h : r.attempt ≠ 1) (v : Nat) : s.miss r i (some v) =
    ((s.post { kind := .scanNoResponse, time := s.time, controller := some r.controller, object := some (i.cls, i.idx)
               first := some (BitVec.ofNat 32 v) }).endRound r.controller r.start false).scheduleCheck := if_neg h

theorem State.scanTimeout_of_record (hr : s.round = some r) (hi : s.active.images[r.position]? = some (some i)) :
    s.scanTimeout = s.miss r i none := by
  rw [State.scanTimeout, hr]
  dsimp only
  rw [State.roundRecord_of hi]

theorem exec_scanResponseDeadline_of_reached (hp : s.powered = true) (hr : s.round = some r) (hd : r.deadline ≤ s.time) :
    exec .scanResponseDeadline s = .next s.scanTimeout := by
  refine congrArg Host.Outcome.next (if_pos ?_)
  simp [State.scanResponseDue, hp, hr, State.reached?_some, hd]

theorem exec_summaryResponse_of_row (hrow : s.rowOf .line f = .summaryResponse) :
    exec (.summaryResponse f) s = .next (s.takeSummaryResponse f) := congrArg Host.Outcome.next (if_pos hrow)

theorem State.takeSummaryResponse_idle (hr : s.round = none) : s.takeSummaryResponse f = s := by
  rw [State.takeSummaryResponse, hr]

/-- A response that the round is not waiting for is discarded (R125). -/
theorem State.takeSummaryResponse_discarded (hr : s.round = some r)
    (h : ¬ s.answersRound (s.protectedBy f.src) f r = true) : s.takeSummaryResponse f = s := by
  rw [State.takeSummaryResponse, hr]
  exact if_neg h

theorem State.takeSummaryResponse_judged (hr : s.round = some r) (hi : s.active.images[r.position]? = some (some i))
    (h : s.answersRound (s.protectedBy f.src) f r = true) : s.takeSummaryResponse f = s.judgeSummary r i f := by
  rw [State.takeSummaryResponse, hr]
  refine (if_pos h).trans ?_
  rw [State.roundRecord_of hi]

/-- An answer that agrees with the record goes on to the next one, or completes the round (R126, R129). -/
theorem State.judgeSummary_equal (hok : (oxHeader f.payload).status = 0) (hl : reportedLength f.payload = i.length)
    (hf : reportedFingerprint f.payload = i.fingerprint) : s.judgeSummary r i f =
      if (s.continueRound r.controller r.start (r.position + 1)).round.isNone then
        (s.continueRound r.controller r.start (r.position + 1)).scheduleCheck
      else s.continueRound r.controller r.start (r.position + 1) :=
  (if_pos hok).trans (if_pos ((pairMatches_iff ..).2 ⟨hl, hf⟩))

theorem State.judgeSummary_length (hok : (oxHeader f.payload).status = 0) (hl : reportedLength f.payload ≠ i.length) :
    s.judgeSummary r i f = s.drift r i (some .length) (BitVec.ofNat 32 i.length)
      (BitVec.ofNat 32 (reportedLength f.payload)) := by
  have hpair : ¬ pairMatches i (reportedLength f.payload) (reportedFingerprint f.payload) = true := fun h =>
    hl ((pairMatches_iff ..).1 h).1
  exact (if_pos hok).trans ((if_neg hpair).trans (if_neg hl))

theorem State.judgeSummary_mismatch (hok : (oxHeader f.payload).status = 0) (hl : reportedLength f.payload = i.length)
    (hf : reportedFingerprint f.payload ≠ i.fingerprint) : s.judgeSummary r i f =
      s.drift r i (some .mismatch) i.fingerprint (reportedFingerprint f.payload) := by
  have hpair : ¬ pairMatches i (reportedLength f.payload) (reportedFingerprint f.payload) = true := fun h =>
    hf ((pairMatches_iff ..).1 h).2
  exact (if_pos hok).trans ((if_neg hpair).trans (if_pos hl))

theorem State.judgeSummary_noObject (h : (oxHeader f.payload).status = 2) :
    s.judgeSummary r i f = s.drift r i none (BitVec.ofNat 32 i.length) i.fingerprint := by
  have hok : ¬ (oxHeader f.payload).status = statusOk := by
    rw [h]
    decide
  exact (if_neg hok).trans (if_pos h)

theorem State.judgeSummary_miss (hok : (oxHeader f.payload).status ≠ 0) (hno : (oxHeader f.payload).status ≠ 2) :
    s.judgeSummary r i f = s.miss r i (some (oxHeader f.payload).status) := (if_neg hok).trans (if_neg hno)

theorem State.continueRound_completed {n : Fin 32} {start lowest : Nat} (h : s.approvedFrom n lowest = none) :
    s.continueRound n start lowest = s.endRound n start true := by
  rw [State.continueRound, h]

theorem State.endRound_round (s : State) (n : Fin 32) (start : Nat) (b : Bool) : (s.endRound n start b).round = none := by
  simp [State.endRound]

end answers

end Sys2Proof.Machine

open Sys2Proof Sys2Proof.Machine

/-- Settles O44: the record lookup, and the branch of the judgement that each answer takes. -/
theorem answersToTheFilterAreJudged : Obligations.AnswersToTheFilterAreJudged := by
  refine ⟨fun s n lowest => ⟨fun i r => State.approvedFrom_eq_some_iff, State.approvedFrom_eq_none_iff⟩, fun s f =>
    ⟨rfl, fun r i hp hr hi hd => ?_, fun hrow => ⟨fun hr => ?_, fun r i hr hi => ⟨fun hne => ?_, fun hn ht hc hx => ?_⟩⟩⟩⟩
  · rw [exec_scanResponseDeadline_of_reached hp hr hd, State.scanTimeout_of_record hr hi]
    exact ⟨fun h => by rw [State.miss_first h], fun h => by rw [State.miss_timeout h]⟩
  · rw [exec_summaryResponse_of_row hrow, State.takeSummaryResponse_idle hr]
  · rw [exec_summaryResponse_of_row hrow, State.takeSummaryResponse_discarded hr]
    intro hanswers
    obtain ⟨hn, ht, hc, hx⟩ := (State.answersRound_iff hi).1 hanswers
    obtain h | h | h | h := hne
    · exact h hn
    · exact h ht
    · exact h hc
    · exact h hx
  · rw [exec_summaryResponse_of_row hrow,
      State.takeSummaryResponse_judged hr hi ((State.answersRound_iff hi).2 ⟨hn, ht, hc, hx⟩)]
    refine ⟨fun hok hl hf => ?_, fun hok hl => ?_, fun hok hl hf => ?_, fun h => ?_, fun hok hno => ?_⟩
    · rw [State.judgeSummary_equal hok hl hf]
      refine ⟨fun j x hnext => ?_, fun hnone => ?_⟩
      · rw [State.continueRound_of_record hnext]
        rfl
      · rw [State.continueRound_completed hnone, State.endRound_round]
        rfl
    · rw [State.judgeSummary_length hok hl]
      rfl
    · rw [State.judgeSummary_mismatch hok hl hf]
      rfl
    · rw [State.judgeSummary_noObject h]
      rfl
    · rw [State.judgeSummary_miss hok hno]
      exact ⟨fun h => by rw [State.miss_first h], fun h => by rw [State.miss_status h]⟩
end

section
/-! PROOFS. Links that come up and go down (O48). -/

namespace Sys2Proof.Machine

/-! ## The arbiter at a link that comes up (R145, R149) -/

theorem PortState.arbitrate_originated {q : PortState} {o : OrigFrame} {os : List OrigFrame} (hup : q.up = true)
    (hs : q.sending = none) (hf : q.forwarded = []) (ho : q.originate = o :: os) :
    q.arbitrate = { q with originate := os, sending := some (.originated o), turns := 0, begun := none } := by
  simp [PortState.arbitrate, PortState.isFree, PortState.choose, hup, hs, hf, ho]

theorem PortState.arbitrate_empty {q : PortState} (hf : q.forwarded = []) (ho : q.originate = []) :
    q.arbitrate = q := by
  simp [PortState.arbitrate, PortState.choose, hf, ho]

section links
variable {s : State}

theorem exec_linkUp_of_down {p : Port} (hp : s.powered = true) (hup : (s.port p).up = false) :
    exec (.linkUp p) s = .next (State.offerPlaces (s.setPort p
      (PortState.arbitrate { s.port p with up := true, turns := 0, begun := none })) p) :=
  congrArg Host.Outcome.next (if_pos (by rw [hp, hup]; rfl))

theorem exec_linkDown_plant_of_up (hp : s.powered = true) (hup : s.plant.up = true) :
    exec (.linkDown .plant) s = .next ((s.dropPort .plant).offerPlaces .plant) :=
  congrArg Host.Outcome.next (if_pos (by rw [State.takes, hp]; exact hup))

theorem exec_linkDown_line_of_up (hp : s.powered = true) (hup : s.line.up = true) :
    exec (.linkDown .line) s = .next (s.dropPort .line).lineLinkLoss :=
  congrArg Host.Outcome.next (if_pos (by rw [State.takes, hp]; exact hup))

/-- What the Plant port loses with its link (R142, R149). -/
theorem State.dropPort_plant_eq (s : State) : s.dropPort .plant = { s with
    plant := { up := false, forwarded := [], originate := [], sending := none, turns := 0 }
    device := { s.device with
      linkDiscarded := saturate32By (s.plant.forwarded.length + (sendingForwarded s.plant.sending).length)
        s.device.linkDiscarded
      notSent := saturate32By (countPlain (s.plant.originate ++ sendingOriginated s.plant.sending)) s.device.notSent }
    dropped := saturateDropped (lostNotices (s.plant.originate ++ sendingOriginated s.plant.sending)) s.dropped } := by
  rw [← List.length_append]
  rfl

theorem State.dropPort_line_eq (s : State) : s.dropPort .line = { s with
    line := { up := false, forwarded := [], originate := [], sending := none, turns := 0 }
    device := { s.device with
      linkDiscarded := saturate32By (countPlain (s.line.originate ++ sendingOriginated s.line.sending))
        (saturate32By (s.line.forwarded.length + (sendingForwarded s.line.sending).length)
          s.device.linkDiscarded) } } := by
  rw [← List.length_append]
  rfl

/-! ## Slots and windows at a Line link loss (R41, R91, R106) -/

theorem State.endSlot_ne (s : State) (k : Fin 8) : s.endSlot k = { s with
    waiting := s.waiting.filter (fun e => e.slot ≠ k)
    slots := s.slots.set k (if s.laneHolds k then .draining else .free) } := by
  have hfilter : (fun e : SegmentEntry => decide (e.slot ≠ k)) = fun e => e.slot != k := by
    funext e
    by_cases h : e.slot = k <;> simp [h]
  rw [State.endSlot_eq, hfilter]

theorem State.linkLossSlot_still {k : Fin 8} (h : s.slot k = .free ∨ s.slot k = .draining) : s.linkLossSlot k = s := by
  obtain h | h := h <;> rw [State.linkLossSlot, h]

theorem State.linkLossSlot_taking {k : Fin 8} {x : Transfer} {z : Sums} {p : Nat} {q : Intake}
    (h : s.slot k = .taking x z p q) : s.linkLossSlot k = s.endSlot k := by rw [State.linkLossSlot, h]

theorem State.linkLossSlot_verifying {k : Fin 8} {x : Transfer} {z : Sums} {p : Nat} {f : Frame}
    (h : s.slot k = .verifying x z p f) : s.linkLossSlot k = s.endSlot k := by rw [State.linkLossSlot, h]

theorem State.linkLossSlot_released {k : Fin 8} {x : Transfer} {d : Nat} (h : s.slot k = .released x d) :
    s.linkLossSlot k = (s.endSlot k).post
      { kind := .commitUnconfirmed, time := s.time, controller := some x.controller, station := some x.requester
        object := some (x.cls, x.idx), tid := some x.tid } := by
  rw [State.linkLossSlot, h]
  rfl

/-- The phase a slot is left in by a Line link loss. -/
def State.lossOf (s : State) (k : Fin 8) : Slot :=
  if s.slot k = .free then .free else if s.slot k = .draining then .draining
    else if s.laneHolds k then .draining else .free

theorem Slot.claim_eq_none_iff (x : Slot) : x.claim = none ↔ x = .free ∨ x = .draining := by
  cases x <;> simp [Slot.claim]

theorem State.slot_linkLossSlot (s : State) (k j : Fin 8) :
    (s.linkLossSlot k).slot j = if k = j then s.lossOf k else s.slot j := by
  have hend : s.slot k ≠ .free → s.slot k ≠ .draining →
      (s.endSlot k).slot j = if k = j then s.lossOf k else s.slot j := fun hf hd => by
    have hloss : s.lossOf k = if s.laneHolds k then .draining else .free := by rw [State.lossOf, if_neg hf, if_neg hd]
    rw [hloss]
    exact State.slot_setSlot ..
  cases h : s.slot k with
  | taking => rw [State.linkLossSlot_taking h]; exact hend (by rw [h]; nofun) (by rw [h]; nofun)
  | verifying => rw [State.linkLossSlot_verifying h]; exact hend (by rw [h]; nofun) (by rw [h]; nofun)
  | released =>
    rw [State.linkLossSlot_released h, State.slot_post]
    exact hend (by rw [h]; nofun) (by rw [h]; nofun)
  | free =>
    rw [State.linkLossSlot_still (.inl h), State.lossOf, if_pos h]
    split
    · subst k; exact h
    · rfl
  | draining =>
    have hloss : s.lossOf k = .draining := by rw [State.lossOf, if_neg (by rw [h]; nofun), if_pos h]
    rw [State.linkLossSlot_still (.inr h), hloss]
    split
    · subst k; exact h
    · rfl

theorem State.lossOf_linkLossSlot (s : State) (k j : Fin 8) : (s.linkLossSlot k).lossOf j = s.lossOf j := by
  have hlanes : (s.linkLossSlot k).laneHolds j = s.laneHolds j := State.laneHolds_of_lanes (by simp) j
  rw [State.lossOf, State.slot_linkLossSlot, hlanes]
  split
  · subst k
    unfold State.lossOf
    repeat' split
    all_goals simp_all
  · rfl

theorem State.slot_foldl_linkLossSlot (s : State) (k : Fin 8) :
    ((List.finRange 8).foldl State.linkLossSlot s).slot k = s.lossOf k := by
  have hfold : ∀ (l : List (Fin 8)) (s : State), k ∈ l → (l.foldl State.linkLossSlot s).slot k = s.lossOf k := by
    intro l
    induction l with
    | nil => exact fun _ h => absurd h List.not_mem_nil
    | cons a l ih =>
      intro s h
      rw [List.foldl_cons]
      by_cases hl : k ∈ l
      · rw [ih _ hl, State.lossOf_linkLossSlot]
      · obtain rfl := (List.mem_cons.1 h).resolve_right hl
        have hrest : ∀ (l : List (Fin 8)) (t : State), k ∉ l → (l.foldl State.linkLossSlot t).slot k = t.slot k := by
          intro l
          induction l with
          | nil => exact fun _ _ => rfl
          | cons b l ih =>
            intro t hn
            obtain ⟨hkb, hkl⟩ := List.ne_and_not_mem_of_not_mem_cons hn
            rw [List.foldl_cons, ih _ hkl, State.slot_linkLossSlot, if_neg (Ne.symm hkb)]
        rw [hrest l _ hl, State.slot_linkLossSlot, if_pos rfl]
  exact hfold _ s (List.mem_finRange k)

theorem State.waiting_linkLossSlot (s : State) (k : Fin 8) : (s.linkLossSlot k).waiting =
    s.waiting.filter fun e => decide (e.slot ≠ k ∨ (s.slot e.slot).claim = none) := by
  have hend : (∀ e ∈ s.waiting, e.slot = k → (s.slot e.slot).claim ≠ none) → (s.endSlot k).waiting =
      s.waiting.filter fun e => decide (e.slot ≠ k ∨ (s.slot e.slot).claim = none) := fun hlive => by
    refine List.filter_congr fun e he => ?_
    by_cases hk : e.slot = k
    · have hclaim := hlive e he hk
      rw [hk] at hclaim
      simp [hk, hclaim]
    · simp [hk]
  have hstill : (s.slot k).claim = none → s.waiting =
      s.waiting.filter fun e => decide (e.slot ≠ k ∨ (s.slot e.slot).claim = none) := fun hnone => by
    refine (List.filter_eq_self.2 fun e _ => ?_).symm
    by_cases hk : e.slot = k <;> simp_all
  cases h : s.slot k with
  | taking => rw [State.linkLossSlot_taking h]; exact hend fun e _ he => by rw [he, h]; nofun
  | verifying => rw [State.linkLossSlot_verifying h]; exact hend fun e _ he => by rw [he, h]; nofun
  | released =>
    rw [State.linkLossSlot_released h, State.post_waiting]
    exact hend fun e _ he => by rw [he, h]; nofun
  | free => rw [State.linkLossSlot_still (.inl h)]; exact hstill (by rw [h]; rfl)
  | draining => rw [State.linkLossSlot_still (.inr h)]; exact hstill (by rw [h]; rfl)

theorem State.waiting_foldl_linkLossSlot (s : State) : ((List.finRange 8).foldl State.linkLossSlot s).waiting =
    s.waiting.filter fun e => s.slot e.slot = .free ∨ s.slot e.slot = .draining := by
  have hfold : ∀ (l : List (Fin 8)) (s : State), (l.foldl State.linkLossSlot s).waiting =
      s.waiting.filter fun e => decide (e.slot ∉ l ∨ (s.slot e.slot).claim = none) := by
    intro l
    induction l with
    | nil => exact fun s => (List.filter_eq_self.2 fun e _ => by simp).symm
    | cons a l ih =>
      intro s
      rw [List.foldl_cons, ih, State.waiting_linkLossSlot, List.filter_filter]
      refine List.filter_congr fun e _ => ?_
      rw [State.claim_linkLossSlot, ← Bool.decide_and, decide_eq_decide, List.mem_cons]
      by_cases ha : e.slot = a
      · simp [ha]
      · simp [ha, Ne.symm ha]
  rw [hfold]
  refine List.filter_congr fun e _ => ?_
  rw [decide_eq_decide, Slot.claim_eq_none_iff]
  simp

/-- A Line link loss leaves a window in QUARANTINE, and any other in LOCKED, as a warm restart does (R20, R41). -/
theorem State.window_linkLossWindow (s : State) (n m : Fin 32) : (s.linkLossWindow n).window? m =
    if n = m then (s.window? m).map Window.restart else s.window? m := by
  by_cases hnm : n = m
  · subst m
    rw [if_pos rfl]
    have hset : ∀ {w}, s.window? n = some w → (s.setWindow n .locked).window? n = some .locked := fun h =>
      State.window_setWindow_same h
    unfold State.linkLossWindow
    split <;> rename_i h
    · rw [h]; rfl
    · rw [h]; rfl
    · rw [h]; rfl
    · rw [hset h, h]; rfl
    · rw [hset h, h]; rfl
    · rename_i w _ hq _ _
      rw [State.postWindow, State.window_post, hset h, h]
      cases w with
      | quarantined c => exact absurd rfl (hq c)
      | _ => rfl
  · rw [if_neg hnm, State.window_linkLossWindow_of_ne hnm]

theorem State.window_foldl_linkLossWindow_eq (s : State) (n : Fin 32) :
    ((List.finRange 32).foldl State.linkLossWindow s).window? n = (s.window? n).map Window.restart := by
  have hfold : ∀ (l : List (Fin 32)) (s : State), (l.foldl State.linkLossWindow s).window? n =
      if n ∈ l then (s.window? n).map Window.restart else s.window? n := by
    intro l
    induction l with
    | nil => exact fun _ => rfl
    | cons a l ih =>
      intro s
      rw [List.foldl_cons, ih, State.window_linkLossWindow]
      have htwice : ∀ w : Window, w.restart.restart = w.restart := fun w => by cases w <;> rfl
      by_cases ha : a = n
      · subst a
        simp [Function.comp_def, htwice]
      · simp [ha, Ne.symm ha]
  rw [hfold, if_pos (List.mem_finRange n)]

section windowLoss
variable {n : Fin 32} {w : Window}

theorem State.linkLossWindow_still
    (h : s.window? n = none ∨ s.window? n = some .locked ∨ ∃ c, s.window? n = some (.quarantined c)) :
    s.linkLossWindow n = s := by
  obtain h | h | ⟨c, h⟩ := h <;> rw [State.linkLossWindow, h]

theorem State.linkLossWindow_told
    (h : ∃ m d k, s.window? n = some (.commitWait m d k (some .runAfterCommit))
      ∨ s.window? n = some (.verify m d k (some .runAfterCommit))) : s.linkLossWindow n = s.setWindow n .locked := by
  obtain ⟨m, d, k, h | h⟩ := h <;> rw [State.linkLossWindow, h]

theorem State.linkLossWindow_closed (hw : s.window? n = some w) (hl : w ≠ .locked) (hq : ∀ c, w ≠ .quarantined c)
    (hr : ∀ m d k, w ≠ .commitWait m d k (some .runAfterCommit) ∧ w ≠ .verify m d k (some .runAfterCommit)) :
    s.linkLossWindow n = (s.setWindow n .locked).post
      { kind := .windowClosed, time := s.time, controller := some n, reason := some (.window .link) } := by
  rw [← State.postWindow_setWindow]
  unfold State.linkLossWindow
  split <;> rename_i h <;> rw [hw] at h
  · cases h
  · exact absurd (Option.some.inj h) hl
  · exact absurd (Option.some.inj h) (hq _)
  · exact absurd (Option.some.inj h) (hr _ _ _).1
  · exact absurd (Option.some.inj h) (hr _ _ _).2

end windowLoss

/-! ## What a Line link loss leaves unchanged -/

/-- From `s` to `t` notices may be posted, and no port, entry of the history or watch is changed otherwise. -/
structure State.LossKeeps (s t : State) : Prop where
  line : t.line = s.line
  destination : t.destination = s.destination
  plant : s.destination = 0#48 → t.plant = s.plant
  history : t.history = s.history
  watches : t.watches = s.watches

namespace State.LossKeeps
variable {t u : State}

theorem refl (s : State) : s.LossKeeps s := ⟨rfl, rfl, fun _ => rfl, rfl, rfl⟩

theorem trans (h : s.LossKeeps t) (h' : t.LossKeeps u) : s.LossKeeps u :=
  ⟨h'.line.trans h.line, h'.destination.trans h.destination,
    fun hd => (h'.plant (h.destination.trans hd)).trans (h.plant hd), h'.history.trans h.history,
    h'.watches.trans h.watches⟩

/-- Without a destination a posted notice is discarded (R138). -/
theorem post (h : s.LossKeeps t) (n : Notice) : s.LossKeeps (t.post n) :=
  h.trans ⟨State.post_line .., State.post_destination .., fun hd => by rw [State.post, if_pos hd],
    State.post_history .., State.post_watches ..⟩

theorem setWindow (h : s.LossKeeps t) (n : Fin 32) (w : Window) : s.LossKeeps (t.setWindow n w) :=
  h.trans ⟨by simp, by simp, fun _ => by simp, by simp, by simp⟩

theorem updateSchedule (h : s.LossKeeps t) (n : Fin 32) (f : Schedule → Schedule) :
    s.LossKeeps (t.updateSchedule n f) := h.trans ⟨by simp, by simp, fun _ => by simp, by simp, by simp⟩

theorem linkLossSlot (h : s.LossKeeps t) (k : Fin 8) : s.LossKeeps (t.linkLossSlot k) := by
  have hend : s.LossKeeps (t.endSlot k) := h.trans ⟨rfl, rfl, fun _ => rfl, rfl, rfl⟩
  unfold State.linkLossSlot
  split
  · exact hend
  · exact hend
  · exact hend.post _
  · exact h
  · exact h

theorem linkLossWindow (h : s.LossKeeps t) (n : Fin 32) : s.LossKeeps (t.linkLossWindow n) := by
  unfold State.linkLossWindow
  split
  · exact h
  · exact h
  · exact h
  · exact h.setWindow n _
  · exact h.setWindow n _
  · exact (h.setWindow n _).post _

theorem foldl {α : Type} {f : State → α → State} (hf : ∀ (t : State) a, t.LossKeeps (f t a)) (l : List α)
    (h : s.LossKeeps t) : s.LossKeeps (l.foldl f t) := by
  induction l generalizing t with
  | nil => exact h
  | cons a l ih => exact ih (h.trans (hf t a))

end State.LossKeeps

/-- From `s` to `t` schedules may be postponed, and nothing of slots, windows or the round is changed. -/
structure State.Postpones (s t : State) : Prop where
  keeps : s.LossKeeps t
  waiting : t.waiting = s.waiting
  slots : t.slots = s.slots
  windows : ∀ n, t.window? n = s.window? n
  round : t.round = s.round

theorem State.Postpones.refl (s : State) : s.Postpones s := ⟨.refl s, rfl, rfl, fun _ => rfl, rfl⟩

theorem State.Postpones.trans {t u : State} (h : s.Postpones t) (h' : t.Postpones u) : s.Postpones u :=
  ⟨h.keeps.trans h'.keeps, h'.waiting.trans h.waiting, h'.slots.trans h.slots,
    fun n => (h'.windows n).trans (h.windows n), h'.round.trans h.round⟩

theorem State.postponeScan_postpones (s : State) (n : Fin 32) : s.Postpones (s.postponeScan n) := by
  refine ⟨?_, by simp, by simp, fun m => State.window_of_downloads (by simp [State.downloads]) m, by simp⟩
  have hmoved : ∀ f, s.LossKeeps (s.updateSchedule n f) := fun f => (State.LossKeeps.refl s).updateSchedule n f
  unfold State.postponeScan
  split
  · exact .refl s
  · dsimp only
    split
    · exact (hmoved _).post _
    · exact hmoved _

/-- With the Line link down a schedule check begins no round (R121). -/
theorem State.scheduleCheck_postpones (h : s.line.up = false) : s.Postpones s.scheduleCheck := by
  have hfold : ∀ (l : List (Fin 32)) (t : State), s.Postpones t → s.Postpones (l.foldl State.checkController t) := by
    intro l
    induction l with
    | nil => exact fun _ ht => ht
    | cons n l ih =>
      refine fun t ht => ih _ (ht.trans ?_)
      have hdown : t.line.up = false := by rw [ht.keeps.line]; exact h
      unfold State.checkController
      split
      · exact .refl t
      · rw [hdown, Bool.and_false]
        exact t.postponeScan_postpones n
  exact hfold _ s (.refl s)

/-- Nothing waits to be removed at a port that has lost its link. -/
theorem State.removeSummary_of_reset (h : s.line = PortState.reset) : s.removeSummary = s := by
  have hline : s.removeSummary = { s with line := PortState.reset } := by
    rw [State.removeSummary_eq, h]
    rfl
  rw [hline, ← h]

theorem State.cancelRound_of_reset {r : Round} (h : s.line = PortState.reset) (hr : s.round = some r) :
    s.cancelRound = State.postponeScan { s with round := none } r.controller := by
  rw [State.cancelRound, hr]
  dsimp only
  rw [State.removeSummary_of_reset h]

end links

/-- What a Line link loss does, from the state in which the port has lost its frames. -/
theorem State.lineLinkLoss_spec {s u : State} (hline : s.line = PortState.reset)
    (hu : u = (List.finRange 32).foldl State.linkLossWindow ((List.finRange 8).foldl State.linkLossSlot s)) :
    (s.round = none → s.lineLinkLoss = u)
    ∧ (∀ r, s.round = some r → s.lineLinkLoss = (State.postponeScan { u with round := none } r.controller).scheduleCheck)
    ∧ s.LossKeeps s.lineLinkLoss ∧ s.lineLinkLoss.waiting = u.waiting ∧ s.lineLinkLoss.slots = u.slots
    ∧ (∀ n, s.lineLinkLoss.window? n = u.window? n) ∧ s.lineLinkLoss.round = none := by
  have hround : u.round = s.round := by
    rw [hu, foldl_keeps (fun s => s.round) State.linkLossWindow (by simp),
      foldl_keeps (fun s => s.round) State.linkLossSlot (by simp)]
  have hkeeps : s.LossKeeps u := by
    rw [hu]
    exact .foldl (fun t n => (State.LossKeeps.refl t).linkLossWindow n) _
      (.foldl (fun t k => (State.LossKeeps.refl t).linkLossSlot k) _ (.refl s))
  have hloss : s.lineLinkLoss = if u.round.isSome then u.cancelRound.scheduleCheck else u := by rw [hu]; rfl
  cases hr : s.round with
  | none =>
    have hsame : s.lineLinkLoss = u := by rw [hloss, hround, hr]; rfl
    rw [hsame]
    exact ⟨fun _ => rfl, nofun, hkeeps, rfl, rfl, fun _ => rfl, hround.trans hr⟩
  | some r =>
    have hreset : u.line = PortState.reset := hkeeps.line.trans hline
    have hcancelled : s.lineLinkLoss = (State.postponeScan { u with round := none } r.controller).scheduleCheck := by
      rw [hloss, hround, hr, ← State.cancelRound_of_reset hreset (hround.trans hr)]
      rfl
    have hidle : u.LossKeeps { u with round := none } := ⟨rfl, rfl, fun _ => rfl, rfl, rfl⟩
    have hpostponed := State.postponeScan_postpones { u with round := none } r.controller
    have hdown : (State.postponeScan { u with round := none } r.controller).line.up = false := by
      rw [hpostponed.keeps.line]
      exact congrArg PortState.up hreset
    have hchecked := hpostponed.trans (State.scheduleCheck_postpones hdown)
    rw [hcancelled]
    exact ⟨nofun, fun _ h => by cases h; rfl, hkeeps.trans (hidle.trans hchecked.keeps), hchecked.waiting, hchecked.slots,
      hchecked.windows, hchecked.round⟩

end Sys2Proof.Machine

open Sys2Proof Sys2Proof.Machine

/-- Settles O48: a link that comes up, what each port loses with its link, and the folds over slots and windows at a Line
link loss. -/
theorem linkChangesTakeEffect : Obligations.LinkChangesTakeEffect := by
  refine ⟨fun s p hp => ⟨fun hup => ⟨exec_linkUp_of_down hp hup, fun hf hs => ⟨fun o os ho => ?_, fun ho => ?_⟩⟩,
    fun hup => ?_, fun hup => ?_⟩, fun s k => ⟨State.linkLossSlot_still, fun h => ?_, fun x d h => ?_⟩, fun s n =>
      ⟨State.linkLossWindow_still, fun w hw hl hq => ⟨fun h => ?_, State.linkLossWindow_closed hw hl hq⟩⟩⟩
  · rw [exec_linkUp_of_down hp hup, PortState.arbitrate_originated
      (q := { s.port p with up := true, turns := 0, begun := none }) rfl hs hf ho, hf]
  · rw [exec_linkUp_of_down hp hup, PortState.arbitrate_empty
      (q := { s.port p with up := true, turns := 0, begun := none }) hf ho]
    dsimp only
    rw [hf, ho, hs]
  · rw [exec_linkDown_plant_of_up hp hup, State.dropPort_plant_eq]
  · rw [exec_linkDown_line_of_up hp hup, State.dropPort_line_eq]
    refine ⟨_, _, rfl, rfl, ?_⟩
    obtain ⟨hidle, hround, hkeeps, hwaiting, hslots, hwindows, hnone⟩ := State.lineLinkLoss_spec
      (s := { s with
        line := { up := false, forwarded := [], originate := [], sending := none, turns := 0 }
        device := { s.device with
          linkDiscarded := saturate32By (countPlain (s.line.originate ++ sendingOriginated s.line.sending))
            (saturate32By (s.line.forwarded.length + (sendingForwarded s.line.sending).length)
              s.device.linkDiscarded) } }) rfl rfl
    refine ⟨hidle, hround, hkeeps.line, hkeeps.plant, hkeeps.history, hkeeps.watches, ?_, fun k => ?_, fun n => ?_, hnone⟩
    · rw [hwaiting, foldl_keeps (fun s => s.waiting) State.linkLossWindow (by simp), State.waiting_foldl_linkLossSlot]
      rfl
    · rw [State.slot_of_slots hslots, State.slot_of_slots (State.foldl_linkLossWindow_slots ..),
        State.slot_foldl_linkLossSlot]
      rfl
    · rw [hwindows, State.window_foldl_linkLossWindow_eq,
        State.window_of_controllers (foldl_keeps (fun s => s.controllers) State.linkLossSlot (by simp) _ _)]
      refine ⟨fun c hc => congrArg (Option.map Window.restart) hc, fun hq hne => ?_⟩
      obtain ⟨w, hw⟩ := Option.ne_none_iff_exists'.1 hne
      refine (congrArg (Option.map Window.restart) hw).trans ?_
      cases w with
      | quarantined c => exact absurd hw (hq c)
      | _ => rfl
  · obtain ⟨x, z, p, q, h⟩ | ⟨x, z, p, f, h⟩ := h
    · rw [State.linkLossSlot_taking h, State.endSlot_ne]
    · rw [State.linkLossSlot_verifying h, State.endSlot_ne]
  · rw [State.linkLossSlot_released h, State.endSlot_ne]
  · obtain ⟨m, d, k, rfl | rfl⟩ := h
    · exact State.linkLossWindow_told ⟨m, d, k, .inl hw⟩
    · exact State.linkLossWindow_told ⟨m, d, k, .inr hw⟩
end

section
/-! PROOFS. Warm restarts, and what causes one (O50). -/

namespace Sys2Proof.Machine
section restarts
variable {s : State}

/-! ## What a warm restart sets (R20, R22, R66, R108, R120, R133, R142, R150) -/

theorem State.warmRestart_of_no_round (h : s.round = none) : s.warmRestart = { s.restartBlocks with round := s.round } := by
  rw [h]
  exact if_neg (by rw [h]; nofun)

theorem State.warmRestart_of_round (h : s.round ≠ none) : s.warmRestart = s.restartBlocks.scheduleCheck :=
  if_pos (Option.isSome_iff_ne_none.2 h)

/-! ## When a restart is due (R158, R170, R171) -/

theorem OrigFrame.isRestartReply_iff (o : OrigFrame) : o.isRestartReply = true ↔ o.kind = .restartReply := beq_iff_eq

theorem Sending.isRestartReply_iff (x : Sending) :
    x.isRestartReply = true ↔ ∃ o, x = .originated o ∧ o.kind = .restartReply := by
  cases x with
  | forwarded f => exact ⟨nofun, nofun⟩
  | originated o =>
    exact (OrigFrame.isRestartReply_iff o).trans ⟨fun h => ⟨o, rfl, h⟩, fun ⟨_, ho, h⟩ => Sending.originated.inj ho ▸ h⟩

theorem State.restartReplyWaits_iff (s : State) : s.restartReplyWaits = true ↔
    (∃ o ∈ s.plant.originate, o.kind = .restartReply)
      ∨ ∃ o, s.plant.sending = some (.originated o) ∧ o.kind = .restartReply := by
  simp [State.restartReplyWaits, Option.any_eq_true, OrigFrame.isRestartReply_iff, Sending.isRestartReply_iff]

theorem State.restartDue_iff (s : State) : s.restartDue = true ↔
    s.writing = none ∧ ((s.restartPending = true ∧ s.restartReplyWaits = false) ∨ 0 < s.lineWaiting) := by
  simp [State.restartDue, State.storeBusy]

/-- With no closing of the line waiting a pending RESTART causes one restart. -/
theorem State.takeDueRestart_of_pending (hdue : s.restartDue = true) (hzero : s.lineWaiting = 0) :
    s.takeDueRestart = s.warmRestart := by
  rw [State.takeDueRestart_of_due hdue, hzero]
  rfl

/-! ## The events that cause a restart -/

theorem exec_warmRestart_of_powered (hp : s.powered = true) : exec .warmRestart s = .next s.takeDueRestart :=
  congrArg Host.Outcome.next (if_pos hp)

theorem exec_restartInputClosed_of_closed (h : s.lineClosed = true) : exec .restartInputClosed s = .next s :=
  congrArg Host.Outcome.next (if_pos h)

theorem exec_restartInputClosed_of_opened (hp : s.powered = true) (h : s.lineClosed = false) :
    exec .restartInputClosed s = .next (if s.writing.isSome then { s with lineClosed := true, lineWaiting := s.lineWaiting + 1 }
      else State.warmRestart { s with lineClosed := true }) :=
  congrArg Host.Outcome.next ((if_neg (by rw [h]; nofun)).trans (if_neg (by simp [hp])))

/-! ## RESTART (R170) -/

theorem exec_restart_taken {p : Port} {f : Frame} (h : s.takesCommand .restart p f) :
    exec (.restart p f) s = .next (s.doRestart f) := by
  obtain ⟨hrow, haccepts, hcheck⟩ := h
  exact congrArg Host.Outcome.next (by simp [State.whenRow, hrow, haccepts, hcheck])

theorem State.doRestart_pending (f : Frame) (h : s.restartPending = true) :
    s.doRestart f = s.reply f .reply { status := .already } := if_pos h

theorem State.doRestart_idle (f : Frame) (h : s.restartPending = false) :
    s.doRestart f = (State.reply { s with restartPending := true } f .restartReply { status := .ok }).takeDueRestart :=
  if_neg (by rw [h]; nofun)

/-- The reply of a RESTART that has been placed waits, or is being sent. -/
theorem PortState.placeOriginated_restartReply (q : PortState) {o : OrigFrame} (now : Nat) (h : o.kind = .restartReply) :
    (∃ x ∈ (q.placeOriginated o now).originate, x.kind = .restartReply)
      ∨ ∃ x, (q.placeOriginated o now).sending = some (.originated x) ∧ x.kind = .restartReply :=
  (q.placeOriginated_holds o now).imp (fun hm => ⟨o, hm, h⟩) fun hs => ⟨o, hs, h⟩

/-- No restart takes effect while its reply waits, where no closing of the line has waited for it. -/
theorem State.restartDue_of_reply (hreply : s.restartReplyWaits = true) (h : s.lineWaiting = 0 ∨ s.writing ≠ none) :
    s.restartDue = false := by
  refine Bool.eq_false_iff.2 fun hdue => ?_
  obtain ⟨hwriting, ⟨-, hgone⟩ | hwaiting⟩ := s.restartDue_iff.1 hdue
  · exact Bool.false_ne_true (hgone.symm.trans hreply)
  · exact h.elim (fun hzero => Nat.ne_of_gt hwaiting hzero) fun hbusy => hbusy hwriting

end restarts
end Sys2Proof.Machine

open Sys2Proof Sys2Proof.Machine

/-- Settles O50: a warm restart as an equation, when one is due, and the events and the command that cause one. -/
theorem restartsTakeEffect : Obligations.RestartsTakeEffect := by
  refine fun s => ⟨fun hr => ?_, fun hr => ?_, fun hp => ⟨s.restartDue_iff, s.restartReplyWaits_iff, fun hdue => ?_,
    fun hdue => ?_, rfl, fun _ => rfl, fun hopen => ⟨fun hw => ?_, fun hw => ?_⟩, exec_restartInputClosed_of_closed⟩, rfl,
    fun p f htakes hline => ⟨fun hpending => ?_, fun hidle => ⟨fun hplace => ?_, fun hfull hnone => ?_⟩⟩⟩
  · exact State.warmRestart_of_no_round hr
  · rw [State.warmRestart_of_round hr, State.warmRestart_of_no_round (s := { s with round := none }) rfl]
    rfl
  · rw [exec_warmRestart_of_powered hp, State.takeDueRestart_of_not hdue]
  · rw [exec_warmRestart_of_powered hp, State.takeDueRestart_of_due hdue]
  · rw [exec_restartInputClosed_of_opened hp hopen, hw]
    rfl
  · rw [exec_restartInputClosed_of_opened hp hopen, if_pos (Option.isSome_iff_ne_none.2 hw)]
  · rw [exec_restart_taken htakes, State.doRestart_pending f hpending]
  · rw [exec_restart_taken htakes, State.doRestart_idle f hidle,
      State.reply_of_place (s := { s with restartPending := true }) f .restartReply _ hplace]
    refine congrArg Host.Outcome.next (State.takeDueRestart_of_not (State.restartDue_of_reply ?_ hline))
    exact (State.restartReplyWaits_iff _).2 (PortState.placeOriginated_restartReply _ _ rfl)
  · have hexec : exec (.restart p f) s = .next (State.takeDueRestart { s with
        restartPending := true, device := { s.device with notSent := saturate32By 1 s.device.notSent } }) := by
      rw [exec_restart_taken htakes, State.doRestart_idle f hidle,
        State.reply_of_full (s := { s with restartPending := true }) f .restartReply _ hfull]
    rw [hexec]
    refine ⟨fun hw => congrArg Host.Outcome.next (State.takeDueRestart_of_not ?_), fun hw => congrArg Host.Outcome.next ?_⟩
    · exact Bool.eq_false_iff.2 fun hdue => hw ((State.restartDue_iff _).1 hdue).1
    · exact State.takeDueRestart_of_pending ((State.restartDue_iff _).2 ⟨hw, .inl ⟨rfl, hnone⟩⟩)
        (hline.resolve_right (not_not_intro hw))
end

section
/-! PROOFS. SELECT-BANK: the bank check and the selection (O55). -/

namespace Sys2Proof.Machine

/-! ## The bank check (R155) -/

theorem Table.forall_iff (P : Table → Prop) :
    (∀ t, P t) ↔ P .definitions ∧ P .stations ∧ P .grants ∧ P .images :=
  ⟨fun h => ⟨h _, h _, h _, h _⟩, fun ⟨hd, hs, hg, hi⟩ t => by cases t <;> assumption⟩

/-- The record at a position of a bank's table fails the conditions of that table. -/
def Bank.failsIn (b : Bank) (t : Table) (i : Nat) : Prop :=
  match t with
  | .definitions => failsAt definitionFails [] b.definitions.toList i
  | .stations => failsAt stationFails [] b.stations.toList i
  | .grants => failsAt (grantFails b) [] b.grants.toList i
  | .images => failsAt (imageFails b) [] b.images.toList i

/-- The first position of a bank's table at which a record fails its conditions. -/
def Bank.firstIn (b : Bank) (t : Table) : Option Nat :=
  match t with
  | .definitions => firstFailure definitionFails [] 0 b.definitions.toList
  | .stations => firstFailure stationFails [] 0 b.stations.toList
  | .grants => firstFailure (grantFails b) [] 0 b.grants.toList
  | .images => firstFailure (imageFails b) [] 0 b.images.toList

/-- The source of a selection holds MANAGE in a bank. -/
def Bank.manages (b : Bank) (src : Addr) : Bool := (records b.stations).any fun e => e.addr == src && e.rights.manage

section checks
variable {b : Bank} {t : Table} {i : Nat} {src : Addr}

theorem firstFailure_eq_some_iff {α : Type} {bad : List α → α → Bool} {l : List (Option α)} :
    firstFailure bad [] 0 l = some i ↔ failsAt bad [] l i ∧ ∀ j < i, ¬ failsAt bad [] l j := by
  rw [← (firstFailure_spec bad l [] 0).1 i, Nat.zero_add]

theorem Bank.firstIn_eq_some_iff : b.firstIn t = some i ↔ b.failsIn t i ∧ ∀ j < i, ¬ b.failsIn t j := by
  cases t <;> exact firstFailure_eq_some_iff

theorem Bank.firstIn_eq_none_iff : b.firstIn t = none ↔ ∀ j, ¬ b.failsIn t j := by
  cases t <;> exact (firstFailure_spec _ _ [] 0).2.2

theorem bankCheck_eq_some_iff :
    bankCheck b src = some (t, some i) ↔ b.firstIn t = some i ∧ ∀ u, u.code < t.code → b.firstIn u = none := by
  rw [Table.forall_iff]
  unfold bankCheck
  cases t <;> repeat' split
  all_goals simp_all [Bank.firstIn, Table.code]

theorem bankCheck_eq_none_iff : bankCheck b src = none ↔ (∀ u, b.firstIn u = none) ∧ b.manages src = true := by
  rw [Table.forall_iff]
  unfold bankCheck Bank.manages records
  repeat' split
  all_goals simp_all [Bank.firstIn]

theorem bankCheck_eq_noManage_iff : bankCheck b src = some (t, none) ↔
    t = .stations ∧ (∀ u, b.firstIn u = none) ∧ b.manages src = false := by
  rw [Table.forall_iff]
  unfold bankCheck Bank.manages records
  repeat' split
  all_goals simp_all [Bank.firstIn, eq_comm (a := t)]

theorem Bank.manages_iff : b.manages src = true ↔
    ∃ (i : Nat) (e : StationEntry), b.stations[i]? = some (some e) ∧ e.addr = src ∧ e.rights.manage = true := by
  simp only [Bank.manages, List.any_eq_true, mem_records_iff, Bool.and_eq_true, beq_iff_eq]
  exact ⟨fun ⟨e, ⟨i, hi⟩, ha, hm⟩ => ⟨i, e, hi, ha, hm⟩, fun ⟨i, e, hi, ha, hm⟩ => ⟨e, ⟨i, hi⟩, ha, hm⟩⟩

theorem Bank.manages_eq_false_iff : b.manages src = false ↔
    ∀ (i : Nat) (e : StationEntry), b.stations[i]? = some (some e) → e.addr = src → e.rights.manage = false := by
  rw [← Bool.not_eq_true, Bank.manages_iff]
  simp

end checks

/-! ## The conditions of each table (R155) -/

section conditions
variable {α : Type} {n i : Nat} {v : Vector (Option α) n}

theorem failsAt_toList_iff {bad : List α → α → Bool} : failsAt bad [] v.toList i ↔
    ∃ r, v[i]? = some (some r) ∧ bad ((v.toList.take i).filterMap id).reverse r = true := by
  simp [failsAt]

theorem any_below_iff {p : α → Bool} : ((v.toList.take i).filterMap id).reverse.any p = true ↔
    ∃ (j : Nat) (x : α), j < i ∧ v[j]? = some (some x) ∧ p x = true := by
  simp only [List.any_eq_true, mem_below, Vector.getElem?_toList]
  exact ⟨fun ⟨x, ⟨j, hj, hx⟩, hp⟩ => ⟨j, x, hj, hx, hp⟩, fun ⟨j, x, hj, hx, hp⟩ => ⟨x, ⟨j, hj, hx⟩, hp⟩⟩

end conditions

section tables
variable (b : Bank) (i : Nat)

theorem Bank.failsIn_definitions : b.failsIn .definitions i ↔
    ∃ (d : ControllerDef) (j : Nat) (e : ControllerDef), b.definitions[i]? = some (some d) ∧ j < i
      ∧ b.definitions[j]? = some (some e) ∧ e.addr = d.addr := by
  simp only [Bank.failsIn, failsAt_toList_iff, definitionFails, any_below_iff, beq_iff_eq, ← exists_and_left]

theorem Bank.failsIn_stations : b.failsIn .stations i ↔
    ∃ (d : StationEntry) (j : Nat) (e : StationEntry), b.stations[i]? = some (some d) ∧ j < i
      ∧ b.stations[j]? = some (some e) ∧ e.addr = d.addr := by
  simp only [Bank.failsIn, failsAt_toList_iff, stationFails, any_below_iff, beq_iff_eq, ← exists_and_left]

theorem Bank.failsIn_grants : b.failsIn .grants i ↔
    ∃ (g : Grant) (n : Fin 32), b.grants[i]? = some (some g) ∧ g.controller = some n ∧ b.definitions[n] = none := by
  simp only [Bank.failsIn, failsAt_toList_iff, grantFails, Option.any_eq_true, Option.isNone_iff_eq_none, ← exists_and_left]

theorem Bank.failsIn_images : b.failsIn .images i ↔
    ∃ r : ImageRecord, b.images[i]? = some (some r)
      ∧ (b.definitions[r.controller] = none ∨ r.status ≠ .approved
        ∨ ∃ (j : Nat) (x : ImageRecord), j < i ∧ b.images[j]? = some (some x) ∧ x.key = r.key) := by
  simp only [Bank.failsIn, failsAt_toList_iff, imageFails, Bool.or_eq_true, any_below_iff, Option.isNone_iff_eq_none,
    Bool.not_eq_true', ImageRecord.hasKey_iff, Bool.eq_false_iff, ne_eq, ImageRecord.isApproved_iff, or_assoc]
  exact exists_congr fun r => and_congr_right fun _ => or_congr_right or_comm

end tables

/-- The number of controllers a bank defines is the number of its definitions (R143). -/
theorem definedCount_eq (b : Bank) : definedCount b = (records b.definitions).length := by
  rw [definedCount, records, ← List.countP_eq_length_filter, List.length_filterMap_eq_countP]
  rfl

/-! ## The round a selection cancels (R131) -/

section cancel
variable {s : State} {b : Bank} {r : Round}

/-- A scanner whose round has been given up, with no SUMMARY left waiting (R130, R131). -/
def State.roundDropped (s : State) : State := { s.removeSummary with round := none }

theorem State.cancelForSelection_idle (h : s.round = none) : s.cancelForSelection b = s := by
  rw [State.cancelForSelection, h]

theorem State.cancelForSelection_counted (h : s.round = some r) (hd : b.definitions[r.controller] ≠ none) :
    s.cancelForSelection b = s.roundDropped.postponeScan r.controller := by
  rw [State.cancelForSelection, h]
  exact if_pos (Option.isSome_iff_ne_none.2 hd)

theorem State.cancelForSelection_uncounted (h : s.round = some r) (hd : b.definitions[r.controller] = none) :
    s.cancelForSelection b = s.roundDropped := by
  rw [State.cancelForSelection, h]
  exact if_neg (by rw [hd]; nofun)

/-- What a cancellation leaves of the state, for the selection that follows it. -/
structure State.Cancelled (s u : State) : Prop where
  active : u.active = s.active
  shadow : u.shadow = s.shadow
  generation : u.generation = s.generation
  time : u.time = s.time
  timing : u.timing = s.timing
  destination : u.destination = s.destination
  stored : u.stored = s.stored
  history : u.history = s.history
  counters : u.counters = s.counters
  watches : u.watches = s.watches
  round : u.round = none
  controllers : ∀ n, (u.controller n).map (fun c => (c.window, c.mismatches))
    = (s.controller n).map fun c => (c.window, c.mismatches)

theorem State.postponeScan_controller (s : State) (m n : Fin 32) :
    ((s.postponeScan m).controller n).map (fun c => (c.window, c.mismatches))
      = (s.controller n).map fun c => (c.window, c.mismatches) := by
  have hmoved : ∀ f, ((s.updateSchedule m f).controller n).map (fun c => (c.window, c.mismatches))
      = (s.controller n).map fun c => (c.window, c.mismatches) := fun f => by
    rw [State.updateSchedule, State.controller_updateController]
    split
    · exact Option.map_map ..
    · rfl
  unfold State.postponeScan
  split
  · rfl
  · dsimp only
    split
    · rw [State.controller_post]
      exact hmoved _
    · exact hmoved _

theorem State.cancelForSelection_cancelled (s : State) (b : Bank) : s.Cancelled (s.cancelForSelection b) := by
  cases hr : s.round with
  | none =>
    rw [State.cancelForSelection_idle hr]
    exact ⟨rfl, rfl, rfl, rfl, rfl, rfl, rfl, rfl, rfl, rfl, hr, fun _ => rfl⟩
  | some r =>
    by_cases hd : b.definitions[r.controller] = none
    · rw [State.cancelForSelection_uncounted hr hd]
      exact ⟨rfl, rfl, rfl, rfl, rfl, rfl, rfl, rfl, rfl, rfl, rfl, fun _ => rfl⟩
    · rw [State.cancelForSelection_counted hr hd]
      have hcontrollers := fun n => s.roundDropped.postponeScan_controller r.controller n
      constructor
      case controllers => exact hcontrollers
      all_goals simp [State.roundDropped]

end cancel

/-! ## The selection (R22, R42, R131, R156) -/

section selection
variable {s : State}

/-- The banks exchanged, and every controller number as its definition in the new bank calls for. -/
def State.exchanged (u : State) : State := { u with
  active := u.shadow, shadow := u.active, generation := nextGeneration u.generation
  controllers := Vector.ofFn fun n => u.selectController u.controllers[n] u.shadow.definitions[n] }

theorem State.makeSelection_eq (s : State) {u : State} (hu : u = s.cancelForSelection s.shadow) :
    s.makeSelection = State.beginWrite { u.exchanged.post
      { kind := .bankSelected, time := u.time, first := some (BitVec.ofNat 32 (definedCount u.shadow)) } with
        fallback := false } := by
  rw [hu]
  rfl

theorem State.controller_makeSelection {u : State} (hu : u = s.cancelForSelection s.shadow) (n : Fin 32) :
    s.makeSelection.controller n = u.selectController (u.controller n) u.shadow.definitions[n] := by
  rw [State.makeSelection_eq s hu]
  refine (State.controller_post (s := u.exchanged) ..).trans ?_
  simp [State.exchanged, State.controller]

/-- A selection's controllers, each by its definition in the new bank (R22, R42, R131). -/
theorem State.controller_makeSelection_undefined {n : Fin 32} (hd : s.shadow.definitions[n] = none) :
    s.makeSelection.controller n = none := by
  rw [State.controller_makeSelection rfl, (s.cancelForSelection_cancelled _).shadow, hd]
  rfl

theorem State.controller_makeSelection_created {n : Fin 32} {d : ControllerDef} (hd : s.shadow.definitions[n] = some d)
    (hc : s.controller n = none) : s.makeSelection.controller n = some s.freshController := by
  have hcancelled := s.cancelForSelection_cancelled s.shadow
  have hnone : (s.cancelForSelection s.shadow).controller n = none := by simpa [hc] using hcancelled.controllers n
  rw [State.controller_makeSelection rfl, hcancelled.shadow, hd, hnone]
  simp [State.selectController, State.freshController, State.freshMonitor, State.freshSchedule, hcancelled.time,
    hcancelled.timing]

theorem State.controller_makeSelection_kept {n : Fin 32} {d : ControllerDef} {c : Controller}
    (hd : s.shadow.definitions[n] = some d) (hc : (s.cancelForSelection s.shadow).controller n = some c) :
    s.makeSelection.controller n = some { c with
      monitor := s.freshMonitor, schedule := { c.schedule with nextDue := s.time + 60000000 } } := by
  have hcancelled := s.cancelForSelection_cancelled s.shadow
  rw [State.controller_makeSelection rfl, hcancelled.shadow, hd, hc]
  simp [State.selectController, State.freshMonitor, hcancelled.time, hcancelled.timing, Config.scanDelay]

/-- A controller that was defined is kept through the cancellation, with its window and mismatch count. -/
theorem State.Cancelled.controller_of_some {u : State} {n : Fin 32} {b : Controller} (h : s.Cancelled u)
    (hb : s.controller n = some b) :
    ∃ c, u.controller n = some c ∧ c.window = b.window ∧ c.mismatches = b.mismatches := by
  have hkept := h.controllers n
  rw [hb] at hkept
  obtain ⟨c, hc, hsame⟩ := Option.map_eq_some_iff.1 hkept
  exact ⟨c, hc, congrArg Prod.fst hsame, congrArg Prod.snd hsame⟩

/-- What a selection makes of a controller number that the new bank defines. -/
theorem State.controller_makeSelection_defined {n : Fin 32} {d : ControllerDef} (hd : s.shadow.definitions[n] = some d) :
    ∃ c : Controller, s.makeSelection.controller n = some c ∧ c.monitor = s.freshMonitor
      ∧ c.schedule.nextDue = s.time + 60000000
      ∧ (s.controller n = none → c.window = .locked ∧ c.mismatches = 0 ∧ c.schedule.postponed = 0
        ∧ c.schedule.overdue = false)
      ∧ ∀ b, s.controller n = some b → c.window = b.window ∧ c.mismatches = b.mismatches := by
  cases hs : s.controller n with
  | none =>
    exact ⟨_, State.controller_makeSelection_created hd hs, rfl, rfl, fun _ => ⟨rfl, rfl, rfl, rfl⟩, nofun⟩
  | some b =>
    obtain ⟨c, hc, hw, hm⟩ := (s.cancelForSelection_cancelled s.shadow).controller_of_some hs
    refine ⟨_, State.controller_makeSelection_kept hd hc, rfl, rfl, nofun, fun b' hb => ?_⟩
    cases hb
    exact ⟨hw, hm⟩

/-- The banks, the store write and what a selection leaves as it is (R156). -/
theorem State.makeSelection_state (s : State) :
    s.makeSelection.active = s.shadow ∧ s.makeSelection.shadow = s.active
      ∧ s.makeSelection.generation = nextGeneration s.generation ∧ s.makeSelection.fallback = false
      ∧ s.makeSelection.round = none ∧ s.makeSelection.history = s.history ∧ s.makeSelection.counters = s.counters
      ∧ s.makeSelection.watches = s.watches ∧ s.makeSelection.timing = s.timing
      ∧ s.makeSelection.destination = s.destination ∧ s.makeSelection.stored = s.stored
      ∧ s.makeSelection.writing = some { bank := s.shadow, generation := nextGeneration s.generation, timing := s.timing
                                         destination := s.destination } := by
  have h := s.cancelForSelection_cancelled s.shadow
  simp [State.makeSelection, State.beginWrite, State.image, h.active, h.shadow, h.generation, h.timing, h.destination,
    h.stored, h.history, h.counters, h.watches, h.round]

/-- A selection posts its notice from the state in which the round has been given up. -/
theorem State.makeSelection_posts {u : State} (hu : u = s.cancelForSelection s.shadow) : s.makeSelection.NoticesAgree
    (u.post { kind := .bankSelected, time := u.time, first := some (BitVec.ofNat 32 (definedCount u.shadow)) }) := by
  have hagree : u.exchanged.NoticesAgree u := ⟨rfl, rfl, rfl, rfl, rfl, rfl⟩
  rw [State.makeSelection_eq s hu]
  exact State.post_agree hagree _

theorem State.makeSelection_line {u : State} (hu : u = s.cancelForSelection s.shadow) : s.makeSelection.line = u.line := by
  rw [State.makeSelection_eq s hu]
  exact State.post_line ..

end selection

/-! ## SELECT-BANK (R154) -/

section command
variable {s : State} {src : Addr} {args : List Byte}

theorem State.doSelectBank_already (hf : s.fallback = false) (hg : fieldAt args 0 4 = s.generation) :
    s.doSelectBank src args = (s, { status := .already, results := bytesOf 4 s.generation }) := if_pos ⟨hf, hg⟩

theorem State.doSelectBank_otherGeneration (h : s.fallback = true ∨ fieldAt args 0 4 ≠ s.generation)
    (hg : fieldAt args 0 4 ≠ nextGeneration s.generation) :
    s.doSelectBank src args = (s, { status := .state, results := bytesOf 4 s.generation }) := by
  have hnot : ¬ (s.fallback = false ∧ fieldAt args 0 4 = s.generation) := fun ⟨hf, hs⟩ =>
    h.elim (fun ht => Bool.false_ne_true (hf.symm.trans ht)) fun hne => hne hs
  exact (if_neg hnot).trans (if_pos hg)

theorem nextGeneration_ne {g : Nat} (h : fits32 g) : nextGeneration g ≠ g := by
  have hlt : g < 4294967296 := h
  unfold nextGeneration
  omega

/-- The next generation is not the one that is selected already, so the cases from the windows on decide. -/
theorem State.doSelectBank_next (hg : fieldAt args 0 4 = nextGeneration s.generation) (hfits : fits32 s.generation) :
    s.doSelectBank src args =
      if !s.readyForSelection then (s, { status := .state, results := bytesOf 4 s.generation })
      else if s.storeBusy then s.answer .storeBusy
      else match bankCheck s.shadow src with
        | some (t, i) => (s, { status := .bankCheck, results := bytesOf 1 t.code ++ optionBytes (bytesOf 2) i })
        | none => (s.makeSelection,
            { status := .ok
              results := bytesOf 4 (nextGeneration s.generation) ++ bytesOf 1 (definedCount s.shadow) }) := by
  have hnot : ¬ (s.fallback = false ∧ fieldAt args 0 4 = s.generation) := fun ⟨_, hs⟩ =>
    nextGeneration_ne hfits (hg.symm.trans hs)
  exact (if_neg hnot).trans (if_neg (not_not_intro hg))

theorem State.doSelectBank_notReady (hg : fieldAt args 0 4 = nextGeneration s.generation) (hfits : fits32 s.generation)
    (hready : s.readyForSelection = false) :
    s.doSelectBank src args = (s, { status := .state, results := bytesOf 4 s.generation }) := by
  rw [State.doSelectBank_next hg hfits, hready]
  rfl

theorem State.doSelectBank_storeBusy (hg : fieldAt args 0 4 = nextGeneration s.generation) (hfits : fits32 s.generation)
    (hready : s.readyForSelection = true) (hw : s.writing ≠ none) :
    s.doSelectBank src args = (s, { status := .storeBusy }) := by
  rw [State.doSelectBank_next hg hfits, hready]
  exact if_pos (Option.isSome_iff_ne_none.2 hw)

/-- With the generation next, everything settled and no write in flight the bank check decides. -/
theorem State.doSelectBank_ready (hg : fieldAt args 0 4 = nextGeneration s.generation) (hfits : fits32 s.generation)
    (hready : s.readyForSelection = true) (hw : s.writing = none) :
    (∀ t i, bankCheck s.shadow src = some (t, i) → s.doSelectBank src args =
      (s, { status := .bankCheck, results := bytesOf 1 t.code ++ optionBytes (bytesOf 2) i }))
    ∧ (bankCheck s.shadow src = none → s.doSelectBank src args = (s.makeSelection,
        { status := .ok
          results := bytesOf 4 (nextGeneration s.generation) ++ bytesOf 1 (definedCount s.shadow) })) := by
  have hidle : s.storeBusy = false := by rw [State.storeBusy, hw]; rfl
  rw [State.doSelectBank_next hg hfits, hready, hidle]
  exact ⟨fun t i hb => by rw [hb]; rfl, fun hb => by rw [hb]; rfl⟩

theorem State.readyForSelection_eq_false (h : (∃ n w, s.window? n = some w ∧ w ≠ .locked ∧ ∀ c, w ≠ .quarantined c)
    ∨ ∃ k, s.slot k ≠ .free) : s.readyForSelection = false := by
  refine Bool.eq_false_iff.2 fun hready => ?_
  obtain ⟨hwindows, hslots⟩ := s.readyForSelection_iff.1 hready
  obtain ⟨n, w, hw, hl, hq⟩ | ⟨k, hk⟩ := h
  · obtain hn | hn | ⟨c, hn⟩ := hwindows n <;> cases hw.symm.trans hn
    · exact hl rfl
    · exact hq c rfl
  · exact hk (hslots k)

theorem State.readyForSelection_of_shut (hw : ∀ n w, s.window? n = some w → w = .locked ∨ ∃ c, w = .quarantined c)
    (hk : ∀ k, s.slot k = .free) : s.readyForSelection = true := by
  refine s.readyForSelection_iff.2 ⟨fun n => ?_, hk⟩
  cases h : s.window? n with
  | none => exact .inl rfl
  | some w =>
    obtain rfl | ⟨c, rfl⟩ := hw n w h
    · exact .inr (.inl rfl)
    · exact .inr (.inr ⟨c, rfl⟩)

end command
end Sys2Proof.Machine

open Sys2Proof Sys2Proof.Machine

/-- Settles O55: the bank check table by table, the cases in their order, and the selection from the state in which the
round in flight has been given up. -/
theorem selectBankDecidesInOrder : Obligations.SelectBankDecidesInOrder := by
  refine ⟨fun b src => ?_, fun s p f htakes => ?_⟩
  · intro fails
    have hfails : fails = b.failsIn := by
      funext t i
      cases t
      · exact propext (b.failsIn_definitions i).symm
      · exact propext (b.failsIn_stations i).symm
      · exact propext (b.failsIn_grants i).symm
      · exact propext (b.failsIn_images i).symm
    rw [hfails]
    refine ⟨fun t i => ?_, fun t => ?_, ?_⟩
    · rw [bankCheck_eq_some_iff, Bank.firstIn_eq_some_iff, and_assoc]
      simp only [Bank.firstIn_eq_none_iff]
    · rw [bankCheck_eq_noManage_iff, Bank.manages_eq_false_iff]
      simp only [Bank.firstIn_eq_none_iff]
    · rw [bankCheck_eq_none_iff, Bank.manages_iff]
      simp only [Bank.firstIn_eq_none_iff]
  · have hrun : ∀ {t r}, s.doSelectBank f.src (f.payload.drop 8) = (t, r) →
        exec (.selectBank p f) s = .next (t.reply f .reply r) := fun hb => exec_managementInstr_body htakes nofun hb
    refine ⟨fun hf hg => hrun (State.doSelectBank_already hf hg),
      fun hf hg => hrun (State.doSelectBank_otherGeneration hf hg), fun hg =>
        ⟨fun hopen hfits => hrun (State.doSelectBank_notReady hg hfits (State.readyForSelection_eq_false hopen)),
          fun hw hk hfits => ?_⟩⟩
    have hready := State.readyForSelection_of_shut hw hk
    refine ⟨fun hbusy => hrun (State.doSelectBank_storeBusy hg hfits hready hbusy), fun hidle => ?_⟩
    obtain ⟨hfailed, hpassed⟩ := State.doSelectBank_ready (src := f.src) hg hfits hready hidle
    refine ⟨fun t i hb => hrun (hfailed t i hb), fun hb => ⟨s.makeSelection, ?_, ?_⟩⟩
    · rw [hrun (hpassed hb), definedCount_eq]
      rfl
    · obtain ⟨hactive, hshadow, hgeneration, hfallback, hround, hhistory, hcounters, hwatches, htiming, hdestination,
        hstored, hwriting⟩ := s.makeSelection_state
      have hcancelled := s.cancelForSelection_cancelled s.shadow
      refine ⟨hactive, hshadow, hgeneration, hfallback, hround, hhistory, hcounters, hwatches, htiming, hdestination,
        hstored, hwriting, fun n hd => State.controller_makeSelection_undefined hd,
        fun n d hd => State.controller_makeSelection_defined hd, s.cancelForSelection s.shadow,
        State.cancelForSelection_idle, fun r => State.cancelForSelection_counted, fun r => State.cancelForSelection_uncounted,
        State.makeSelection_line rfl, fun n b c hb hc => ?_, fun q hq => ?_⟩
      · cases hd : s.shadow.definitions[n] with
        | none => cases hc.symm.trans (State.controller_makeSelection_undefined hd)
        | some d => cases hc.symm.trans (State.controller_makeSelection_kept hd hb); rfl
      · obtain ⟨hnotices, hdropped, hplant, -⟩ := State.makeSelection_posts (s := s) rfl
        rw [hcancelled.time, hcancelled.shadow, definedCount_eq] at hnotices hdropped hplant
        rw [hq]
        exact ⟨hnotices, hdropped, hplant⟩
end
